-- ==== Sys2Proof/Word.lean ====
section
/-! DEFINITION. The bit-vector types of the FB2640: bytes on its lines, node-clock stamps, and the
fields of a frame header. -/

namespace Sys2Proof

/-- One byte, as sent on the air (R94), on the serial line (Table 11-3) or read from the configuration
memory (R178). -/
abbrev Byte := BitVec 8

/-- A node-clock value: a 32-bit count in units of 1/1024 s that wraps from 2³²−1 to 0 (R1). -/
abbrev Stamp := BitVec 32

/-- A fire zone as the header carries it, 0..63 (Table 5-2). -/
abbrev ZoneCode := BitVec 6

/-- A 12-bit acceptance key or mask (R128). -/
abbrev Key := BitVec 12

end Sys2Proof
end

