-- ==== Sys2Proof/Syntax.lean ====
section
/-! DEFINITION. The commands: one constructor per row of spec/opcode_table.json, in the table's order.
The table gives no operands; a command that carries something from outside the part (an image read, a
converter input, a received frame, a byte of the serial line, the level of a line) carries it here. -/

namespace Sys2Proof

/-- The two indicators (R174). -/
inductive Led where
  | red | amber
  deriving DecidableEq, Repr

/-- One step of the part: an operation or event of spec/opcode_table.json. -/
inductive Instr where
  /-- POWER_ON_RESET (R179). -/
  | powerOnReset
  /-- CONFIG_ATTEMPT (R178): the attempt in progress ends. `none`: the memory did not acknowledge its
  address or a byte. `some bs`: the 48 bytes read. `noise` is the noise byte the receiver samples from the
  channel if the event seeds the random generator (R121). -/
  | configAttempt (read : Option (List Byte)) (noise : Byte)
  /-- CONFIG_RETRY_GAP (R178). -/
  | configRetryGap
  /-- PRESCALER_UNDERFLOW (R2). -/
  | prescalerUnderflow
  /-- COUNT_STAGE_UNDERFLOW (R3). -/
  | countStageUnderflow
  /-- STAGE_START (R9). -/
  | stageStart
  /-- ONE_SHOT_FIRE (R10). -/
  | oneShotFire
  /-- EMITTER_OFF (R10). -/
  | emitterOff
  /-- CONVERSION_DONE (R11): `input` is the converter's held input on the scale of its result, before the
  limit to 0..1023. -/
  | conversionDone (input : Int)
  /-- RECORD_FIELD_COPY (R16). -/
  | recordFieldCopy
  /-- EVIDENCE_PUBLICATION (R23). -/
  | evidencePublication
  /-- CONFIRMING_LIMIT (R71). -/
  | confirmingLimit
  /-- WALK_TEST_EXPIRY (R81). -/
  | walkTestExpiry
  /-- TEST_SOUND_SPAN_END (R82). -/
  | testSoundSpanEnd
  /-- AMBER_EVENT_SPAN_END (R85). -/
  | amberEventSpanEnd
  /-- SUPERVISION_PERIOD_END (R57). -/
  | supervisionPeriodEnd
  /-- HALF_PERIOD_MARK (R120). -/
  | halfPeriodMark
  /-- BEACON_DUE (R120). -/
  | beaconDue
  /-- HOLDOFF_END (R107). -/
  | holdoffEnd
  /-- QUIET_GAP (R113). -/
  | quietGap
  /-- WINDOW_BOUNDARY (R113). -/
  | windowBoundary
  /-- BACKOFF_END (R119). -/
  | backoffEnd
  /-- WINDOW_WON (R114). -/
  | windowWon
  /-- SEND_COMPLETE (R118). -/
  | sendComplete
  /-- CARRIER_ONSET (R124): `us` is the moment of the leading edge in microseconds after this node's
  window boundary (R115): negative before the boundary the engine comes to, in WAIT, or in GAP and after a lost
  contention, where the end of the quiet gap is that boundary; 0 or more after the boundary that began the window,
  in WINDOW. It is read in those engine states only. -/
  | carrierOnset (us : Int)
  /-- CARRIER_END (R124): `us` is measured as in CARRIER_ONSET, and read only in WINDOW and after a lost
  contention. -/
  | carrierEnd (us : Int)
  /-- SYNC_FOUND (R125): `level` is the signal level averaged over the 16 sync bits, 0..127. -/
  | syncFound (level : BitVec 7)
  /-- BAD_LENGTH (R125): `len` is header byte 6 as taken. -/
  | badLength (len : Byte)
  /-- FRAME_END (R126): `bytes` are the header, body and CRC bytes taken into the assembly buffer. -/
  | frameEnd (bytes : List Byte)
  /-- SEEN_LIST_CHECK (R139). -/
  | seenListCheck
  /-- RELAY_OFFER (R140). -/
  | relayOffer
  /-- USE_DELIVERY (R133). -/
  | useDelivery
  /-- SEEN_ENTRY_EXPIRY (R138). -/
  | seenEntryExpiry
  /-- ECHO_WINDOW_EXPIRY (R148). -/
  | echoWindowExpiry
  /-- RESEND_TIME (R149). -/
  | resendTime
  /-- CHANNEL_CHECK (R163). -/
  | channelCheck
  /-- LISTEN_END (R163). -/
  | listenEnd
  /-- HUNT_EXPIRY (R164). -/
  | huntExpiry
  /-- LINGER_EXPIRY (R164). -/
  | lingerExpiry
  /-- RUN_HOLD_EXPIRY (R165). -/
  | runHoldExpiry
  /-- OSCILLATOR_START (R162). -/
  | oscillatorStart
  /-- TAMPER_LINE_CHANGE (R175): the level the line changes to; `true` is off the base. -/
  | tamperLineChange (offBase : Bool)
  /-- TAMPER_DEBOUNCE_END (R175). -/
  | tamperDebounceEnd
  /-- TEST_INPUT_CHANGE (R176): the level the input changes to. -/
  | testInputChange (pressed : Bool)
  /-- TEST_DEBOUNCE_END (R176). -/
  | testDebounceEnd
  /-- TEST_HOLD_2S (R176). -/
  | testHold2s
  /-- TEST_HOLD_5S (R176). -/
  | testHold5s
  /-- SOUNDER_STEP (R173). -/
  | sounderStep
  /-- INDICATOR_STEP (R174), of the indicator named. -/
  | indicatorStep (led : Led)
  /-- OVERLAY_END (R174). -/
  | overlayEnd
  /-- STATUS (R181). -/
  | status
  /-- PEERS (R63). -/
  | peers
  /-- PARK (R182). -/
  | park
  /-- RESTART (R182). -/
  | restart
  /-- WAKE (R182). -/
  | wake
  /-- SILENCE (R184), with the record's target-zone byte. -/
  | silence (zone : Byte)
  /-- RESET (R184), with the record's target-zone byte. -/
  | reset (zone : Byte)
  /-- TEST_ON (R184), with the record's target-zone byte. -/
  | testOn (zone : Byte)
  /-- TEST_OFF (R184), with the record's target-zone byte. -/
  | testOff (zone : Byte)
  /-- SERIAL_RECORD_TIMEOUT (R180). -/
  | serialRecordTimeout
  /-- ANSWER_SENT (R180). -/
  | answerSent
  /-- EVENT_RECORD_SENT (R183). -/
  | eventRecordSent
  /-- SYNTHESISER_LOCK (R119): the synthesiser reaches lock (`true`) or fails to hold it (`false`). -/
  | synthesiserLock (locked : Bool)
  /-- SERIAL_BYTE (R180). -/
  | serialByte (b : Byte)
  /-- REJECTED_SERIAL_RECORD (R180): a complete record: its type, payload and sum byte, and the length
  byte, which the payload's length equals. -/
  | rejectedSerialRecord (type : Byte) (payload : List Byte) (sum : Byte)
  /-- SELF_CHECK_CHIRP_END (R176). -/
  | selfCheckChirpEnd
  deriving DecidableEq, Repr

end Sys2Proof
end

