-- ==== Sys2Proof/Decode.lean ====
section
/-! DEFINITION. The words of the commands. No row of spec/opcode_table.json gives a command any bits, so no word
spells one. -/

namespace Sys2Proof

/-- The command a word spells by the table's bits: the table gives no row bits, so none. -/
def decodeTableWord (_nbits _w : Nat) : Option Instr := none

end Sys2Proof
end

