-- ==== Sys2Proof/Config.lean ====
section
/-! DEFINITION. The free values: what the manual leaves without a value while the part goes on. Each is
opaque: nothing in Lean can evaluate it, so a claim holds whatever it is. -/

namespace Sys2Proof

/-- FREE VALUE. The quotient of R35 when the span Δt of the heat ring is 0, as a function of the
dividend ΔT × 61440. R35 says that Δt is at least 127, so no run of a real node meets it; the manual
states no result there. (Log entry 3.) -/
opaque Config.rateOverNoSpan : Int → Int

/-- FREE VALUE. The "type answered" of a REJECT FRAMING when the record was abandoned before its type
byte arrived (R180, Table 11-4 state no value). The argument counts such rejects, so that each may carry
another value. (Log entry 4.) -/
opaque Config.typeOfUntypedRecord : Nat → Byte

end Sys2Proof
end

