-- ==== Sys2Proof/Machine/State.lean ====
section
/-! DEFINITION. The whole state of the FB2640, block by block, as plain data, and its value at reset.
Each block's docstring names the table or rule of the manual that lists its state. -/

namespace Sys2Proof.Machine

/-! ## Names -/

/-- The power phases (R161). -/
inductive Phase where
  | startUp | dormant | patrol | run
  deriving DecidableEq, Repr

/-- The roles of a node. -/
inductive Role where
  | detector | repeater | panelAttached
  deriving DecidableEq, Repr

/-- The alarm states (R66 to R72). -/
inductive AlarmState where
  | quiet | watch | confirming | alarm
  deriving DecidableEq, Repr

/-- The link states (R155). -/
inductive LinkState where
  | linked | strained | isolated
  deriving DecidableEq, Repr

/-- The battery classes (R170). -/
inductive Battery where
  | normal | low | critical | external
  deriving DecidableEq, Repr

/-- The frame classes (Table 5-3). -/
inductive FrameClass where
  | beacon | evidence | notice | control | alarm
  deriving DecidableEq, Repr

/-- The notice kinds (R84, R85, Table 5-2), with RADIO. -/
inductive NoticeKind where
  | heatSensor | opticalSaturated | chamberDirty | batteryLow | batteryCritical | tamper | peerLost
  | peerRestored | linkStrained | noPath | addressConflict | preAlarm | unconfirmed | radio
  deriving DecidableEq, Repr

/-- The alarm causes (R72). -/
inductive Cause where
  | smoke | heat | combined
  deriving DecidableEq, Repr

/-- The control commands (R77, R101). -/
inductive Command where
  | silence | reset | testOn | testOff
  deriving DecidableEq, Repr

/-- The corroboration modes (R69). -/
inductive CorrMode where
  | none | partner | heat | either | both
  deriving DecidableEq, Repr

/-! ## Frames (R96, R101, R102) -/

/-- The header fields (Table 5-2) other than the class and the body length, which the body gives. -/
structure Header where
  networkId : Byte
  hop : BitVec 4
  test : Bool
  sender : Byte
  origin : Byte
  zone : ZoneCode
  role : BitVec 2
  seq : Byte
  deriving DecidableEq, Repr

/-- The bodies of R101 and R102. A notice's subject is present for the kinds that carry one. -/
inductive Body where
  | beacon (status lv : Byte) (heard : List Byte)
  | evidence (lv : Byte) (state : AlarmState)
  | notice (kind : NoticeKind) (set : Bool) (subject : Option Byte)
  | control (cmd : Command) (zone : ZoneCode)
  | alarm (cause : Cause) (lv q hx : Byte)
  deriving DecidableEq, Repr

/-- A frame: header and body. -/
structure Frame where
  hdr : Header
  body : Body
  deriving DecidableEq, Repr

/-! ## The configuration image (Table 11-2) -/

/-- One acceptance filter (R128). -/
structure Filter where
  key : Key
  mask : Key
  relay : Bool
  use : Bool
  deriving DecidableEq, Repr

/-- The image in force, with its tuning fields as limited (R178). -/
structure Image where
  networkId : Byte
  address : Byte
  zone : ZoneCode
  role : Role
  channel : Nat
  periodCode : Nat
  gain : Nat
  heatFloor : Nat
  watch : Nat
  alarm : Nat
  solo : Nat
  confirm : Nat
  mode : CorrMode
  partners : Nat
  heatCorr : Nat
  suppress : Nat
  hopLimit : Nat
  filters : List Filter
  deriving DecidableEq, Repr

/-! ## Sensing Sequencer (chapter 1) -/

/-- The count stage (R3, R4). -/
structure SampleTimer where
  running : Bool
  count : Nat
  reload : Nat
  deriving DecidableEq, Repr

/-- The stages of a cycle (Table 1-1); stage 7 is the end of the cycle (R13). -/
inductive Stage where
  | idle | settle | dark | infrared | blue | heat | battery
  deriving DecidableEq, Repr

/-- A conversion of the cycle: D, Li, Lb, H, Vb. -/
inductive Conversion where
  | dark | infrared | blue | heat | battery
  deriving DecidableEq, Repr

/-- A field of the sample record, as the record mover copies it (Table 1-2). -/
inductive RecordField where
  | stamp | dark | infrared | blue | heat | battery | opticalValid | heatValid
  deriving DecidableEq, Repr

/-- A sample record (Table 1-2). -/
structure SampleRecord where
  stamp : Stamp
  dark : Nat
  infrared : Nat
  blue : Nat
  heat : Nat
  battery : Option Nat
  opticalValid : Bool
  heatValid : Bool
  deriving DecidableEq, Repr

/-- The states of a Sample Store buffer (section 1.6). -/
inductive BufferState where
  | free | filling | complete | copying
  deriving DecidableEq, Repr

/-- One buffer of the Sample Store. A FREE buffer keeps its stale fields (R14). -/
structure Buffer where
  state : BufferState
  record : SampleRecord
  deriving DecidableEq, Repr

/-- The record mover at work: the buffer it copies (`false` is buffer 0) and the fields still to copy,
the first of them in hand at the port (R16, R17). -/
structure Mover where
  buffer : Bool
  left : List RecordField
  deriving DecidableEq, Repr

/-- The sequencer, the converter, the Sample Store and the Evidence Unit's input. -/
structure Sensing where
  /-- IDLE, or RUNNING in the stage named (R7, R9). -/
  stage : Stage
  /-- The pending-request flag (R7). -/
  pendingRequest : Bool
  /-- The cycle counter: the count the next cycle will carry (R8). -/
  cycleCounter : BitVec 16
  /-- The count of the running, or the latest, cycle (R8, R11). -/
  cycle : BitVec 16
  /-- The buffer of the running cycle: `false` is buffer 0 (R15). -/
  buffer : Bool
  /-- The sensor rail, the two emitter drives and the battery divider (R9, R10). -/
  rail : Bool
  irEmitter : Bool
  blueEmitter : Bool
  divider : Bool
  /-- The delayed one-shot is armed (R10). -/
  oneShot : Bool
  /-- The conversion in progress (R11). -/
  converting : Option Conversion
  /-- The converter's output holding (R11). -/
  holding : Option (Conversion × Nat)
  /-- A stamp waiting for the store's port (R14, R17). -/
  stampWaiting : Option Stamp
  buffer0 : Buffer
  buffer1 : Buffer
  /-- The record mover (R16); while it is at work it holds the port, one field at a time (R17). -/
  mover : Option Mover
  /-- The Evidence Unit's input: EMPTY or HELD (R16, R18). -/
  input : Option SampleRecord
  /-- "Skipped samples" (R18). -/
  skipped : Nat
  deriving DecidableEq, Repr

/-! ## Evidence Unit (chapter 2) -/

/-- One entry of the heat ring (R34). -/
structure RingEntry where
  temp : Int
  stamp : Stamp
  deriving DecidableEq, Repr

/-- The Evidence Unit's state (the table of chapter 2). -/
structure Evidence where
  /-- IDLE (`none`), or BUSY with a record (R22). -/
  inHand : Option SampleRecord
  accI : Nat
  accB : Nat
  seedPending : Bool
  dirtyRaised : Bool
  ring : List RingEntry
  q : Nat
  hx : Nat
  lv : Nat
  settling : Nat
  opticalRun : Nat
  opticalRaised : Bool
  heatRun : Nat
  heatRaised : Bool
  deriving DecidableEq, Repr

/-! ## Peer Table (chapter 3) -/

/-- The states of a peer entry other than FREE, which is `none` in the table (Table 3-1). -/
inductive PeerState where
  | fresh | stale | lost
  deriving DecidableEq, Repr

/-- Pv with its stamp (Table 3-1). -/
structure PeerEvidence where
  value : Byte
  stamp : Stamp
  deriving DecidableEq, Repr

/-- One non-FREE peer entry (Table 3-1). -/
structure Peer where
  state : PeerState
  address : Byte
  zone : Option ZoneCode
  role : Option Role
  level : Nat
  heardAt : Stamp
  missed : Nat
  heard : Bool
  twoWay : Bool
  alarm : Option AlarmState
  pv : Option PeerEvidence
  deriving DecidableEq, Repr

/-- The Peer Table and Link Observer. -/
structure PeerTable where
  /-- Entries 0 to 15; `none` is FREE (R45). -/
  entries : List (Option Peer)
  /-- Indices of the LOST entries, in the order they became LOST (R53, R57). -/
  lossOrder : List Nat
  /-- The lost-subject list (R59). -/
  lostSubjects : List Byte
  conflictRaised : Bool
  conflictHeard : Bool
  quietCount : Nat
  /-- The beacon-listing flag (R61). -/
  listed : Bool
  /-- "Untracked" (R63). -/
  untracked : Nat
  /-- The supervision timer: stopped, or the end of the running period (R56). -/
  periodEnd : Option Stamp
  deriving DecidableEq, Repr

/-! ## Alarm Decision unit (chapter 4) -/

/-- An entry of the alarm origin list (R75). -/
structure OriginEntry where
  address : Byte
  zone : ZoneCode
  cause : Cause
  stamp : Stamp
  deriving DecidableEq, Repr

/-- An item of the active notice set (R84). -/
structure NoticeItem where
  kind : NoticeKind
  subject : Option Byte
  deriving DecidableEq, Repr

/-- The Alarm Decision unit's state (the table of chapter 4). -/
structure AlarmUnit where
  state : AlarmState
  confirmCount : Nat
  hysteresis : Nat
  /-- The confirming-limit timer: stopped, or its expiry (R71). -/
  limit : Option Stamp
  /-- The alarm origin list, oldest first (R75). -/
  origins : List OriginEntry
  silenced : Bool
  remote : Bool
  /-- Walk test: inactive, or its expiry (R81). -/
  walkTest : Option Stamp
  /-- When walk test last ended, until the next tick, for the two orders of R83. -/
  testEnded : Option Stamp
  /-- The test-sound span: stopped, or its expiry (R82). -/
  testSound : Option Stamp
  /-- The active notice set, in the order the items were added (R84). -/
  notices : List NoticeItem
  /-- The latest event stamp (R85). -/
  lastEvent : Option Stamp
  /-- The interval wanted: `true` is FAST (R88). -/
  wantFast : Bool
  deriving DecidableEq, Repr

/-! ## Frame Transmitter (chapter 6) -/

/-- The states of a queue entry (R106). -/
inductive TxState where
  | holdoff | waiting | contending | sending
  deriving DecidableEq, Repr

/-- An entry of the transmit queue (R106). `own` is the origin flag: OWN, else RELAY. -/
structure TxEntry where
  frame : Frame
  own : Bool
  state : TxState
  earliest : Stamp
  attempt : Option Nat
  deriving DecidableEq, Repr

/-- The states of the contention engine (R113). -/
inductive Engine where
  | idle | gap | wait | window | sending | deferred | backoff
  deriving DecidableEq, Repr

/-- The contention in hand, or just lost (R114 to R116): the code sent, the slot-0 edge in microseconds
after the node's own boundary (R115), the onset of the carrier that is on the channel in the window, if
any, whether the contention was lost, and the moment at which carrier last ended in the lost window, if it has: the
quiet gap of 2 ms that a loser hears is counted from it (R113, R116). -/
structure Contention where
  code : Nat
  edge : Int
  heard : Option Int
  lost : Bool
  quietFrom : Option Int
  deriving DecidableEq, Repr

/-- The synthesiser (R119). -/
inductive Synth where
  | stopped | starting | locked
  deriving DecidableEq, Repr

/-- The wake preambles (R95): LONG and SHORT. -/
inductive Preamble where
  | short | long
  deriving DecidableEq, Repr

/-- The frame on the air, part after part in the order of R94: the wake preamble, the sync pattern, then the header,
body and CRC bytes (R117). `OnAir.bits` gives the run of bits. -/
structure OnAir where
  preamble : Preamble
  sync : BitVec 16
  bytes : List Byte
  deriving DecidableEq, Repr

/-- The Frame Transmitter's state (the table of chapter 6). -/
structure Transmitter where
  /-- The transmit queue, in acceptance order (R106). -/
  queue : List TxEntry
  /-- The one-hop count (R100, R108). -/
  oneHop : Byte
  engine : Engine
  contention : Option Contention
  /-- The boundary grid: absent, or the node clock at the latest boundary (R113). -/
  grid : Option Stamp
  synth : Synth
  radioFault : Bool
  /-- The end of BACKOFF (R119). -/
  backoff : Option Stamp
  onAir : Option OnAir
  /-- The full-period and half-period beacon due times, and the half-period mark (R120). -/
  beaconDue : Option Stamp
  halfDue : Option Stamp
  halfMark : Option Stamp
  /-- The random generator (R121). -/
  rng : BitVec 16
  /-- "Queue drops" and "contention losses" (R122). -/
  drops : Nat
  losses : Nat
  deriving DecidableEq, Repr

/-! ## Frame Receiver (chapter 7) -/

/-- The receiver states (R124). -/
inductive RxState where
  | off | listening | syncHunt | assembling | flushing
  deriving DecidableEq, Repr

/-- A READY or IN_SERVICE receive slot (R129); a FREE slot is `none`. -/
structure Slot where
  frame : Frame
  relay : Bool
  use : Bool
  arrival : Stamp
  inService : Bool
  deriving DecidableEq, Repr

/-- The steps of a service (R132). -/
inductive ServiceStep where
  | seenCheck | relayOffer | useDelivery
  deriving DecidableEq, Repr

/-- The dispatcher at work: the slot in service and the step handed over (R131). -/
structure Service where
  slot : Nat
  step : ServiceStep
  deriving DecidableEq, Repr

/-- The overrun capture (R130): header bytes 0 to 6 as received, and the stamp. -/
structure Capture where
  header : List Byte
  stamp : Stamp
  deriving DecidableEq, Repr

/-- The Frame Receiver's state (the table of chapter 7). -/
structure Receiver where
  state : RxState
  /-- Carrier is on the channel: the antenna's side of R124, whether or not the receiver is on. -/
  carrier : Bool
  /-- The assembly buffer: empty, or a partial frame with this signal level (R125). -/
  assembly : Option Nat
  /-- Slots 0 to 3 (R129). -/
  slots : List (Option Slot)
  /-- Indices of the occupied slots in order of arrival (R129). -/
  order : List Nat
  /-- The dispatcher: idle, or serving (R131). -/
  service : Option Service
  capture : Option Capture
  /-- "Bad frames", "foreign", "overruns" (R135). -/
  badFrames : Nat
  foreign : Nat
  overruns : Nat
  deriving DecidableEq, Repr

/-! ## Relay Engine (chapter 8) -/

/-- The relay statuses (R138). -/
inductive RelayStatus where
  | none | pending | sent | cancelled | notRelaying
  deriving DecidableEq, Repr

/-- An entry of the seen list (R138). -/
structure SeenEntry where
  origin : Byte
  seq : Byte
  cls : FrameClass
  firstHeard : Stamp
  copies : Nat
  status : RelayStatus
  deriving DecidableEq, Repr

/-- The states of an echo watch entry, with the time R144 gives each. -/
inductive WatchState where
  | window (expiry : Stamp)
  | retryQueued
  | resendWait (time : Stamp)
  | echoed
  deriving DecidableEq, Repr

/-- An entry of the echo watch list (R144); its sequence and class are those of its frame. -/
structure WatchEntry where
  frame : Frame
  attempt : Nat
  state : WatchState
  deriving DecidableEq, Repr

/-- The Relay Engine's state (the table of chapter 8). -/
structure RelayEngine where
  /-- The seen list, in order of creation (R138). -/
  seen : List SeenEntry
  /-- The echo watch list, in order of opening (R144). -/
  watch : List WatchEntry
  /-- The origin sequence counter (R99). -/
  originSeq : Byte
  deriving DecidableEq, Repr

/-! ## Link Health Monitor (chapter 9) -/

/-- The two counts (R152, R153); the link state is a function of them (R155: `Link.state`). -/
structure Link where
  efc : Nat
  rfc : Nat
  deriving DecidableEq, Repr

/-! ## Power Controller (chapter 10) -/

/-- The claims on the high-speed oscillator that stand (R162). The event claim is the wake sources' (R169): it
stands from a wake source's event until the oscillator it started runs (log entry 17). -/
structure Claims where
  receiver : Bool
  sensing : Bool
  transmit : Bool
  serial : Bool
  output : Bool
  event : Bool
  deriving DecidableEq, Repr

/-- The high-speed oscillator (R162). -/
inductive Oscillator where
  | stopped | starting | running
  deriving DecidableEq, Repr

/-- The Power Controller's state (the table of chapter 10). -/
structure Power where
  phase : Phase
  /-- In DORMANT: entered by a PARK, so that the parked pattern is shown (R167). -/
  parked : Bool
  /-- The end of a channel check's listen (R163). -/
  listen : Option Stamp
  hunt : Option Stamp
  frameHold : Bool
  linger : Option Stamp
  /-- The alarm-side RUN cause (R165). -/
  alarmCause : Bool
  runHold : Option Stamp
  /-- When PATROL was last entered from RUN, for the two orders of R165. -/
  leftRun : Option Stamp
  battery : Battery
  claims : Claims
  oscillator : Oscillator
  deriving DecidableEq, Repr

/-! ## Output Driver (chapter 11) -/

/-- The sounder patterns (Table 11-1). -/
inductive Sound where
  | localAlarm | remoteAlarm | test | faultChirp
  deriving DecidableEq, Repr

/-- The red indicator states (R174). -/
inductive RedPattern where
  | off | alarmFlash | watchBlink
  deriving DecidableEq, Repr

/-- The amber patterns (R174). -/
inductive AmberPattern where
  | dark | config | parked | isolated | notice
  deriving DecidableEq, Repr

/-- A pattern being played: which, the step reached, and the end of that step (absent where the step has
none). -/
structure Playing (π : Type) where
  pattern : π
  step : Nat
  ends : Option Stamp
  deriving DecidableEq, Repr

/-- The overlays (R175, R176). -/
inductive OverlayKind where
  | tamper | selfCheck
  deriving DecidableEq, Repr

/-- An overlay in progress and its end. -/
structure Overlay where
  kind : OverlayKind
  ends : Stamp
  deriving DecidableEq, Repr

/-- The hold timing of the test input (R176): not timed; a press made during START-UP, to be timed from
its end; or timed from a stamp, with the two points already acted at. -/
inductive Hold where
  | none
  | startUpPress
  | since (start : Stamp) (acted2 acted5 : Bool)
  deriving DecidableEq, Repr

/-- The Output Driver's state (sections 11.1 to 11.3). -/
structure Outputs where
  /-- The playing sounder pattern (R173). -/
  sounder : Option (Playing Sound)
  /-- The end of a self-check's chirp (R176). -/
  chirp : Option Stamp
  red : Playing RedPattern
  amber : Playing AmberPattern
  overlay : Option Overlay
  /-- The tamper line: its level, its debounced state (`true` is OFF_BASE) and a debounce's end (R175). -/
  tamperLine : Bool
  offBase : Bool
  tamperDebounce : Option Stamp
  /-- The test input: its level, its debounced state and a debounce's end (R176). -/
  testLine : Bool
  testPressed : Bool
  testDebounce : Option Stamp
  hold : Hold
  deriving DecidableEq, Repr

/-! ## Configuration Loader and Serial Line Controller (chapter 11) -/

/-- The refusal causes of a read (R178). -/
inductive ReadCause where
  | absent | check | version | field
  deriving DecidableEq, Repr

/-- A read in progress (R178): the attempt (1..3), the end of the retry gap when it waits for the next
attempt, and whether it is an exit read (R168). -/
structure Reading where
  attempt : Nat
  gap : Option Stamp
  exit : Bool
  deriving DecidableEq, Repr

/-- The Configuration Loader. -/
structure Loader where
  /-- The image in force. -/
  image : Option Image
  /-- The clamp list, as byte numbers of the image (R178, Table 11-5). -/
  clamps : List Nat
  cause : Option ReadCause
  read : Option Reading
  deriving DecidableEq, Repr

/-- What the end of an answer's sending sets off (R182). -/
inductive AnswerAction where
  | none | park | restart
  deriving DecidableEq, Repr

/-- An answer owed or being sent: the whole record, and what its end sets off. -/
structure Answer where
  bytes : List Byte
  action : AnswerAction
  deriving DecidableEq, Repr

/-- The kinds of an EVENT record (R183). -/
inductive EventKind where
  | alarm | testAlarm | notice | controlApplied | ownNotice | ownEvent
  deriving DecidableEq, Repr

/-- An EVENT record (Table 11-7); `lost` is written when its sending begins. -/
structure EventRecord where
  kind : EventKind
  origin : Byte
  zone : ZoneCode
  code : Byte
  sense : Bool
  subject : Option Byte
  q : Byte
  hx : Byte
  lv : Byte
  stamp : Stamp
  lost : Bool
  deriving DecidableEq, Repr

/-- What the serial transmitter is sending. -/
inductive SerialTx where
  | idle | answer | event
  deriving DecidableEq, Repr

/-- The Serial Line Controller (R180, R183). -/
structure Serial where
  /-- The record being received: hunting (`none`), or the bytes after the start byte. -/
  rx : Option (List Byte)
  /-- The record timeout (R180). -/
  timeout : Option Stamp
  /-- Answers owed, in the order of the records they answer; the first is the one being sent while `tx` is
  `answer`. -/
  answers : List Answer
  tx : SerialTx
  /-- The panel record queue, oldest first; the first is being sent while `tx` is `event` (R183). -/
  panel : List EventRecord
  lost : Bool
  deriving DecidableEq, Repr

/-! ## The node and the machine -/

/-- Every register, buffer, counter, timer, mode and line of the part. -/
structure Node where
  /-- The node clock (R1). -/
  clock : Stamp
  timer : SampleTimer
  sensing : Sensing
  evidence : Evidence
  peers : PeerTable
  alarm : AlarmUnit
  tx : Transmitter
  rx : Receiver
  relay : RelayEngine
  link : Link
  power : Power
  out : Outputs
  loader : Loader
  serial : Serial
  /-- The MODEL's own: how many rejects of untyped records have read a free value (log entry 4). -/
  untypedRejects : Nat
  deriving DecidableEq, Repr

/-- The machine: the node, and the commands that wait, first in, first out. -/
structure State where
  node : Node
  pending : List Instr
  deriving DecidableEq, Repr

/-- Why a step can stop the machine. The manual gives the part no such event: every command ends in a next
state, so this type has no constructor, and a step cannot answer a fault. -/
inductive Fault where
  deriving DecidableEq, Repr

/-- Why a command can be refused. -/
inductive Refusal where
  /-- Raised by an arm of exec whose command has no meaning yet. Safe: nothing is claimed of it. -/
  | notModelled (mnemonic : String)
  deriving DecidableEq, Repr

/-! ## Reset values -/

/-- A record's fields before anything is written, and again in both buffers after every reset: DESIGN CHOICE, all 0
(log entry 1). The manual says only that the buffers are then FREE (R15, Table 1-3). -/
def SampleRecord.blank : SampleRecord where
  stamp := 0
  dark := 0
  infrared := 0
  blue := 0
  heat := 0
  battery := none
  opticalValid := false
  heatValid := false

/-- Table 1-3, power-on. What the stopped count stage holds is a DESIGN CHOICE (log entry 1): Table 1-3 gives count 1
and reload 64 from the end of start-up only, and R4 says that a stopped stage keeps no count; the model names count 0
and reload 64, and every start loads both. -/
def SampleTimer.stopped : SampleTimer where
  running := false
  count := 0
  reload := 64

/-- Table 1-3, power-on. -/
def Sensing.powerOn : Sensing where
  stage := .idle
  pendingRequest := false
  cycleCounter := 0
  cycle := 0
  buffer := false
  rail := false
  irEmitter := false
  blueEmitter := false
  divider := false
  oneShot := false
  converting := none
  holding := none
  stampWaiting := none
  buffer0 := ⟨.free, .blank⟩
  buffer1 := ⟨.free, .blank⟩
  mover := none
  input := none
  skipped := 0

/-- Table 2-9, power-on (R44). -/
def Evidence.powerOn : Evidence where
  inHand := none
  accI := 0
  accB := 0
  seedPending := true
  dirtyRaised := false
  ring := []
  q := 0
  hx := 0
  lv := 0
  settling := 8
  opticalRun := 0
  opticalRaised := false
  heatRun := 0
  heatRaised := false

/-- Table 3-4 (R64). -/
def PeerTable.empty : PeerTable where
  entries := List.replicate 16 none
  lossOrder := []
  lostSubjects := []
  conflictRaised := false
  conflictHeard := false
  quietCount := 0
  listed := false
  untracked := 0
  periodEnd := none

/-- Table 4-1 (R93). -/
def AlarmUnit.atReset : AlarmUnit where
  state := .quiet
  confirmCount := 0
  hysteresis := 0
  limit := none
  origins := []
  silenced := false
  remote := false
  walkTest := none
  testEnded := none
  testSound := none
  notices := []
  lastEvent := none
  wantFast := false

/-- Table 6-4, power-on; the generator before its seed is a DESIGN CHOICE (log entry 1). -/
def Transmitter.powerOn : Transmitter where
  queue := []
  oneHop := 0
  engine := .idle
  contention := none
  grid := none
  synth := .stopped
  radioFault := false
  backoff := none
  onAir := none
  beaconDue := none
  halfDue := none
  halfMark := none
  rng := 1
  drops := 0
  losses := 0

/-- Table 7-1 (R136), with no carrier on the channel (log entry 1). -/
def Receiver.powerOn : Receiver where
  state := .off
  carrier := false
  assembly := none
  slots := List.replicate 4 none
  order := []
  service := none
  capture := none
  badFrames := 0
  foreign := 0
  overruns := 0

/-- Table 8-1 (R151); the counter before its seed is a DESIGN CHOICE (log entry 1). -/
def RelayEngine.powerOn : RelayEngine where
  seen := []
  watch := []
  originSeq := 0

/-- Table 9-2 (R159). -/
def Link.zero : Link where
  efc := 0
  rfc := 0

/-- No claim stands (R162). -/
def Claims.none : Claims where
  receiver := false
  sensing := false
  transmit := false
  serial := false
  output := false
  event := false

/-- Table 10-2, power-on (R172); the oscillator runs in START-UP (R162). -/
def Power.powerOn : Power where
  phase := .startUp
  parked := false
  listen := none
  hunt := none
  frameHold := false
  linger := none
  alarmCause := false
  runHold := none
  leftRun := none
  battery := .normal
  claims := .none
  oscillator := .running

/-- R177 and Table 10-3, power-on, with the head on its base and the button released (log entry 1). -/
def Outputs.powerOn : Outputs where
  sounder := none
  chirp := none
  red := ⟨.off, 0, none⟩
  amber := ⟨.dark, 0, none⟩
  overlay := none
  tamperLine := false
  offBase := false
  tamperDebounce := none
  testLine := false
  testPressed := false
  testDebounce := none
  hold := .none

/-- R179: after a power-on reset the first attempt of the image read is in progress. That no image is in force, the
clamp list is empty and no cause stands before that read ends is a DESIGN CHOICE (log entry 37): the manual gives
them no reset value, and R178 lets the cause or the clamp list stand until the next read ends. -/
def Loader.powerOn : Loader where
  image := none
  clamps := []
  cause := none
  read := some ⟨1, none, false⟩

/-- R180, R183: the controller hunts, owes nothing and holds no record. -/
def Serial.empty : Serial where
  rx := none
  timeout := none
  answers := []
  tx := .idle
  panel := []
  lost := false

/-- The node right after a power-on reset (R179 and each chapter's reset table). -/
def Node.powerOn : Node where
  clock := 0
  timer := .stopped
  sensing := .powerOn
  evidence := .powerOn
  peers := .empty
  alarm := .atReset
  tx := .powerOn
  rx := .powerOn
  relay := .powerOn
  link := .zero
  power := .powerOn
  out := .powerOn
  loader := .powerOn
  serial := .empty
  untypedRejects := 0

/-- The machine right after a power-on reset: START-UP, with no command waiting. -/
def State.reset : State where
  node := .powerOn
  pending := []

end Sys2Proof.Machine
end

