-- ==== Sys2Proof/Machine/Bits.lean ====
section
/-! DEFINITION. Shared arithmetic: limits, saturating counts, node-clock differences and durations, bytes,
the CRC and the random generator's step. -/

namespace Sys2Proof.Machine

/-- A result limited to 0..hi (the manual's Conventions). -/
def limitNat (hi : Nat) (x : Int) : Nat := min hi x.toNat

/-- A result limited to lo..hi. -/
def limitInt (lo hi x : Int) : Int := max lo (min hi x)

/-- A statistic counting up: it holds 0..255 and saturates (R18, R63, R122, R135). -/
def countUp (n : Nat) : Nat := min 255 (n + 1)

/-- The interval from `since` to `now`, modulo 2³² (R1). -/
def elapsed (now since : Stamp) : Nat := (now - since).toNat

/-- The node clock has reached an expiry; a difference of 2³¹ or more is a time still to come (R1, R160). -/
def reached (now expiry : Stamp) : Bool := elapsed now expiry < 2147483648

/-- A timer that runs and whose expiry the node clock has reached (R160). -/
def due (now : Stamp) : Option Stamp → Bool
  | none => false
  | some e => reached now e

/-- A duration in milliseconds as node-clock ticks (R141, R160). -/
def ticksOfMs (ms : Nat) : Nat := ms * 1024 / 1000

/-- The stamp `t` ticks after `s`. -/
def later (s : Stamp) (t : Nat) : Stamp := s + BitVec.ofNat 32 t

/-- A value as one byte. -/
def byte (n : Nat) : Byte := BitVec.ofNat 8 n

/-- A value in two bytes, most significant first (R181). -/
def bytes2 (n : Nat) : List Byte := [byte (n / 256), byte n]

/-- A value in four bytes, most significant first (R181). -/
def bytes4 (s : Stamp) : List Byte :=
  [s.extractLsb' 24 8, s.extractLsb' 16 8, s.extractLsb' 8 8, s.extractLsb' 0 8]

/-- A flag as a byte. -/
def flagByte (b : Bool) : Byte := if b then 1 else 0

/-- One bit taken into the CRC: generator x¹⁶ + x¹² + x⁵ + 1 (R105). -/
def crcBit (r : BitVec 16) (b : Bool) : BitVec 16 :=
  if (r.msb != b) then (r <<< 1) ^^^ 0x1021#16 else r <<< 1

/-- One byte taken into the CRC, most significant bit first (R105). -/
def crcByte (r : BitVec 16) (b : Byte) : BitVec 16 :=
  [7, 6, 5, 4, 3, 2, 1, 0].foldl (fun acc i => crcBit acc (b.getLsbD i)) r

/-- The CRC of a run of bytes, preset to all ones and not inverted (R105). -/
def crc (bs : List Byte) : BitVec 16 := bs.foldl crcByte 0xFFFF#16

/-- The two CRC bytes, high byte first (R94, R105). -/
def crcBytes (bs : List Byte) : List Byte :=
  [(crc bs).extractLsb' 8 8, (crc bs).extractLsb' 0 8]

/-- The sum of a run of bytes, mod 256 (Table 11-2, Table 11-3). -/
def byteSum (bs : List Byte) : Byte := bs.foldl (· + ·) 0

/-- One step of the random generator (R121): the new bit is the parity of the bits of values 32768, 8192,
4096 and 1024. -/
def rngStep (r : BitVec 16) : BitVec 16 :=
  let bit := (r.getLsbD 15 != r.getLsbD 13) != (r.getLsbD 12 != r.getLsbD 10)
  (r <<< 1) ||| (if bit then 1#16 else 0#16)

/-- One draw: 16 steps, and the value that results (R121). -/
def rngDraw (r : BitVec 16) : BitVec 16 := (List.range 16).foldl (fun x _ => rngStep x) r

/-- Replace the element at an index. -/
def setAt {α : Type} : List α → Nat → α → List α
  | [], _, _ => []
  | _ :: xs, 0, y => y :: xs
  | x :: xs, i + 1, y => x :: setAt xs i y

/-- The index of the first element that passes, counted from `i`. -/
def indexFrom {α : Type} (p : α → Bool) (i : Nat) : List α → Option Nat
  | [] => none
  | x :: xs => if p x then some i else indexFrom p (i + 1) xs

/-- The index of the first element that passes. -/
def indexOf {α : Type} (p : α → Bool) (xs : List α) : Option Nat := indexFrom p 0 xs

/-- The index of the last element that passes, counted from `i`. -/
def lastIndexFrom {α : Type} (p : α → Bool) (i : Nat) : List α → Option Nat
  | [] => none
  | x :: xs =>
    match lastIndexFrom p (i + 1) xs with
    | some j => some j
    | none => if p x then some i else none

/-- The index of the last element that passes. -/
def lastIndexOf {α : Type} (p : α → Bool) (xs : List α) : Option Nat := lastIndexFrom p 0 xs

/-- The list without the element at an index. -/
def removeAt {α : Type} : List α → Nat → List α
  | [], _ => []
  | _ :: xs, 0 => xs
  | x :: xs, i + 1 => x :: removeAt xs i

/-- Change the first element that passes. -/
def updateFirst {α : Type} (p : α → Bool) (f : α → α) : List α → List α
  | [] => []
  | x :: xs => if p x then f x :: xs else x :: updateFirst p f xs

/-- Remove the first element that passes. -/
def removeFirst {α : Type} (p : α → Bool) : List α → List α
  | [] => []
  | x :: xs => if p x then xs else x :: removeFirst p xs

/-- Insert into a list ordered by `before`, after the elements that `x` is not strictly before. -/
def insertBy {α : Type} (before : α → α → Bool) (x : α) : List α → List α
  | [] => [x]
  | y :: ys => if before x y then x :: y :: ys else y :: insertBy before x ys

/-- A list put in order, equal elements kept in their order. -/
def sortBy {α : Type} (before : α → α → Bool) (xs : List α) : List α :=
  xs.foldl (fun acc x => insertBy before x acc) []

/-- A list without repeats. -/
def distinct : List Byte → List Byte
  | [] => []
  | x :: xs => if xs.contains x then distinct xs else x :: distinct xs

end Sys2Proof.Machine
end

