-- ==== Sys2Proof/Machine/Frames.lean ====
section
/-! DEFINITION. Frames on the air (chapter 5): codes, the layout of headers and bodies, well-formedness, the
acceptance key and the contention code. -/

namespace Sys2Proof.Machine

/-! ## Codes (Tables 5-2 and 5-3) -/

/-- The class code, which is also its rank (R97). -/
def FrameClass.code : FrameClass → BitVec 3
  | .beacon => 1
  | .evidence => 2
  | .notice => 3
  | .control => 4
  | .alarm => 5

/-- The rank (R97). -/
def FrameClass.rank (c : FrameClass) : Nat := c.code.toNat

/-- ALARM, CONTROL and NOTICE are relayable (R97). -/
def FrameClass.relayable : FrameClass → Bool
  | .beacon => false
  | .evidence => false
  | .notice => true
  | .control => true
  | .alarm => true

/-- The class a code names; 0, 6 and 7 name none (R97). -/
def FrameClass.ofCode (b : BitVec 3) : Option FrameClass :=
  match b.toNat with
  | 1 => some .beacon
  | 2 => some .evidence
  | 3 => some .notice
  | 4 => some .control
  | 5 => some .alarm
  | _ => none

/-- The alarm state's code (R102). -/
def AlarmState.code : AlarmState → BitVec 2
  | .quiet => 0
  | .watch => 1
  | .confirming => 2
  | .alarm => 3

/-- The alarm state a 2-bit code names. -/
def AlarmState.ofCode (b : BitVec 2) : AlarmState :=
  match b.toNat with
  | 0 => .quiet
  | 1 => .watch
  | 2 => .confirming
  | _ => .alarm

/-- The link state's code (R102). -/
def LinkState.code : LinkState → BitVec 2
  | .linked => 0
  | .strained => 1
  | .isolated => 2

/-- The battery class's code (R102). -/
def Battery.code : Battery → BitVec 2
  | .normal => 0
  | .low => 1
  | .critical => 2
  | .external => 3

/-- The power state's code in the BEACON status byte and STATUS: DORMANT 0, PATROL 1, RUN 2 (R102,
Table 11-5). START-UP is no power state; nothing that carries the code is built in it (R161). -/
def Phase.code : Phase → BitVec 2
  | .startUp => 0
  | .dormant => 0
  | .patrol => 1
  | .run => 2

/-- The role's code (R96). -/
def Role.code : Role → BitVec 2
  | .detector => 0
  | .repeater => 1
  | .panelAttached => 2

/-- The role a code names; 3 names none (R96, R49). -/
def Role.ofCode (b : BitVec 2) : Option Role :=
  match b.toNat with
  | 0 => some .detector
  | 1 => some .repeater
  | 2 => some .panelAttached
  | _ => none

/-- A zone code as a receiver keeps it: 0 is unknown (R49, R96). -/
def zoneOfCode (z : ZoneCode) : Option ZoneCode := if z = 0 then none else some z

/-- The notice kind's code (Table 5-2), with RADIO as 14 (Table 11-5). -/
def NoticeKind.code : NoticeKind → Byte
  | .heatSensor => 1
  | .opticalSaturated => 2
  | .chamberDirty => 3
  | .batteryLow => 4
  | .batteryCritical => 5
  | .tamper => 6
  | .peerLost => 7
  | .peerRestored => 8
  | .linkStrained => 9
  | .noPath => 10
  | .addressConflict => 11
  | .preAlarm => 12
  | .unconfirmed => 13
  | .radio => 14

/-- The kind a NOTICE body's code names: 1..13 (R103). -/
def NoticeKind.ofCode (b : Byte) : Option NoticeKind :=
  match b.toNat with
  | 1 => some .heatSensor
  | 2 => some .opticalSaturated
  | 3 => some .chamberDirty
  | 4 => some .batteryLow
  | 5 => some .batteryCritical
  | 6 => some .tamper
  | 7 => some .peerLost
  | 8 => some .peerRestored
  | 9 => some .linkStrained
  | 10 => some .noPath
  | 11 => some .addressConflict
  | 12 => some .preAlarm
  | 13 => some .unconfirmed
  | _ => none

/-- Kinds 7, 8 and 11 carry a subject (R101). -/
def NoticeKind.hasSubject : NoticeKind → Bool
  | .peerLost => true
  | .peerRestored => true
  | .addressConflict => true
  | _ => false

/-- The event kinds are sent with sense 1 only (R101, R103). -/
def NoticeKind.isEvent : NoticeKind → Bool
  | .peerRestored => true
  | .noPath => true
  | .unconfirmed => true
  | _ => false

/-- The cause's code (R101). -/
def Cause.code : Cause → Byte
  | .smoke => 1
  | .heat => 2
  | .combined => 3

/-- The cause a code names. -/
def Cause.ofCode (b : Byte) : Option Cause :=
  match b.toNat with
  | 1 => some .smoke
  | 2 => some .heat
  | 3 => some .combined
  | _ => none

/-- The command's code (R101). -/
def Command.code : Command → Byte
  | .silence => 1
  | .reset => 2
  | .testOn => 3
  | .testOff => 4

/-- The command a code names. -/
def Command.ofCode (b : Byte) : Option Command :=
  match b.toNat with
  | 1 => some .silence
  | 2 => some .reset
  | 3 => some .testOn
  | 4 => some .testOff
  | _ => none

/-! ## Frames -/

/-- The class of a body. -/
def Body.cls : Body → FrameClass
  | .beacon .. => .beacon
  | .evidence .. => .evidence
  | .notice .. => .notice
  | .control .. => .control
  | .alarm .. => .alarm

/-- The class of a frame. -/
def Frame.cls (f : Frame) : FrameClass := f.body.cls

/-- The body bytes (R101, R102, Table 5-2). -/
def Body.bytes : Body → List Byte
  | .beacon status lv heard => status :: lv :: byte heard.length :: heard
  | .evidence lv state => [lv, state.code.zeroExtend 8]
  | .notice kind set subject => [kind.code, flagByte set] ++ subject.toList
  | .control cmd zone => [cmd.code, zone.zeroExtend 8]
  | .alarm cause lv q hx => [cause.code, lv, q, hx]

/-- The seven header bytes (Table 5-2). -/
def Frame.headerBytes (f : Frame) : List Byte :=
  [ f.hdr.networkId,
    f.cls.code ++ f.hdr.hop ++ BitVec.ofBool f.hdr.test,
    f.hdr.sender,
    f.hdr.origin,
    f.hdr.zone ++ f.hdr.role,
    f.hdr.seq,
    byte f.body.bytes.length ]

/-- The header and body as sent (R94). -/
def Frame.bytes (f : Frame) : List Byte := f.headerBytes ++ f.body.bytes

/-- Header, body and CRC as sent (R94). -/
def Frame.wire (f : Frame) : List Byte := f.bytes ++ crcBytes f.bytes

/-! ## The run of bits on the air (R94, R95) -/

/-- The sync pattern (R95). -/
def syncPattern : BitVec 16 := 0xD391

/-- The bits of a preamble: 4320 in LONG, 80 in SHORT (R95). -/
def Preamble.length : Preamble → Nat
  | .long => 4320
  | .short => 80

/-- A run of alternating bits that begins with a 1 (R95). -/
def alternating (n : Nat) : List Bool := (List.range n).map (fun i => i % 2 == 0)

/-- The bits of a value, the most significant first (R94, R95). -/
def bitsOf {w : Nat} (v : BitVec w) : List Bool := (List.range w).map (fun i => v.getLsbD (w - 1 - i))

/-- The bits of a frame in the order they are sent, each of 62.5 µs: preamble, sync pattern, then the header, body
and CRC bytes, each byte's most significant bit first (R94, R95). -/
def OnAir.bits (o : OnAir) : List Bool :=
  alternating o.preamble.length ++ bitsOf o.sync ++ o.bytes.flatMap bitsOf

/-- A 6-bit value held in a byte, when the byte is 0..63. -/
def zoneOfByte (b : Byte) : Option ZoneCode :=
  if b.toNat ≤ 63 then some (b.setWidth 6) else none

/-- A sense byte: 0 or 1 (R103). -/
def senseOfByte (b : Byte) : Option Bool :=
  match b.toNat with
  | 0 => some false
  | 1 => some true
  | _ => none

/-- The alarm state byte of an EVIDENCE body: 0..3 (R103). -/
def alarmOfByte (b : Byte) : Option AlarmState :=
  if b.toNat ≤ 3 then some (AlarmState.ofCode (b.setWidth 2)) else none

/-- A NOTICE body's kind, sense and subject, when they agree with R103. -/
def noticeBody (kind sense : Byte) (subject : Option Byte) : Option Body :=
  match NoticeKind.ofCode kind, senseOfByte sense with
  | some k, some s =>
    if k.hasSubject == subject.isSome && (s || !k.isEvent) then some (.notice k s subject) else none
  | _, _ => none

/-- The body that bytes spell under a class, when they are well formed (R103). -/
def parseBody : FrameClass → List Byte → Option Body
  | .beacon, status :: lv :: count :: heard =>
    if count.toNat ≤ 6 ∧ heard.length = count.toNat then some (.beacon status lv heard) else none
  | .evidence, [lv, state] => (alarmOfByte state).map (.evidence lv)
  | .notice, [kind, sense] => noticeBody kind sense none
  | .notice, [kind, sense, subject] => noticeBody kind sense (some subject)
  | .control, [cmd, zone] =>
    match Command.ofCode cmd, zoneOfByte zone with
    | some c, some z => some (.control c z)
    | _, _ => none
  | .alarm, [cause, lv, q, hx] => (Cause.ofCode cause).map (fun c => .alarm c lv q hx)
  | _, _ => none

/-- The header fields of seven bytes. -/
def parseHeader (b0 b1 b2 b3 b4 b5 : Byte) : Header where
  networkId := b0
  hop := b1.extractLsb' 1 4
  test := b1.getLsbD 0
  sender := b2
  origin := b3
  zone := b4.extractLsb' 2 6
  role := b4.extractLsb' 0 2
  seq := b5

/-- The frame that header and body bytes spell, when it is well formed (R103). -/
def parseFrame : List Byte → Option Frame
  | b0 :: b1 :: b2 :: b3 :: b4 :: b5 :: b6 :: body =>
    if body.length = b6.toNat then
      match FrameClass.ofCode (b1.extractLsb' 5 3) with
      | none => none
      | some c => (parseBody c body).map (fun d => ⟨parseHeader b0 b1 b2 b3 b4 b5, d⟩)
    else none
  | _ => none

/-- A frame the part can build, or a receiver can take: its body is one that R103 lets through. -/
def Body.wellFormed : Body → Bool
  | .beacon _ _ heard => decide (heard.length ≤ 6)
  | .notice kind set subject =>
    kind != .radio && kind.hasSubject == subject.isSome && (set || !kind.isEvent)
  | _ => true

/-- The outcome of judging an ending frame (R126). -/
inductive Judgement where
  /-- It failed its CRC. -/
  | bad
  /-- It passed its CRC and carries another network id. -/
  | foreign
  /-- It passed its CRC on the own network and is not well formed: a bad frame too. -/
  | malformed
  | good (f : Frame)
  deriving DecidableEq, Repr

/-- The three checks of R126 over the bytes taken into the assembly buffer: CRC, network id, form. Bytes
that are not 9 more than header byte 6 are a frame whose CRC was not received in full. -/
def judgeFrame (networkId : Byte) (bytes : List Byte) : Judgement :=
  let n := bytes.length - 2
  let covered := bytes.take n
  if bytes.length < 9 || bytes.length != 9 + (bytes.getD 6 0).toNat then .bad
  else if bytes.drop n != crcBytes covered then .bad
  else if bytes.headD 0 != networkId then .foreign
  else
    match parseFrame covered with
    | none => .malformed
    | some f => .good f

/-- The 12-bit acceptance key: class code × 512 + origin zone × 8 + hop budget div 2 (R128). -/
def Frame.key (f : Frame) : Key := f.cls.code ++ f.hdr.zone ++ f.hdr.hop.extractLsb' 1 3

/-- The filter matches the key (R128). -/
def Filter.matches (flt : Filter) (k : Key) : Bool := ((k ^^^ flt.key) &&& flt.mask) == 0

/-- The first filter that matches decides; NONE or no match ends the frame (R128). -/
def decideFilter (k : Key) : List Filter → Option (Bool × Bool)
  | [] => none
  | flt :: rest =>
    if flt.matches k then (if flt.relay || flt.use then some (flt.relay, flt.use) else none)
    else decideFilter k rest

/-- The contention code: rank × 256 + sender address (R104). -/
def contentionCode (c : FrameClass) (sender : Byte) : Nat := c.rank * 256 + sender.toNat

end Sys2Proof.Machine
end

