-- ==== Sys2Proof/Machine/Image.lean ====
section
/-! DEFINITION. The configuration image: its layout, the tests of a read and the limits of its tuning fields
(section 11.4). -/

namespace Sys2Proof.Machine

/-- Byte `i` of an image, as a number. -/
def imageByte (bs : List Byte) (i : Nat) : Nat := (bs.getD i 0).toNat

/-- The low 12 bits of the two-byte value at byte `i`, most significant byte first (R178's layout). -/
def imageKey (bs : List Byte) (i : Nat) : Key :=
  BitVec.ofNat 12 (imageByte bs i * 256 + imageByte bs (i + 1))

/-- Filter `k`: five bytes from byte 18 + 5k; the action is the low 2 bits, RELAY 1 and USE 2. -/
def imageFilter (bs : List Byte) (k : Nat) : Filter where
  key := imageKey bs (18 + 5 * k)
  mask := imageKey bs (20 + 5 * k)
  relay := (bs.getD (22 + 5 * k) 0).getLsbD 0
  use := (bs.getD (22 + 5 * k) 0).getLsbD 1

/-- Role byte: DETECTOR 0, REPEATER 1, PANEL_ATTACHED 2; other refused (Table 11-2). -/
def roleOfByte (n : Nat) : Option Role :=
  match n with
  | 0 => some .detector
  | 1 => some .repeater
  | 2 => some .panelAttached
  | _ => none

/-- Corroboration mode byte; other becomes EITHER (Table 11-2). -/
def modeOfByte (n : Nat) : CorrMode :=
  match n with
  | 0 => .none
  | 1 => .partner
  | 2 => .heat
  | 4 => .both
  | _ => .either

/-- A field limited to lo..hi (Table 11-2). -/
def limitField (lo hi n : Nat) : Nat := max lo (min hi n)

/-- The tuning fields after the limits of Table 11-2, by byte number, in table order: W is limited first,
then A against the limited W, then S against the limited A. The mode is given by its code. -/
def limitedFields (bs : List Byte) : List (Nat × Nat) :=
  let b := imageByte bs
  let w := limitField 16 250 (b 9)
  let a := limitField w 250 (b 10)
  let s := limitField a 255 (b 11)
  [ (6, limitField 0 3 (b 6)), (7, limitField 1 255 (b 7)), (8, limitField 40 160 (b 8)), (9, w), (10, a),
    (11, s), (12, limitField 1 15 (b 12)), (13, if b 13 ≤ 4 then b 13 else 3), (14, limitField 1 3 (b 14)),
    (15, limitField 1 255 (b 15)), (16, limitField 0 15 (b 16)), (17, limitField 1 15 (b 17)) ]

/-- The limited value of a tuning field. -/
def limited (bs : List Byte) (field : Nat) : Nat :=
  ((limitedFields bs).find? (fun p => p.1 == field)).elim 0 (fun p => p.2)

/-- The clamp list: the tuning fields whose value the Loader changed, in table order (R178). -/
def clampList (bs : List Byte) : List Nat :=
  ((limitedFields bs).filter (fun p => p.2 != imageByte bs p.1)).map (fun p => p.1)

/-- The judgement of a complete attempt (R178): the first test that fails gives the cause; an accepted image
comes with its clamp list. -/
def judgeImage (bs : List Byte) : Except ReadCause (Image × List Nat) :=
  let b := imageByte bs
  if byteSum bs != 0 then .error .check
  else if b 0 != 3 then .error .version
  else if b 2 == 0 || b 2 == 255 || b 3 == 0 || b 3 > 63 || b 5 > 15 then .error .field
  else
    match roleOfByte (b 4) with
    | none => .error .field
    | some role =>
      .ok ({ networkId := bs.getD 1 0
             address := bs.getD 2 0
             zone := BitVec.ofNat 6 (b 3)
             role := role
             channel := b 5
             periodCode := limited bs 6
             gain := limited bs 7
             heatFloor := limited bs 8
             watch := limited bs 9
             alarm := limited bs 10
             solo := limited bs 11
             confirm := limited bs 12
             mode := modeOfByte (limited bs 13)
             partners := limited bs 14
             heatCorr := limited bs 15
             suppress := limited bs 16
             hopLimit := limited bs 17
             filters := [imageFilter bs 0, imageFilter bs 1, imageFilter bs 2, imageFilter bs 3] },
           clampList bs)

/-- What the fields read as while no image is in force. In START-UP and in DORMANT after a refused read no
rule reads a field; the value is never a configuration (log entry 5). -/
def Image.absent : Image where
  networkId := 0
  address := 0
  zone := 0
  role := .detector
  channel := 0
  periodCode := 0
  gain := 1
  heatFloor := 40
  watch := 16
  alarm := 16
  solo := 16
  confirm := 1
  mode := .none
  partners := 1
  heatCorr := 1
  suppress := 0
  hopLimit := 1
  filters := []

/-- The image in force. -/
def Node.cfg (n : Node) : Image := n.loader.image.getD .absent

/-- The supervision period in node-clock units (section 3.5). -/
def Image.period (i : Image) : Nat :=
  match i.periodCode with
  | 0 => 30720
  | 1 => 61440
  | 2 => 122880
  | _ => 245760

/-- The node is in PATROL or RUN. -/
def Node.active (n : Node) : Bool := n.power.phase == .patrol || n.power.phase == .run

/-- The node is a PANEL_ATTACHED node: its serial line is the panel line (R180). -/
def Node.onPanel (n : Node) : Bool := n.loader.image.any (fun i => i.role == .panelAttached)

end Sys2Proof.Machine
end

