-- ==== Sys2Proof/Machine/Queue.lean ====
section
/-! DEFINITION. The transmit queue (R106 to R111): offers, replacement, eviction, withdrawal, the one-hop
count, and the engine's leaving of IDLE (R113). -/

namespace Sys2Proof.Machine

/-- The queue's answers to an offer (R107). -/
inductive OfferAnswer where
  | accepted | replaced | duplicate | dropped
  deriving DecidableEq, Repr

/-- The queue's answers to a withdrawal request (R111). -/
inductive WithdrawAnswer where
  | withdrawn | tooLate | absent
  deriving DecidableEq, Repr

/-- The entry waits, in WAITING or HOLDOFF: it can be withdrawn or evicted (R110, R111). -/
def TxEntry.waits (e : TxEntry) : Bool := e.state == .waiting || e.state == .holdoff

/-- The entry holds the frame with this origin and sequence. -/
def TxEntry.holds (origin seq : Byte) (e : TxEntry) : Bool :=
  e.frame.hdr.origin == origin && e.frame.hdr.seq == seq

/-- A frame with another origin sequence. -/
def Frame.withSeq (f : Frame) (v : Byte) : Frame := { f with hdr := { f.hdr with seq := v } }

/-- The first value from `c` on that no OWN entry of the queue carries (R108); the queue's 8 entries are
passed after at most 8 advances. -/
def freeOneHop (queue : List TxEntry) : Nat → Byte → Byte
  | 0, c => c
  | k + 1, c =>
    if queue.any (fun e => e.own && e.frame.hdr.seq == c) then freeOneHop queue k (c + 1) else c

/-- The value the one-hop count gives over this queue (R100, R108). -/
def Transmitter.oneHopValue (t : Transmitter) : Byte := freeOneHop t.queue 8 t.oneHop

/-- The entry to evict for an offered frame (R110): first the lowest-rank, newest waiting entry of lower
rank; else, for an OWN frame, the newest waiting RELAY entry of its own rank. -/
def evictionIndex (queue : List TxEntry) (rank : Nat) (own : Bool) : Option Nat :=
  let lower := queue.filter (fun e => e.waits && decide (e.frame.cls.rank < rank))
  match lower with
  | [] =>
    if own then lastIndexOf (fun e => e.waits && !e.own && e.frame.cls.rank == rank) queue else none
  | e :: rest =>
    let low := rest.foldl (fun m x => min m x.frame.cls.rank) e.frame.cls.rank
    lastIndexOf (fun x => x.waits && x.frame.cls.rank == low) queue

/-- When an entry is WAITING and the engine is IDLE, the engine leaves IDLE: to WAIT if the grid is present,
else to GAP, and it starts the synthesiser toward lock (R113, R119). -/
def Transmitter.leaveIdle (t : Transmitter) : Transmitter :=
  if t.engine == .idle && t.queue.any (fun e => e.state == .waiting) then
    { t with engine := if t.grid.isSome then .wait else .gap, synth := .starting }
  else t

/-- The entry an accepted frame becomes: HOLDOFF while its earliest-send stamp is still to come, else
WAITING (R107). -/
def newEntry (now : Stamp) (f : Frame) (own : Bool) (earliest : Stamp) (attempt : Option Nat) : TxEntry where
  frame := f
  own := own
  state := if reached now earliest then .waiting else .holdoff
  earliest := earliest
  attempt := attempt

/-- A frame taken as the newest entry; a one-hop frame takes its value from the one-hop count (R100). -/
def Transmitter.accept (t : Transmitter) (now : Stamp) (f : Frame) (own : Bool) (earliest : Stamp)
    (attempt : Option Nat) : Transmitter :=
  let t' :=
    if f.cls.relayable then { t with queue := t.queue ++ [newEntry now f own earliest attempt] }
    else
      let v := t.oneHopValue
      { t with
        queue := t.queue ++ [newEntry now (f.withSeq v) own earliest attempt]
        oneHop := v + 1 }
  t'.leaveIdle

/-- Make room if the queue is full, then accept (R107, R110). The third part is the entry evicted. -/
def Transmitter.seat (t : Transmitter) (now : Stamp) (f : Frame) (own : Bool) (earliest : Stamp)
    (attempt : Option Nat) : Transmitter × OfferAnswer × Option TxEntry :=
  if t.queue.length < 8 then (t.accept now f own earliest attempt, .accepted, none)
  else
    match evictionIndex t.queue f.cls.rank own with
    | none => ({ t with drops := countUp t.drops }, .dropped, none)
    | some i =>
      let t' := { t with queue := removeAt t.queue i, drops := countUp t.drops }
      (t'.accept now f own earliest attempt, .accepted, t.queue[i]?)

/-- A one-hop entry that carries an offered OWN frame's sequence takes a new one from the count (R108). -/
def Transmitter.resequence (t : Transmitter) (i : Nat) (e : TxEntry) : Transmitter :=
  let v := t.oneHopValue
  { t with
    queue := setAt t.queue i { e with frame := e.frame.withSeq v }
    oneHop := v + 1 }

/-- The identity check of a relayable frame (R108): the queue as it stands for the frame, or `none` where
the answer is DUPLICATE. -/
def Transmitter.identify (t : Transmitter) (f : Frame) (own : Bool) : Option Transmitter :=
  match indexOf (TxEntry.holds f.hdr.origin f.hdr.seq) t.queue with
  | none => some t
  | some i =>
    match t.queue[i]? with
    | none => some t
    | some e =>
      if own && !e.frame.cls.relayable && e.state != .sending then some (t.resequence i e) else none

/-- One offer to the queue (R107 to R110). The third part is the entry evicted. -/
def Transmitter.offer (t : Transmitter) (now : Stamp) (f : Frame) (own : Bool) (earliest : Stamp)
    (attempt : Option Nat) : Transmitter × OfferAnswer × Option TxEntry :=
  if f.cls.relayable then
    match t.identify f own with
    | none => ({ t with drops := if own then countUp t.drops else t.drops }, .duplicate, none)
    | some t' => t'.seat now f own earliest attempt
  else
    match lastIndexOf (fun e => e.frame.cls == f.cls && e.state == .waiting) t.queue with
    | some i =>
      let t' := { t with queue := removeAt t.queue i }
      (t'.accept now f own earliest attempt, .replaced, none)
    | none => t.seat now f own earliest attempt

/-- The withdrawal of one entry, named by origin and sequence (R111). -/
def Transmitter.withdraw (t : Transmitter) (origin seq : Byte) : Transmitter × WithdrawAnswer :=
  match indexOf (TxEntry.holds origin seq) t.queue with
  | none => (t, .absent)
  | some i =>
    match t.queue[i]? with
    | none => (t, .absent)
    | some e =>
      if e.waits then ({ t with queue := removeAt t.queue i }, .withdrawn) else (t, .tooLate)

/-- The RELAY entries a withdrawal of all relays removes (R111). -/
def Transmitter.withdrawable (t : Transmitter) : List TxEntry :=
  t.queue.filter (fun e => !e.own && e.waits)

/-- The withdrawal of all relays (R111). -/
def Transmitter.withdrawRelays (t : Transmitter) : Transmitter :=
  { t with queue := t.queue.filter (fun e => e.own || !e.waits) }

/-- A CONTROL entry with this command and target zone is in WAITING or HOLDOFF (R111, R184). -/
def Transmitter.queuedControl (t : Transmitter) (cmd : Command) (zone : ZoneCode) : Bool :=
  t.queue.any (fun e => e.waits && e.frame.body == .control cmd zone)

/-- The candidate at a boundary (R112): among the WAITING entries the highest rank, OWN before RELAY, the
oldest. -/
def candidateIndex (queue : List TxEntry) : Option Nat :=
  let waiting := queue.filter (fun e => e.state == .waiting)
  match waiting with
  | [] => none
  | e :: rest =>
    let top := rest.foldl (fun m x => max m x.frame.cls.rank) e.frame.cls.rank
    match indexOf (fun x => x.state == .waiting && x.frame.cls.rank == top && x.own) queue with
    | some i => some i
    | none => indexOf (fun x => x.state == .waiting && x.frame.cls.rank == top) queue

end Sys2Proof.Machine
end

