-- ==== Sys2Proof/Machine/Ops.lean ====
section
/-! DEFINITION. The shared operations between blocks: notice requests, event reports, frame offers, echo and
frame reports to link health, and panel event records. A request whose handling makes further requests is a
`Task`; `deliver` carries a task and all that follows from it through, within one event. -/

namespace Sys2Proof.Machine

/-! ## Panel event records (R183) -/

/-- The record is an ALARM or a TEST ALARM (R183). -/
def EventRecord.isAlarm (r : EventRecord) : Bool := r.kind == .alarm || r.kind == .testAlarm

/-- How many records at the head of the panel queue have begun to be sent. -/
def Serial.begun (s : Serial) : Nat := if s.tx == .event then 1 else 0

/-- A record joins the panel record queue, or room is made for it as R183 lays down. -/
def Serial.push (s : Serial) (r : EventRecord) : Serial :=
  if s.panel.length < 32 then { s with panel := s.panel ++ [r] }
  else
    let waiting := s.panel.drop s.begun
    match indexOf (fun x => !x.isAlarm) waiting with
    | some i => { s with panel := s.panel.take s.begun ++ removeAt waiting i ++ [r], lost := true }
    | none =>
      if r.isAlarm && !waiting.isEmpty then
        { s with panel := s.panel.take s.begun ++ waiting.drop 1 ++ [r], lost := true }
      else { s with lost := true }

/-- Form an EVENT record: on a PANEL_ATTACHED node it is queued, on any other node nothing is formed. -/
def Node.record (n : Node) (r : EventRecord) : Node :=
  if n.onPanel then { n with serial := n.serial.push r } else n

/-- An EVENT record of a notice of the node's own (R183). -/
def Node.ownNoticeRecord (n : Node) (kind : EventKind) (k : NoticeKind) (sense : Bool)
    (subject : Option Byte) : EventRecord where
  kind := kind
  origin := n.cfg.address
  zone := n.cfg.zone
  code := k.code
  sense := sense
  subject := subject
  q := 0
  hx := 0
  lv := 0
  stamp := n.clock
  lost := false

/-- An EVENT record of an ALARM or TEST ALARM (R183). -/
def Node.alarmRecord (n : Node) (test : Bool) (origin : Byte) (zone : ZoneCode) (cause : Cause)
    (lv q hx : Byte) : EventRecord where
  kind := if test then .testAlarm else .alarm
  origin := origin
  zone := zone
  code := cause.code
  sense := false
  subject := none
  q := q
  hx := hx
  lv := lv
  stamp := n.clock
  lost := false

/-! ## Originating frames (R96, R99) -/

/-- The header of a frame the node originates (R96, R98): relayable frames carry the hop limit, one-hop
frames 0. -/
def Node.header (n : Node) (relayable test : Bool) (seq : Byte) : Header where
  networkId := n.cfg.networkId
  hop := if relayable then BitVec.ofNat 4 n.cfg.hopLimit else 0
  test := test
  sender := n.cfg.address
  origin := n.cfg.address
  zone := n.cfg.zone
  role := n.cfg.role.code
  seq := seq

/-- A relayable frame originated now: it takes the origin sequence counter's value (R99). -/
def Node.relayableFrame (n : Node) (test : Bool) (b : Body) : Frame :=
  ⟨n.header true test n.relay.originSeq, b⟩

/-- The origin sequence counter after an origination (R99). -/
def Node.nextSeq (n : Node) : Node :=
  { n with relay := { n.relay with originSeq := n.relay.originSeq + 1 } }

/-- A one-hop frame originated now; the queue gives its sequence (R100). -/
def Node.oneHopFrame (n : Node) (b : Body) : Frame := ⟨n.header false false 0, b⟩

/-! ## Tasks -/

/-- A request or report that one block makes of another inside an event. -/
inductive Task where
  /-- A request to raise a condition kind (R84). -/
  | raise (kind : NoticeKind) (subject : Option Byte)
  /-- A request to clear a condition kind (R84). -/
  | clear (kind : NoticeKind) (subject : Option Byte)
  /-- The report of an event kind (R85). -/
  | event (kind : NoticeKind) (subject : Option Byte)
  /-- An OWN frame offered to the queue with the event's stamp (R107). -/
  | offer (f : Frame) (attempt : Option Nat)
  /-- An echo report (R152). -/
  | echo (success : Bool)
  /-- A frame report (R153). -/
  | frame (good : Bool)
  /-- The queue's report that an OWN relayable frame was evicted (R110, R150). -/
  | ownEvicted (seq : Byte)
  deriving DecidableEq, Repr

/-! ## Link health (R152 to R157) -/

/-- The link state, a function of the two counts (R155). -/
def Link.state (l : Link) : LinkState :=
  if 256 ≤ l.efc then .isolated
  else if 127 < l.efc || 127 < l.rfc then .strained
  else .linked

/-- EFC after an echo report (R152). -/
def Link.afterEcho (l : Link) (success : Bool) : Link :=
  if success then { l with efc := if l.efc ≤ 255 then l.efc - 1 else 200 }
  else { l with efc := min 511 (l.efc + 8) }

/-- RFC after a frame report (R153). -/
def Link.afterFrame (l : Link) (good : Bool) : Link :=
  if good then { l with rfc := if l.rfc ≤ 127 then l.rfc - 1 else 112 }
  else { l with rfc := min 255 (l.rfc + 1) }

/-- A queue report applied to the seen-list entry with that origin and sequence whose status is PENDING
(R142). -/
def RelayEngine.report (r : RelayEngine) (origin seq : Byte) (status : RelayStatus) : RelayEngine :=
  { r with
    seen := updateFirst (fun e => e.origin == origin && e.seq == seq && e.status == .pending)
      (fun e => { e with status := status }) r.seen }

/-- Entry to ISOLATED: every waiting RELAY entry is withdrawn and marked CANCELLED (R157, R142). -/
def Node.isolate (n : Node) : Node :=
  { n with
    tx := n.tx.withdrawRelays
    relay := n.tx.withdrawable.foldl
      (fun r e => r.report e.frame.hdr.origin e.frame.hdr.seq .cancelled) n.relay }

/-- The counts change; the effects of a change of link state are made in the same event (R155 to R157). -/
def Node.setLink (n : Node) (l : Link) : Node × List Task :=
  let before := n.link.state
  let n' := { n with link := l }
  ( if l.state == .isolated && before != .isolated then n'.isolate else n',
    if before == .linked && l.state != .linked then [.raise .linkStrained none]
    else if before != .linked && l.state == .linked then [.clear .linkStrained none]
    else [] )

/-! ## The handling of each task -/

/-- The origination of a NOTICE frame (R84, R85, R101); RADIO is never framed. -/
def Node.noticeTasks (n : Node) (kind : NoticeKind) (set : Bool) (subject : Option Byte) : Node × List Task :=
  if kind == .radio then (n, [])
  else (n.nextSeq, [.offer (n.relayableFrame false (.notice kind set subject)) (some 1)])

/-- A raise request (R84); discarded in DORMANT (R87), and before the node has started. -/
def Node.raise (n : Node) (kind : NoticeKind) (subject : Option Byte) : Node × List Task :=
  if !n.active || n.alarm.notices.contains (NoticeItem.mk kind subject) then (n, [])
  else
    let n' := { n with alarm := { n.alarm with notices := n.alarm.notices ++ [NoticeItem.mk kind subject] } }
    (n'.record (n'.ownNoticeRecord .ownNotice kind true subject)).noticeTasks kind true subject

/-- An item taken out of the notice set without a frame; the change of the set is an own event record
(R72, R84). -/
def Node.dropNotice (n : Node) (kind : NoticeKind) (subject : Option Byte) : Node :=
  if n.alarm.notices.contains (NoticeItem.mk kind subject) then
    let n' := { n with alarm := { n.alarm with notices := n.alarm.notices.filter (· != NoticeItem.mk kind subject) } }
    n'.record (n'.ownNoticeRecord .ownNotice kind false subject)
  else n

/-- A clear request (R84); discarded in DORMANT (R87), and before the node has started. -/
def Node.clear (n : Node) (kind : NoticeKind) (subject : Option Byte) : Node × List Task :=
  if !n.active || !n.alarm.notices.contains (NoticeItem.mk kind subject) then (n, [])
  else (n.dropNotice kind subject).noticeTasks kind false subject

/-- The raising of an event kind (R85); discarded in DORMANT (R87), and before the node has started. -/
def Node.event (n : Node) (kind : NoticeKind) (subject : Option Byte) : Node × List Task :=
  if !n.active then (n, [])
  else
    let n' := { n with alarm := { n.alarm with lastEvent := some n.clock } }
    (n'.record (n'.ownNoticeRecord .ownEvent kind true subject)).noticeTasks kind true subject

/-- What the queue reports after an offer (R108, R110): an own relayable frame lost is an echo miss, and its
eviction is reported to the Relay Engine; a RELAY entry evicted is reported there too (R142). DESIGN CHOICE (log
entry 15): the miss of an evicted own frame is carried through before the report of its eviction. -/
def Node.afterOffer (n : Node) (f : Frame) (own : Bool) (answer : OfferAnswer) (evicted : Option TxEntry) :
    Node × List Task :=
  let refused := own && f.cls.relayable && (answer == .dropped || answer == .duplicate)
  let missed := if refused then [Task.echo false] else []
  match evicted with
  | none => (n, missed)
  | some e =>
    if e.own then
      (n, if e.frame.cls.relayable then missed ++ [.echo false, .ownEvicted e.frame.hdr.seq] else missed)
    else ({ n with relay := n.relay.report e.frame.hdr.origin e.frame.hdr.seq .notRelaying }, missed)

/-- An offer taken by the queue (R107), with its answer and the reports it leaves to be made. The answer is `none`
in DORMANT, where the offer is discarded, and in START-UP, where no frame is built (R161). -/
def Node.offer (n : Node) (f : Frame) (own : Bool) (earliest : Stamp) (attempt : Option Nat) :
    Node × Option OfferAnswer × List Task :=
  if !n.active then (n, none, [])
  else
    let r := n.tx.offer n.clock f own earliest attempt
    let a := Node.afterOffer { n with tx := r.1 } f own r.2.1 r.2.2
    (a.1, some r.2.1, a.2)

/-- The frame is a NOTICE of kind NO_PATH, for which no NO_PATH is reported (R148, R150). -/
def Frame.isNoPath (f : Frame) : Bool :=
  match f.body with
  | .notice .noPath _ _ => true
  | _ => false

/-- The NO_PATH report of a closed watch entry (R148, R150). -/
def noPathTasks (f : Frame) : List Task := if f.isNoPath then [] else [.event .noPath none]

/-- The watch entry's frame carries this sequence. -/
def WatchEntry.hasSeq (seq : Byte) (e : WatchEntry) : Bool := e.frame.hdr.seq == seq

/-- The queue's report of an evicted own frame, applied to the echo watch (R150). -/
def Node.ownEvicted (n : Node) (seq : Byte) : Node × List Task :=
  match n.relay.watch.find? (WatchEntry.hasSeq seq) with
  | none => (n, [])
  | some e =>
    let closed := { n with relay := { n.relay with watch := removeFirst (WatchEntry.hasSeq seq) n.relay.watch } }
    match e.state with
    | .retryQueued => (closed, noPathTasks e.frame)
    | .echoed => (closed, [])
    | _ => (n, [])

/-- One task: its own effect, and the tasks that follow from it. -/
def Task.run (n : Node) : Task → Node × List Task
  | .raise k s => n.raise k s
  | .clear k s => n.clear k s
  | .event k s => n.event k s
  | .offer f attempt =>
    let r := n.offer f true n.clock attempt
    (r.1, r.2.2)
  | .echo success => n.setLink (n.link.afterEcho success)
  | .frame good => n.setLink (n.link.afterFrame good)
  | .ownEvicted seq => n.ownEvicted seq

/-- A task carried through with all that follows from it, each consequence in its turn. The first argument
bounds the length of a chain of consequences; the longest the rules can make is 8 (an ALARM offer evicts a
retry, whose NO_PATH notice is dropped, whose miss raises LINK_STRAINED, whose notice is dropped, whose miss
isolates the node). -/
def deliver : Nat → Task → Node → Node
  | 0, _, n => n
  | d + 1, t, n =>
    let r := t.run n
    r.2.foldl (fun m u => deliver d u m) r.1

/-- Tasks carried through in the order taken (R84). DESIGN CHOICE (log entry 36): a report to the link health
monitor is taken within the command of its source, so of the two orders R159 gives for a report and a reset in one
event only the report before the reset occurs. -/
def Node.deliver (n : Node) (ts : List Task) : Node :=
  ts.foldl (fun m t => Machine.deliver 12 t m) n

/-! ## Draws of the random generator (R121) -/

/-- The generator after a draw; the draw's value is its new value. -/
def Node.draw (n : Node) : Node := { n with tx := { n.tx with rng := rngDraw n.tx.rng } }

/-! ## Requests to the count stage (R5, R6, R20) -/

/-- A FAST request: discarded while stopped and on a REPEATER. -/
def SampleTimer.fast (t : SampleTimer) (role : Role) : SampleTimer :=
  if !t.running || role == .repeater then t
  else { t with reload := 8, count := min 8 t.count }

/-- A SLOW request: discarded while stopped. -/
def SampleTimer.slow (t : SampleTimer) : SampleTimer :=
  if t.running then { t with reload := 64 } else t

end Sys2Proof.Machine
end

