-- ==== Sys2Proof/Machine/Settle.lean ====
section
/-! DEFINITION. What follows from every change of state, in the event of the change: the interval wanted
(R88), the RUN cause and the power state (R89, R165, R166), the receiver's switch (R164), the patterns shown
and played (R173, R174), the oscillator (R162) and the serial transmitter (R180, R183). -/

namespace Sys2Proof.Machine

/-! ## The interval wanted and the RUN cause -/

/-- The Alarm Decision unit wants FAST (R88). -/
def Node.wantsFast (n : Node) : Bool :=
  n.alarm.state != .quiet || n.alarm.walkTest.isSome ||
    n.alarm.origins.any (fun o => o.zone == n.cfg.zone && o.address != n.cfg.address)

/-- A FAST or SLOW request is sent exactly where the interval wanted changes (R88). -/
def Node.settleInterval (n : Node) : Node :=
  let w := n.wantsFast
  if w == n.alarm.wantFast then n
  else
    { n with
      alarm := { n.alarm with wantFast := w }
      timer := if w then n.timer.fast n.cfg.role else n.timer.slow }

/-- The unit's RUN cause (R89). -/
def Node.alarmSideCause (n : Node) : Bool := n.alarm.state != .quiet || n.alarm.walkTest.isSome

/-- A RUN cause stands (R165). -/
def Node.runCaused (n : Node) : Bool :=
  n.onPanel || n.power.alarmCause || n.power.runHold.isSome

/-- The frame hold's condition: the receiver is ASSEMBLING or FLUSHING (R164). -/
def RxState.holdsFrame (s : RxState) : Bool := s == .assembling || s == .flushing

/-- PATROL to RUN (R166). A node that left RUN at this very moment and is returned to it by a report, which made the RUN
hold present, has its receiver switched off and on again and loses the boundary grid (R165); the alarm-side cause
returns it with the receiver, the frame in assembly and the grid kept. -/
def Node.enterRun (n : Node) : Node :=
  let cycled := n.power.leftRun == some n.clock && n.power.runHold.isSome
  { n with
    power := { n.power with
      phase := .run, listen := none, hunt := none, frameHold := false, linger := none, leftRun := none }
    tx := { n.tx with grid := if cycled then none else n.tx.grid }
    rx := if cycled then { n.rx with state := .off, assembly := none } else n.rx }

/-- RUN to PATROL (R166). -/
def Node.enterPatrol (n : Node) : Node :=
  { n with
    power := { n.power with
      phase := .patrol
      linger := some (later n.clock 1024)
      frameHold := n.rx.state.holdsFrame
      leftRun := some n.clock } }

/-- The unit's cause is told to the Power Controller, and the power state follows the causes (R165). -/
def Node.settlePower (n : Node) : Node :=
  let n' := { n with power := { n.power with alarmCause := n.alarmSideCause } }
  match n'.power.phase with
  | .patrol => if n'.runCaused then n'.enterRun else n'
  | .run => if n'.runCaused then n' else n'.enterPatrol
  | _ => n'

/-! ## The receiver's switch -/

/-- The transmit claim stands: from the moment the engine leaves IDLE until it returns there or enters BACKOFF
(R162). -/
def Engine.claims (e : Engine) : Bool := e != .idle && e != .backoff

/-- The receiver is to be on (R164, R166, Table 10-3); while SENDING the engine keeps it off (R117). -/
def Node.rxWanted (n : Node) : Bool :=
  match n.power.phase with
  | .run => n.tx.engine != .sending
  | .patrol =>
    n.tx.engine != .sending &&
      (n.power.listen.isSome || n.power.hunt.isSome || n.power.frameHold || n.power.linger.isSome ||
        n.tx.engine.claims)
  | _ => false

/-- Switch the receiver on or off (R124). Switching off discards a partial frame and loses the grid (R113). DESIGN
CHOICE (log entry 35): a receiver switched on while the node's own window runs and carrier is present enters SYNC_HUNT
like any other. -/
def Node.switchRx (n : Node) : Node :=
  if n.rxWanted then
    if n.rx.state == .off then
      { n with rx := { n.rx with state := if n.rx.carrier then .syncHunt else .listening } }
    else n
  else if n.rx.state == .off then n
  else
    { n with
      rx := { n.rx with state := .off, assembly := none }
      tx := { n.tx with grid := none }
      power := { n.power with frameHold := false } }

/-- The hunt hold begins on carrier heard in PATROL, while neither the hunt hold nor the frame hold stands
(R164). -/
def Node.beginHunt (n : Node) : Node :=
  if n.power.phase == .patrol && n.power.hunt.isNone && !n.power.frameHold then
    { n with power := { n.power with hunt := some (later n.clock 307) } }
  else n

/-- In GAP or WAIT, carrier that the receiver hears sends the engine to DEFERRED (R113). -/
def Node.deferToCarrier (n : Node) : Node :=
  if (n.tx.engine == .gap || n.tx.engine == .wait) && n.rx.carrier && n.rx.state != .off then
    { n with tx := { n.tx with engine := .deferred, grid := none } }
  else n

/-! ## Patterns -/

/-- The steps of a pattern: lit or sounding, and for how many ticks. -/
abbrev Steps := List (Bool × Nat)

/-- Table 11-1. TEST sounds continuously and has no step. -/
def Sound.steps : Sound → Steps
  | .localAlarm => [(true, 512), (false, 512), (true, 512), (false, 512), (true, 512), (false, 2048)]
  | .remoteAlarm => [(true, 1024), (false, 1024)]
  | .test => []
  | .faultChirp => [(true, ticksOfMs 20), (false, ticksOfMs 39980)]

/-- The red indicator (R174): lit 100 ms each second; lit 50 ms every 8 s. -/
def RedPattern.steps : RedPattern → Steps
  | .off => []
  | .alarmFlash => [(true, ticksOfMs 100), (false, 1024 - ticksOfMs 100)]
  | .watchBlink => [(true, ticksOfMs 50), (false, 8192 - ticksOfMs 50)]

/-- The amber indicator (R174). "200 ms apart" is read as 200 ms dark between the two flashes (log
entry 10). -/
def AmberPattern.steps : AmberPattern → Steps
  | .dark => []
  | .config => [(true, 512), (false, 512)]
  | .parked => [(true, ticksOfMs 50), (false, 16384 - ticksOfMs 50)]
  | .isolated =>
    [ (true, ticksOfMs 50), (false, ticksOfMs 200), (true, ticksOfMs 50),
      (false, 4096 - ticksOfMs 200 - 2 * ticksOfMs 50) ]
  | .notice => [(true, ticksOfMs 50), (false, 8192 - ticksOfMs 50)]

/-- A pattern at the beginning of its cadence (R173, R174). -/
def startPattern {π : Type} (steps : Steps) (now : Stamp) (p : π) : Playing π :=
  ⟨p, 0, steps.head?.map (fun s => later now s.2)⟩

/-- The step after the one that ends now, the first again after the last. -/
def Playing.next {π : Type} (pl : Playing π) (steps : Steps) (now : Stamp) : Playing π :=
  let k := if pl.step + 1 < steps.length then pl.step + 1 else 0
  ⟨pl.pattern, k, (steps[k]?).map (fun s => later now s.2)⟩

/-- The fault condition (R173). -/
def Node.faultCondition (n : Node) : Bool :=
  (!n.alarm.notices.isEmpty && (n.power.battery == .low || n.power.battery == .critical)) ||
    n.link.state == .isolated

/-- The eligible pattern of highest priority (R173); silent in START-UP and DORMANT. -/
def Node.soundWanted (n : Node) : Option Sound :=
  if !n.active then none
  else if n.alarm.state == .alarm && !n.alarm.silenced then some .localAlarm
  else if n.alarm.remote && !n.alarm.silenced then some .remoteAlarm
  else if n.alarm.testSound.isSome then some .test
  else if n.faultCondition then some .faultChirp
  else none

/-- The red indicator state (R90). -/
def Node.redWanted (n : Node) : RedPattern :=
  match n.alarm.state with
  | .quiet => .off
  | .watch => .watchBlink
  | .confirming => .watchBlink
  | .alarm => .alarmFlash

/-- The amber request (R85). -/
def Node.amberRequest (n : Node) : Bool := !n.alarm.notices.isEmpty || n.alarm.lastEvent.isSome

/-- The amber pattern (R174). -/
def Node.amberWanted (n : Node) : AmberPattern :=
  match n.power.phase with
  | .startUp => .dark
  | .dormant => if n.power.parked then .parked else .config
  | _ =>
    if n.link.state == .isolated then .isolated
    else if n.amberRequest then .notice
    else .dark

/-- Reselection of the sounder pattern: one that stays goes on where it was (R173). -/
def Node.selectSound (n : Node) : Option (Playing Sound) :=
  match n.soundWanted with
  | none => none
  | some p =>
    match n.out.sounder with
    | none => some (startPattern p.steps n.clock p)
    | some pl => if pl.pattern == p then some pl else some (startPattern p.steps n.clock p)

/-- The red indicator's pattern, started anew where it changes (R174). -/
def Node.selectRed (n : Node) : Playing RedPattern :=
  let p := n.redWanted
  if n.out.red.pattern == p then n.out.red else startPattern p.steps n.clock p

/-- The amber indicator's pattern, started anew where it changes (R174). -/
def Node.selectAmber (n : Node) : Playing AmberPattern :=
  let p := n.amberWanted
  if n.out.amber.pattern == p then n.out.amber else startPattern p.steps n.clock p

/-- The Output Driver's reselection (R173, R174). -/
def Node.settleOutputs (n : Node) : Node :=
  { n with
    out := { n.out with
      sounder := n.selectSound
      chirp := if n.active then n.out.chirp else none
      red := n.selectRed
      amber := n.selectAmber } }

/-- Whether a step of a pattern is lit, or sounds. -/
def stepOn {π : Type} (steps : Steps) (pl : Playing π) : Bool := ((steps[pl.step]?).map (fun s => s.1)).getD false

/-- The tone generator sounds: by the playing pattern, or by a self-check's chirp. -/
def Outputs.tone (o : Outputs) : Bool :=
  o.chirp.isSome ||
    match o.sounder with
    | none => false
    | some pl => pl.pattern == .test || stepOn pl.pattern.steps pl

/-- The red indicator is lit: by its pattern, or by a self-check's overlay (R176). -/
def Outputs.redLit (o : Outputs) : Bool :=
  stepOn o.red.pattern.steps o.red || o.overlay.any (fun v => v.kind == .selfCheck)

/-- The amber indicator is lit: by an overlay, or by its pattern (R174 to R176). -/
def Outputs.amberLit (o : Outputs) : Bool := o.overlay.isSome || stepOn o.amber.pattern.steps o.amber

/-! ## The oscillator

The work that needs the oscillator begins when it has started (R162): the first stage of a cycle (STAGE_START), the
quiet gap and the boundaries (QUIET_GAP, WINDOW_BOUNDARY, `Node.onsetBeforeBoundary`), the search for the sync pattern
(SYNC_FOUND), the sending of an answer (`Node.settleSerial`) and an exit read (CONFIG_ATTEMPT) wait for it. The claim
of that work then keeps it running to its end, so the commands that carry the work on (ONE_SHOT_FIRE, WINDOW_WON,
FRAME_END, ANSWER_SENT and the others) meet a running oscillator (`Node.OscillatorServes` in Safety). -/

/-- The power states in which the oscillator can be stopped (R162). -/
def Phase.sleeps (p : Phase) : Bool := p == .patrol || p == .dormant

/-- A wake source is taken with the event claim (R169) while the oscillator does not run; where it runs, the claim is
taken and released within the event. -/
def Node.wake (n : Node) : Node :=
  if n.power.phase.sleeps && n.power.oscillator != .running then
    { n with power := { n.power with claims := { n.power.claims with event := true } } }
  else n

/-- The claims that stand (R162). The event claim stands until the oscillator it started runs, when the work of its
event is done (log entry 17). -/
def Node.claimsNow (n : Node) : Claims where
  receiver := n.rx.state != .off
  sensing := n.sensing.stage != .idle || n.sensing.buffer0.state != .free || n.sensing.buffer1.state != .free
  transmit := n.tx.engine.claims
  serial := n.serial.rx.isSome || !n.serial.answers.isEmpty
  output := n.out.tone
  event := n.power.claims.event && n.power.phase.sleeps && n.power.oscillator != .running

/-- Some claim stands. -/
def Claims.any (c : Claims) : Bool :=
  c.receiver || c.sensing || c.transmit || c.serial || c.output || c.event

/-- The oscillator after a change: running throughout RUN and START-UP; in PATROL and DORMANT started by the
first claim, and stopped with the last (R162). It also runs for an exit read (R168). -/
def oscillatorAfter (phase : Phase) (claimed reading : Bool) (o : Oscillator) : Oscillator :=
  if phase == .run || phase == .startUp then .running
  else if claimed || reading then (if o == .stopped then .starting else o)
  else .stopped

/-- The claims and the oscillator follow the state (R162). -/
def Node.settleOscillator (n : Node) : Node :=
  let c := n.claimsNow
  { n with
    power := { n.power with
      claims := c
      oscillator := oscillatorAfter n.power.phase c.any n.loader.read.isSome n.power.oscillator } }

/-! ## The serial transmitter -/

/-- When the line is idle the next answer begins, or the oldest event record (R180, R183); the lost flag is
written into the record whose sending begins. -/
def Serial.kick (s : Serial) : Serial :=
  if s.tx != .idle then s
  else if !s.answers.isEmpty then { s with tx := .answer }
  else
    match s.panel with
    | [] => s
    | r :: rest => { s with tx := .event, panel := { r with lost := s.lost } :: rest, lost := false }

/-- Answers owed from START-UP wait for its end (R180), and a sending begins on the running oscillator (R162). -/
def Node.settleSerial (n : Node) : Node :=
  if n.power.phase == .startUp || n.power.oscillator != .running then n else { n with serial := n.serial.kick }

/-- All that follows from a change of state, in its event. -/
def Node.settle (n : Node) : Node :=
  n.settleInterval.settlePower.switchRx.deferToCarrier.settleOutputs.settleOscillator.settleSerial

/-- What follows from a wake source's change of state: its event claim among it (R169). -/
def Node.settleWoken (n : Node) : Node := n.wake.settle

/-- A wake source whose change of state nothing follows from but its event claim (R169). -/
def Node.woken (n : Node) : Node := n.wake.settleOscillator

/-- A command that ends in a next state: the node changes, and the queue of commands is left as it is. -/
def State.go (s : State) (n : Node) : Host.Outcome State Fault Refusal := .next { s with node := n }

end Sys2Proof.Machine
end

