-- ==== Sys2Proof/Machine/Arithmetic.lean ====
section
/-! DEFINITION. The evidence arithmetic (chapter 2): the stages of Table 2-1 from a sample record to the local
evidence, as pure functions. -/

namespace Sys2Proof.Machine

/-! ## Optical lane -/

/-- Stage 1: a scatter, limited to 0..1023 (R25). -/
def scatter (lit dark : Nat) : Nat := limitNat 1023 ((lit : Int) - dark)

/-- The baseline held by an accumulator (R26). -/
def baseline (acc : Nat) : Nat := acc / 64

/-- The learning step: the scatter minus the baseline, limited to −16..+16 (R28). -/
def learnStep (s acc : Nat) : Int := limitInt (-16) 16 ((s : Int) - baseline acc)

/-- An accumulator after learning from a scatter (R28). -/
def learn (s acc : Nat) : Nat := ((acc : Int) + learnStep s acc).toNat

/-- Stage 2 on an optical-valid record (R27, R28): seed, learn or freeze. -/
def stageBaseline (seed quiet : Bool) (s acc : Nat) : Nat :=
  if seed then s * 64 else if quiet then learn s acc else acc

/-- Stage 3: an excess, limited to 0..1023 (R30). -/
def excess (s acc : Nat) : Nat := limitNat 1023 ((s : Int) - baseline acc)

/-- Stage 4: the colour ratio (R31). -/
def colourRatio (ei eb : Nat) : Nat := if 8 ≤ ei then min 255 (eb * 16 / ei) else 16

/-- Stage 5: the smoke index (R32). -/
def smokeIndex (gain ei c : Nat) : Nat :=
  let q0 := min 255 (ei * gain / 64)
  if c < 12 then q0 / 2 else if c < 24 then q0 else min 255 (q0 + q0 / 4)

/-! ## Thermal lane -/

/-- Table 2-5. -/
def thermistorTable : List Int :=
  [-80, -52, -34, -20, -8, 2, 12, 21, 30, 40, 50, 61, 74, 90, 112, 146, 250]

/-- Stage 6: the temperature in half-degrees (R33). -/
def temperature (h : Nat) : Int :=
  let k := h / 64
  let t0 := thermistorTable.getD k 250
  let t1 := thermistorTable.getD (k + 1) 250
  t0 + ((t1 - t0) * ((h : Int) - 64 * k)).tdiv 64

/-- Stage 7: the heat ring with a new entry; emptied first after a gap of more than 300 s, and without its
oldest entry when it holds 8 (R34). -/
def ringWith (ring : List RingEntry) (e : RingEntry) : List RingEntry :=
  let kept :=
    match ring.getLast? with
    | none => []
    | some last => if 307200 < elapsed e.stamp last.stamp then [] else ring
  (if 8 ≤ kept.length then kept.drop 1 else kept) ++ [e]

/-- Stage 8: the rate of rise in half-degrees per minute (R35). Over no span the quotient is a free value. -/
def rateOfRise (ring : List RingEntry) : Int :=
  match ring with
  | [] => 0
  | [_] => 0
  | oldest :: rest =>
    let newest := rest.getLastD oldest
    let dT := newest.temp - oldest.temp
    let dt := elapsed newest.stamp oldest.stamp
    limitInt (-255) 255
      (if dt = 0 then Config.rateOverNoSpan (dT * 61440) else (dT * 61440).tdiv dt)

/-- Stage 9: the heat index (R36). -/
def heatIndex (heatFloor : Nat) (t r : Int) : Nat :=
  let hs := limitNat 255 ((t - heatFloor) * 3)
  let hr := limitNat 255 (if 0 < r then r * 8 else 0)
  max hs hr

/-- Stage 10: the local evidence (R37). -/
def localEvidence (q hx : Nat) : Nat := min 255 (q + hx / 2 + q * hx / 256)

/-! ## Sensor notices -/

/-- A run count with its raised flag after a record of the given validity (R39, R40). The count runs over
consecutive records that speak against the flag; at 3 the flag changes and the count returns to 0. -/
def runCount (count : Nat) (raised valid : Bool) : Nat × Bool :=
  if valid == raised then (if 3 ≤ count + 1 then (0, !raised) else (count + 1, raised))
  else (0, raised)

/-- The request a change of a raised flag sends. -/
def flagTask (kind : NoticeKind) (changed raised : Bool) : List Task :=
  if changed then [if raised then .raise kind none else .clear kind none] else []

/-- Contamination (R29): the dirty-raised flag after stage 2, judged on Bi. -/
def dirtyAfter (raised : Bool) (bi : Nat) : Bool :=
  if raised then decide (560 ≤ bi) else decide (600 < bi)

/-! ## A whole record -/

/-- The evidence result (R24). -/
structure EvidenceResult where
  lv : Nat
  valid : Bool
  settling : Bool
  deriving DecidableEq, Repr

/-- The optical lane of a record (stages 1 to 5 and the dirty flag): AccI, AccB, seed-pending, dirty-raised, Q. -/
def opticalLane (gain : Nat) (quiet : Bool) (e : Evidence) (r : SampleRecord) : Evidence :=
  if r.opticalValid then
    let si := scatter r.infrared r.dark
    let sb := scatter r.blue r.dark
    let accI := stageBaseline e.seedPending quiet si e.accI
    let accB := stageBaseline e.seedPending quiet sb e.accB
    let ei := excess si accI
    let eb := excess sb accB
    { e with
      accI := accI
      accB := accB
      seedPending := false
      -- R29 judges records taken with the seed-pending flag clear.
      dirtyRaised := if e.seedPending then e.dirtyRaised else dirtyAfter e.dirtyRaised (baseline accI)
      q := smokeIndex gain ei (colourRatio ei eb) }
  else
    { e with
      dirtyRaised := if e.seedPending then e.dirtyRaised else dirtyAfter e.dirtyRaised (baseline e.accI) }

/-- The thermal lane of a record (stages 6 to 9): the ring and Hx. -/
def thermalLane (heatFloor : Nat) (e : Evidence) (r : SampleRecord) : Evidence :=
  if r.heatValid then
    let t := temperature r.heat
    let ring := ringWith e.ring ⟨t, r.stamp⟩
    { e with ring := ring, hx := heatIndex heatFloor t (rateOfRise ring) }
  else e

/-- Stages 10 to 12: Lv, the settling count and the run counts. -/
def closingStages (e : Evidence) (r : SampleRecord) : Evidence :=
  let o := runCount e.opticalRun e.opticalRaised r.opticalValid
  let h := runCount e.heatRun e.heatRaised r.heatValid
  { e with
    lv := if r.opticalValid || r.heatValid then localEvidence e.q e.hx else e.lv
    settling := e.settling - 1
    opticalRun := o.1
    opticalRaised := o.2
    heatRun := h.1
    heatRaised := h.2 }

/-- The Evidence Unit's held state after a record (R22, R23). `quiet` says that the alarm state is QUIET when
stage 2 runs (R28). -/
def evidenceAfter (cfg : Image) (quiet : Bool) (e : Evidence) (r : SampleRecord) : Evidence :=
  closingStages (thermalLane cfg.heatFloor (opticalLane cfg.gain quiet e r) r) r

/-- The notice requests that stages 2 and 12 produced (R23, R29, R39, R40). DESIGN CHOICE (log entry 15): where one
record makes both run counts reach 3, OPTICAL_SATURATED is requested before HEAT_SENSOR. -/
def evidenceTasks (before after : Evidence) : List Task :=
  flagTask .chamberDirty (before.dirtyRaised != after.dirtyRaised) after.dirtyRaised
    ++ flagTask .opticalSaturated (before.opticalRaised != after.opticalRaised) after.opticalRaised
    ++ flagTask .heatSensor (before.heatRaised != after.heatRaised) after.heatRaised

/-- The evidence result of a record (R24, R37, R38). -/
def evidenceResult (before after : Evidence) (r : SampleRecord) : EvidenceResult where
  lv := after.lv
  valid := r.opticalValid || r.heatValid
  settling := decide (0 < before.settling)

end Sys2Proof.Machine
end

