-- ==== Sys2Proof/Machine/Alarm.lean ====
section
/-! DEFINITION. The Alarm Decision unit (chapter 4): judgement, corroboration, confirmation, remote alarms and
CONTROL commands; with the commands CONFIRMING_LIMIT to AMBER_EVENT_SPAN_END. -/

namespace Sys2Proof.Machine

/-! ## The partner view and the corroboration test -/

/-- The entry is a partner entry: its zone is known and is the node's own (section 3.1). -/
def Peer.partner (zone : ZoneCode) (p : Peer) : Bool := p.zone == some zone

/-- A Pv is fresh: at most 20 s old when read (R62). -/
def PeerEvidence.fresh (now : Stamp) (v : PeerEvidence) : Bool := elapsed now v.stamp ≤ 20480

/-- An item of the partner view (R62). -/
structure PartnerItem where
  address : Byte
  pv : Option Byte
  alarm : Option AlarmState
  deriving DecidableEq, Repr

/-- The partner view: one item for each FRESH or STALE partner entry (R62). -/
def Node.partnerView (n : Node) : List PartnerItem :=
  n.peers.entries.filterMap (fun e =>
    match e with
    | none => none
    | some p =>
      if p.partner n.cfg.zone && p.state != .lost then
        some ⟨p.address, (p.pv.filter (PeerEvidence.fresh n.clock)).map (fun v => v.value), p.alarm⟩
      else none)

/-- The item corroborates: a fresh Pv of W or more, or a reported alarm state of ALARM (R69). -/
def PartnerItem.corroborates (watch : Nat) (i : PartnerItem) : Bool :=
  i.pv.any (fun v => decide (watch ≤ v.toNat)) || i.alarm == some .alarm

/-- The partner count (R69): distinct addresses of corroborating items and of own-zone origins, the node's own
address excepted. -/
def Node.partnerCount (n : Node) : Nat :=
  let fromView := (n.partnerView.filter (PartnerItem.corroborates n.cfg.watch)).map (fun i => i.address)
  let fromOrigins := (n.alarm.origins.filter
    (fun o => o.zone == n.cfg.zone && o.address != n.cfg.address)).map (fun o => o.address)
  (distinct (fromView ++ fromOrigins)).length

/-- The heat finding (R69). -/
def Node.heatFinding (n : Node) : Bool := decide (n.cfg.heatCorr ≤ n.evidence.hx)

/-- The corroboration test under the configured mode (R69). -/
def Node.corroborated (n : Node) : Bool :=
  let partners := decide (n.cfg.partners ≤ n.partnerCount)
  match n.cfg.mode with
  | .none => true
  | .partner => partners
  | .heat => n.heatFinding
  | .either => partners || n.heatFinding
  | .both => partners && n.heatFinding

/-! ## Confirmation -/

/-- The cause, from the latest Q and Hx (R72). -/
def alarmCauseOf (heatCorr q hx : Nat) : Cause :=
  if hx / 2 ≤ q ∧ hx < heatCorr then .smoke else if q < 16 then .heat else .combined

/-- The cause chosen now. -/
def Node.causeNow (n : Node) : Cause := alarmCauseOf n.cfg.heatCorr n.evidence.q n.evidence.hx

/-- The ALARM body of a confirmation (R72, R101). -/
def Node.alarmBody (n : Node) (lv : Nat) : Body :=
  .alarm n.causeNow (byte lv) (byte n.evidence.q) (byte n.evidence.hx)

/-- Originate a relayable frame and offer it to the queue as attempt 1 (R99, R107). -/
def Node.originate (n : Node) (test : Bool) (b : Body) : Node :=
  n.nextSeq.deliver [.offer (n.relayableFrame test b) (some 1)]

/-- The node's own address entered in the origin list, room made if it is full (R72, R75). -/
def AlarmUnit.addOwnOrigin (a : AlarmUnit) (o : OriginEntry) : AlarmUnit :=
  let others := a.origins.filter (fun x => x.address != o.address)
  { a with origins := (if 8 ≤ others.length then others.drop 1 else others) ++ [o] }

/-- Entry to ALARM (R72). -/
def Node.enterAlarm (n : Node) (lv : Nat) : Node :=
  let entry : OriginEntry := ⟨n.cfg.address, n.cfg.zone, n.causeNow, n.clock⟩
  let a := n.alarm.addOwnOrigin entry
  let latched := { n with alarm := { a with state := .alarm, limit := none, silenced := false } }
  let sent := (latched.dropNotice .preAlarm none).originate false (n.alarmBody lv)
  sent.record (n.alarmRecord false n.cfg.address n.cfg.zone n.causeNow (byte lv) (byte n.evidence.q)
    (byte n.evidence.hx))

/-- A test confirmation (R82). DESIGN CHOICE (log entry 15), as R82 says only that all is done in one event: the test
ALARM frame is originated before the clear of PRE_ALARM, so that it takes the first origin sequence and queue place
and the NOTICE PRE_ALARM clear frame the next; and on the panel node the own notice record of the cleared PRE_ALARM is
formed before the TEST ALARM record. -/
def Node.testConfirm (n : Node) (lv : Nat) : Node :=
  let sent := n.originate true (n.alarmBody lv)
  let rested := { sent with
    alarm := { sent.alarm with
      state := .quiet, confirmCount := 0, hysteresis := 0, limit := none
      testSound := some (later n.clock 10240) } }
  (rested.deliver [.clear .preAlarm none]).record
    (n.alarmRecord true n.cfg.address n.cfg.zone n.causeNow (byte lv) (byte n.evidence.q) (byte n.evidence.hx))

/-- A confirmation that passes: a test confirmation in walk test, else entry to ALARM (R68, R82). -/
def Node.confirm (n : Node) (lv : Nat) : Node :=
  if n.alarm.walkTest.isSome then n.testConfirm lv else n.enterAlarm lv

/-- The decision once the count equals N (R68, R71): pass at S or by corroboration; else the limit timer
starts if it is not running yet. -/
def Node.decideConfirmation (n : Node) (lv : Nat) : Node :=
  if n.cfg.solo ≤ lv || n.corroborated then n.confirm lv
  else
    { n with
      alarm := { n.alarm with
        limit := if n.alarm.limit.isSome then n.alarm.limit else some (later n.clock 307200) } }

/-- An arrival that can change the partner count (R70). -/
def Node.reevaluate (n : Node) : Node :=
  if n.alarm.state == .confirming && n.alarm.confirmCount == n.cfg.confirm && n.corroborated then
    n.confirm n.evidence.lv
  else n

/-! ## Judgement (R65 to R68, R73, R74) -/

/-- Originate an EVIDENCE frame with the latest Lv and the alarm state as it now is (R74, R102). -/
def Node.sendEvidence (n : Node) : Node :=
  n.deliver [.offer (n.oneHopFrame (.evidence (byte n.evidence.lv) n.alarm.state)) none]

/-- WATCH, entered with the full hysteresis count (R66, R67, R68, R71). -/
def AlarmUnit.toWatch (a : AlarmUnit) : AlarmUnit :=
  { a with state := .watch, confirmCount := 0, hysteresis := 4, limit := none }

/-- A judged sample in WATCH (R67). -/
def Node.judgeWatch (n : Node) (lv : Nat) : Node :=
  if n.cfg.alarm ≤ lv then
    let c := { n with alarm := { n.alarm with state := .confirming, confirmCount := 1 } }
    let raised := c.deliver [.raise .preAlarm none]
    if n.cfg.confirm ≤ 1 then raised.decideConfirmation lv else raised
  else if n.cfg.watch - 8 ≤ lv then { n with alarm := { n.alarm with hysteresis := 4 } }
  else if n.alarm.hysteresis ≤ 1 then { n with alarm := { n.alarm with state := .quiet, hysteresis := 0 } }
  else { n with alarm := { n.alarm with hysteresis := n.alarm.hysteresis - 1 } }

/-- A judged sample in CONFIRMING (R68). -/
def Node.judgeConfirming (n : Node) (lv : Nat) : Node :=
  if n.cfg.alarm ≤ lv then
    let count := min n.cfg.confirm (n.alarm.confirmCount + 1)
    let c := { n with alarm := { n.alarm with confirmCount := count } }
    if count == n.cfg.confirm then c.decideConfirmation lv else c
  else Node.deliver { n with alarm := n.alarm.toWatch } [.clear .preAlarm none]

/-- A judged sample, by the alarm state the unit holds (R65). -/
def Node.judge (n : Node) (lv : Nat) : Node :=
  match n.alarm.state with
  | .quiet => if n.cfg.watch ≤ lv then { n with alarm := n.alarm.toWatch } else n
  | .watch => n.judgeWatch lv
  | .confirming => n.judgeConfirming lv
  | .alarm => n

/-- An evidence result is taken (R65): a settling result changes nothing; an INVALID one only sends its EVIDENCE
frame outside QUIET; any other is judged, and its EVIDENCE frame follows where the state before or after the
judgement is not QUIET (R74). -/
def Node.takeResult (n : Node) (r : EvidenceResult) : Node :=
  if r.settling then n
  else if !r.valid then (if n.alarm.state == .quiet then n else n.sendEvidence)
  else
    let judged := n.judge r.lv
    if n.alarm.state == .quiet && judged.alarm.state == .quiet then judged else judged.sendEvidence

/-! ## Remote alarms (R76) -/

/-- The origin list after a remote alarm: a listed origin's cause and stamp are updated; a new one is added while
there is room (R75, R76). -/
def AlarmUnit.noteOrigin (a : AlarmUnit) (o : OriginEntry) : AlarmUnit :=
  if a.origins.any (fun x => x.address == o.address) then
    { a with
      origins := updateFirst (fun x => x.address == o.address)
        (fun x => { x with cause := o.cause, stamp := o.stamp }) a.origins }
  else
    { a with
      origins := if a.origins.length < 8 then a.origins ++ [o] else a.origins
      silenced := false
      remote := true }

/-- A remote alarm is taken (R76). DESIGN CHOICE (log entry 15), as R76 and R183 give no order: on the panel node the
EVENT record of the remote ALARM is formed before the confirmation is evaluated again (R70), so that it stands before
the node's own PRE_ALARM and ALARM records where the stored origin completes the confirmation. -/
def Node.remoteAlarm (n : Node) (h : Header) (cause : Cause) (lv q hx : Byte) : Node :=
  if h.origin == n.cfg.address then n
  else
    let record := n.alarmRecord h.test h.origin h.zone cause lv q hx
    if h.test then n.record record
    else
      let a := n.alarm.noteOrigin ⟨h.origin, h.zone, cause, n.clock⟩
      let stored := a.origins.length != n.alarm.origins.length
      let noted := Node.record { n with alarm := a } record
      if stored && h.zone == n.cfg.zone then noted.reevaluate else noted

/-! ## CONTROL commands (R77 to R82) -/

/-- Walk test ends; an end is remembered until the next tick (R81, R83). -/
def AlarmUnit.endTest (a : AlarmUnit) (now : Stamp) : AlarmUnit :=
  { a with walkTest := none, testEnded := if a.walkTest.isSome then some now else a.testEnded }

/-- An applied RESET (R79). -/
def Node.applyReset (n : Node) : Node :=
  Node.deliver
    { n with
      alarm := { n.alarm with
        state := .quiet, confirmCount := 0, hysteresis := 0, limit := none, origins := []
        silenced := false, remote := false, testSound := none } }
    [.clear .preAlarm none]

/-- A command's effect (R78, R79, R81). -/
def Node.applyCommand (n : Node) : Command → Node
  | .silence => { n with alarm := { n.alarm with silenced := true } }
  | .reset => n.applyReset
  | .testOn =>
    if n.alarm.state == .alarm then n
    else { n with alarm := { n.alarm with walkTest := some (later n.clock 1843200) } }
  | .testOff => { n with alarm := n.alarm.endTest n.clock }

/-- A TEST_ON taken in ALARM is refused (R81). -/
def Node.refusesCommand (n : Node) (c : Command) : Bool := c == .testOn && n.alarm.state == .alarm

/-- The CONTROL APPLIED event record (R183). -/
def Node.controlRecord (n : Node) (c : Command) (origin : Byte) (zone : ZoneCode) : EventRecord where
  kind := .controlApplied
  origin := origin
  zone := zone
  code := c.code
  sense := false
  subject := none
  q := 0
  hx := 0
  lv := 0
  stamp := n.clock
  lost := false

/-- A command is applied when its target zone is 0 or the node's own (R77); a refused TEST_ON forms no record
(R81). `origin` and `zone` name the sender of the command. -/
def Node.control (n : Node) (c : Command) (target : ZoneCode) (origin : Byte) (zone : ZoneCode) : Node :=
  if target != 0 && target != n.cfg.zone then n
  else if n.refusesCommand c then n
  else (n.applyCommand c).record (n.controlRecord c origin zone)

/-- A forced sample (R83): a test confirmation with Lv 255 while walk test is active, except on a REPEATER. -/
def Node.forcedSample (n : Node) : Node :=
  if n.alarm.walkTest.isSome && n.cfg.role != .repeater then n.testConfirm 255 else n

/-! ## The commands -/

/-- CONFIRMING_LIMIT (R71): UNCONFIRMED first, then the clear of PRE_ALARM. -/
def execConfirmingLimit (s : State) : Host.Outcome State Fault Refusal :=
  let n := s.node
  s.go
    (if due n.clock n.alarm.limit then
      if n.alarm.state == .confirming then
        (Node.deliver { n with alarm := n.alarm.toWatch }
          [.event .unconfirmed none, .clear .preAlarm none]).settleWoken
      else Node.woken { n with alarm := { n.alarm with limit := none } }
    else n)

/-- WALK_TEST_EXPIRY (R81). -/
def execWalkTestExpiry (s : State) : Host.Outcome State Fault Refusal :=
  let n := s.node
  s.go
    (if due n.clock n.alarm.walkTest then Node.settleWoken { n with alarm := n.alarm.endTest n.clock }
    else n)

/-- TEST_SOUND_SPAN_END (R82). -/
def execTestSoundSpanEnd (s : State) : Host.Outcome State Fault Refusal :=
  let n := s.node
  s.go
    (if due n.clock n.alarm.testSound then Node.settleWoken { n with alarm := { n.alarm with testSound := none } }
    else n)

/-- The end of the amber event span: 60 s after the latest event (R85). -/
def AlarmUnit.eventSpanEnd (a : AlarmUnit) : Option Stamp := a.lastEvent.map (fun s => later s 61440)

/-- AMBER_EVENT_SPAN_END (R85). -/
def execAmberEventSpanEnd (s : State) : Host.Outcome State Fault Refusal :=
  let n := s.node
  s.go
    (if due n.clock n.alarm.eventSpanEnd then Node.settleWoken { n with alarm := { n.alarm with lastEvent := none } }
    else n)

end Sys2Proof.Machine
end

