-- ==== Sys2Proof/Machine/Flooding.lean ====
section
/-! DEFINITION. The Relay Engine (chapter 8): the seen list, the relay decision, suppression and the echo
watch; with the commands SEEN_ENTRY_EXPIRY, ECHO_WINDOW_EXPIRY and RESEND_TIME. -/

namespace Sys2Proof.Machine

/-! ## The seen list (R138, R139) -/

/-- The answers of the seen-list check (R132). -/
inductive SeenAnswer where
  | first | later | echo
  deriving DecidableEq, Repr

/-- The entry holds this origin and sequence. -/
def SeenEntry.holds (origin seq : Byte) (e : SeenEntry) : Bool := e.origin == origin && e.seq == seq

/-- A further copy of an entry is heard: copies heard counts up to 15 (R138). -/
def SeenEntry.again (e : SeenEntry) : SeenEntry := { e with copies := min 15 (e.copies + 1) }

/-- The entry a copy creates (R139). -/
def newSeen (f : Frame) (arrival : Stamp) (status : RelayStatus) : SeenEntry where
  origin := f.hdr.origin
  seq := f.hdr.seq
  cls := f.cls
  firstHeard := arrival
  copies := 1
  status := status

/-- A new entry at the end of the list; a full list first gives up its first entry (R138). -/
def RelayEngine.enter (r : RelayEngine) (e : SeenEntry) : RelayEngine :=
  { r with seen := (if 24 ≤ r.seen.length then r.seen.drop 1 else r.seen) ++ [e] }

/-- The entry of an origin and sequence. -/
def RelayEngine.entry (r : RelayEngine) (origin seq : Byte) : Option SeenEntry :=
  r.seen.find? (SeenEntry.holds origin seq)

/-- The answer to a copy (R139). -/
def RelayEngine.answer (r : RelayEngine) (own : Byte) (f : Frame) : SeenAnswer :=
  if f.hdr.origin == own && f.hdr.sender != own then .echo
  else if (r.entry f.hdr.origin f.hdr.seq).isSome then .later
  else .first

/-- The list after a copy (R139). -/
def RelayEngine.hear (r : RelayEngine) (own : Byte) (f : Frame) (arrival : Stamp) : RelayEngine :=
  if (r.entry f.hdr.origin f.hdr.seq).isSome then
    { r with seen := updateFirst (SeenEntry.holds f.hdr.origin f.hdr.seq) SeenEntry.again r.seen }
  else if r.answer own f == .echo then r.enter (newSeen f arrival .notRelaying)
  else r.enter (newSeen f arrival .none)

/-- The relay status of an entry is set. -/
def RelayEngine.mark (r : RelayEngine) (origin seq : Byte) (st : RelayStatus) : RelayEngine :=
  { r with seen := updateFirst (SeenEntry.holds origin seq) (fun e => { e with status := st }) r.seen }

/-! ## Suppression (R143) -/

/-- The entry is to be suppressed under the threshold (R143). -/
def SeenEntry.suppressible (threshold : Nat) (e : SeenEntry) : Bool :=
  decide (threshold ≤ e.copies) && e.status == .pending && e.cls != .alarm && threshold != 0

/-- The suppression test made on a later copy (R143). -/
def Node.suppress (n : Node) (origin seq : Byte) : Node :=
  if (n.relay.entry origin seq).any (SeenEntry.suppressible n.cfg.suppress) then
    let r := n.tx.withdraw origin seq
    if r.2 == .tooLate then n else { n with tx := r.1, relay := n.relay.mark origin seq .cancelled }
  else n

/-! ## The echo watch (R144 to R147) -/

/-- The watch entry of a sequence. -/
def RelayEngine.watchOf (r : RelayEngine) (seq : Byte) : Option WatchEntry :=
  r.watch.find? (WatchEntry.hasSeq seq)

/-- The watch entry of a sequence is closed. -/
def RelayEngine.unwatch (r : RelayEngine) (seq : Byte) : RelayEngine :=
  { r with watch := removeFirst (WatchEntry.hasSeq seq) r.watch }

/-- The watch entry of a sequence is changed. -/
def RelayEngine.rewatch (r : RelayEngine) (seq : Byte) (f : WatchEntry → WatchEntry) : RelayEngine :=
  { r with watch := updateFirst (WatchEntry.hasSeq seq) f r.watch }

/-- A watch opened in WINDOW for a completed frame (R145). -/
def newWatch (now : Stamp) (f : Frame) (attempt : Nat) : WatchEntry where
  frame := f
  attempt := attempt
  state := .window (later now 2048)

/-- A new watch is opened at the end of the list; a full list gives up its oldest NOTICE entry, and without one
the frame goes unwatched (R145). -/
def RelayEngine.openWatch (r : RelayEngine) (w : WatchEntry) : RelayEngine :=
  if r.watch.length < 4 then { r with watch := r.watch ++ [w] }
  else
    match indexOf (fun e => e.frame.cls == .notice) r.watch with
    | none => r
    | some i => { r with watch := removeAt r.watch i ++ [w] }

/-- A completed OWN frame of a relayable class is handed to the echo watch (R145). -/
def RelayEngine.complete (r : RelayEngine) (now : Stamp) (f : Frame) (attempt : Nat) : RelayEngine :=
  match r.watchOf f.hdr.seq with
  | none => r.openWatch (newWatch now f attempt)
  | some e =>
    match e.state with
    | .retryQueued => r.rewatch f.hdr.seq (fun _ => newWatch now f attempt)
    | .echoed => r.unwatch f.hdr.seq
    | _ => (r.unwatch f.hdr.seq).openWatch (newWatch now f attempt)

/-- A copy answered ECHO is offered to the echo watch (R146, R147). -/
def Node.takeEcho (n : Node) (seq : Byte) : Node :=
  match n.relay.watchOf seq with
  | none => n
  | some e =>
    match e.state with
    | .echoed => n
    | .retryQueued =>
      let r := n.tx.withdraw n.cfg.address seq
      let relay :=
        if r.2 == .tooLate then n.relay.rewatch seq (fun w => { w with state := .echoed })
        else n.relay.unwatch seq
      Node.deliver { n with tx := r.1, relay := relay } [.echo true]
    | _ => Node.deliver { n with relay := n.relay.unwatch seq } [.echo true]

/-- A copy is taken by the Relay Engine (R139): the list, and then suppression or the echo watch. -/
def Node.takeCopy (n : Node) (f : Frame) (arrival : Stamp) : Node × SeenAnswer :=
  let answer := n.relay.answer n.cfg.address f
  let heard := { n with relay := n.relay.hear n.cfg.address f arrival }
  match answer with
  | .first => (heard, .first)
  | .later => (heard.suppress f.hdr.origin f.hdr.seq, .later)
  | .echo => (heard.takeEcho f.hdr.seq, .echo)

/-! ## The relay decision (R140 to R142) -/

/-- One of the tests of R140 holds: no relayed copy is made. -/
def Node.refusesRelay (n : Node) (f : Frame) (relay : Bool) : Bool :=
  !relay || f.hdr.origin == n.cfg.address || f.hdr.hop == 0 || n.link.state == .isolated ||
    (n.power.battery == .critical && f.cls != .alarm)

/-- The base of a class's holdoff in milliseconds (R141). -/
def holdoffBase : FrameClass → Nat
  | .alarm => 0
  | .control => 40
  | _ => 200

/-- A holdoff in node-clock units, from the draw that gives its jitter (R141). -/
def holdoff (c : FrameClass) (draw : BitVec 16) : Nat := ticksOfMs (holdoffBase c + draw.toNat % 16 * 8)

/-- The relayed copy (R98, R141). -/
def Frame.relayed (f : Frame) (own : Byte) : Frame :=
  { f with hdr := { f.hdr with sender := own, hop := f.hdr.hop - 1 } }

/-- The relay status after the queue's answer (R141). -/
def statusAfter : OfferAnswer → RelayStatus
  | .accepted => .pending
  | .duplicate => .pending
  | .replaced => .pending
  | .dropped => .notRelaying

/-- A relay offer is taken and decided (R140, R141). -/
def Node.takeRelayOffer (n : Node) (f : Frame) (relay : Bool) : Node :=
  if n.refusesRelay f relay then { n with relay := n.relay.mark f.hdr.origin f.hdr.seq .notRelaying }
  else
    let d := n.draw
    let r := d.offer (f.relayed n.cfg.address) false (later n.clock (holdoff f.cls d.tx.rng)) none
    let m := r.1
    let status := (r.2.1.map statusAfter).getD .notRelaying
    Node.deliver { m with relay := m.relay.mark f.hdr.origin f.hdr.seq status } r.2.2

/-! ## Misses and retries (R148 to R150) -/

/-- A retry is offered to the queue: accepted, the entry waits in RETRY_QUEUED; refused, it is closed with
NO_PATH (R148, R150). -/
def Node.retry (n : Node) (e : WatchEntry) (attempt : Nat) : Node :=
  let seq := e.frame.hdr.seq
  let r := n.offer e.frame true n.clock (some attempt)
  let m := r.1
  if r.2.1 == some .accepted then
    Node.deliver
      { m with relay := m.relay.rewatch seq (fun w => { w with attempt := attempt, state := .retryQueued }) } r.2.2
  else Node.deliver { m with relay := m.relay.unwatch seq } (r.2.2 ++ noPathTasks e.frame)

/-- The window of a watch entry expires unechoed: the miss is counted, and the entry goes on by its class, its
attempt number and the link state then held (R148). -/
def Node.missEcho (n : Node) (e : WatchEntry) (expiry : Stamp) : Node :=
  let seq := e.frame.hdr.seq
  let missed := n.deliver [.echo false]
  if e.frame.cls == .alarm && missed.link.state == .isolated then
    { missed with
      relay := missed.relay.rewatch seq (fun w => { w with state := .resendWait (later expiry 30720) }) }
  else if e.attempt < 4 then missed.retry e (e.attempt + 1)
  else Node.deliver { missed with relay := missed.relay.unwatch seq } (noPathTasks e.frame)

/-- The expiry of a watch entry in WINDOW. -/
def WatchEntry.windowEnd (e : WatchEntry) : Option Stamp :=
  match e.state with
  | .window expiry => some expiry
  | _ => none

/-- The resend time of a watch entry in RESEND_WAIT. -/
def WatchEntry.resendAt (e : WatchEntry) : Option Stamp :=
  match e.state with
  | .resendWait time => some time
  | _ => none

/-- The seen-list entry's expiry: 90 s after its first-heard stamp (R138). -/
def SeenEntry.expiry (e : SeenEntry) : Stamp := later e.firstHeard 92160

/-! ## The commands -/

/-- SEEN_ENTRY_EXPIRY (R138). -/
def execSeenEntryExpiry (s : State) : Host.Outcome State Fault Refusal :=
  let n := s.node
  s.go
    { n with
      relay := { n.relay with seen := removeFirst (fun e => reached n.clock e.expiry) n.relay.seen } }

/-- ECHO_WINDOW_EXPIRY (R148). -/
def execEchoWindowExpiry (s : State) : Host.Outcome State Fault Refusal :=
  let n := s.node
  s.go
    (match n.relay.watch.find? (fun e => due n.clock e.windowEnd) with
    | none => n
    | some e => (n.missEcho e (e.windowEnd.getD n.clock)).settleWoken)

/-- RESEND_TIME (R149). -/
def execResendTime (s : State) : Host.Outcome State Fault Refusal :=
  let n := s.node
  s.go
    (match n.relay.watch.find? (fun e => due n.clock e.resendAt) with
    | none => n
    | some e => (n.retry e (min 255 (e.attempt + 1))).settleWoken)

end Sys2Proof.Machine
end

