-- ==== Sys2Proof/Machine/Peers.lean ====
section
/-! DEFINITION. The Peer Table and Link Observer (chapter 3) and the beacon schedule (R120); with the commands
SUPERVISION_PERIOD_END to BEACON_DUE. -/

namespace Sys2Proof.Machine

/-! ## Updating an entry (R48 to R50) -/

/-- A sender that equals the origin describes itself (R49, R54). -/
def Frame.fromOrigin (f : Frame) : Bool := f.hdr.sender == f.hdr.origin

/-- The frame writes Pv and the reported alarm state of its sender's entry (R49, R50). -/
def Frame.reports (f : Frame) : Bool :=
  f.fromOrigin && (f.cls == .beacon || f.cls == .evidence)

/-- The class content applied to an entry (R49, R50). `own` is the node's address. DESIGN CHOICE (log entry 40): an
EVIDENCE that refreshes a LOST entry writes the reported alarm state too, by R48 and R50; R51 says that any class but
BEACON leaves it. -/
def Peer.content (p : Peer) (own : Byte) (now : Stamp) (f : Frame) : Peer :=
  if !f.fromOrigin then p
  else
    match f.body with
    | .beacon status lv heard =>
      { p with
        zone := zoneOfCode f.hdr.zone
        role := Role.ofCode f.hdr.role
        alarm := some (AlarmState.ofCode (status.extractLsb' 6 2))
        pv := some ⟨lv, now⟩
        twoWay := heard.contains own }
    | .evidence lv state => { p with alarm := some state, pv := some ⟨lv, now⟩ }
    | _ => p

/-- The refresh of a matched entry (R48). -/
def Peer.refresh (p : Peer) (now : Stamp) (level : Nat) : Peer :=
  { p with
    level := (3 * p.level + level) / 4
    heardAt := now
    missed := 0
    heard := true
    state := .fresh }

/-- The entry of an admitted newcomer, before its class content (R55). -/
def newPeer (now : Stamp) (level : Nat) (f : Frame) : Peer where
  state := .fresh
  address := f.hdr.sender
  zone := if f.fromOrigin then zoneOfCode f.hdr.zone else none
  role := if f.fromOrigin then Role.ofCode f.hdr.role else none
  level := level
  heardAt := now
  missed := 0
  heard := true
  twoWay := false
  alarm := none
  pv := none

/-! ## Looking up and admitting (R45, R53, R54) -/

/-- The index of the entry that matches a sender (R45). -/
def PeerTable.find (t : PeerTable) (address : Byte) : Option Nat :=
  indexOf (fun e => e.any (fun p => p.address == address)) t.entries

/-- The weakest entry of a group, from index `i` on: its index and level; among equals the lower index
(section 3.4). -/
def weakestFrom (group : Peer → Bool) (i : Nat) : List (Option Peer) → Option (Nat × Nat)
  | [] => none
  | none :: rest => weakestFrom group (i + 1) rest
  | some p :: rest =>
    let later := weakestFrom group (i + 1) rest
    if group p then
      match later with
      | none => some (i, p.level)
      | some (j, l) => if p.level ≤ l then some (i, p.level) else some (j, l)
    else later

/-- The weakest entry of a group. -/
def PeerTable.weakest (t : PeerTable) (group : Peer → Bool) : Option (Nat × Nat) :=
  weakestFrom group 0 t.entries

/-- The entry a group's weakest member yields to a reading at least 6 greater (R54). -/
def yields (w : Option (Nat × Nat)) (level : Nat) : Option Nat :=
  match w with
  | none => none
  | some (i, l) => if l + 6 ≤ level then some i else none

/-- The index a newcomer is admitted to (R53, R54). -/
def PeerTable.place (t : PeerTable) (zone : ZoneCode) (level : Nat) (f : Frame) : Option Nat :=
  match indexOf Option.isNone t.entries with
  | some i => some i
  | none =>
    match t.lossOrder with
    | i :: _ => some i
    | [] =>
      let others := t.weakest (fun p => !p.partner zone)
      if f.fromOrigin && zoneOfCode f.hdr.zone == some zone then
        match others with
        | some (i, _) => some i
        | none => yields (t.weakest (fun p => p.partner zone)) level
      else yields others level

/-! ## The Link Observer (R46, R47) -/

/-- A frame that carries the node's own sender address (R47). -/
def Node.conflict (n : Node) : Node :=
  let raised := n.peers.conflictRaised
  Node.deliver
    { n with peers := { n.peers with conflictHeard := true, quietCount := 0, conflictRaised := true } }
    (if raised then [] else [.raise .addressConflict (some n.cfg.address)])

/-- The lost-subject check (R59). -/
def Node.checkLostSubject (n : Node) (sender : Byte) : Node :=
  if n.peers.lostSubjects.contains sender then
    Node.deliver { n with peers := { n.peers with lostSubjects := n.peers.lostSubjects.filter (· != sender) } }
      [.clear .peerLost (some sender), .event .peerRestored (some sender)]
  else n

/-- The frame is a BEACON whose heard-list contains the address (R61). -/
def Frame.lists (f : Frame) (address : Byte) : Bool :=
  match f.body with
  | .beacon _ _ heard => heard.contains address
  | _ => false

/-- The table after a frame from a node address other than the node's own (R48 to R55), and the entry the frame
is now in, if any. -/
def PeerTable.take (t : PeerTable) (own : Byte) (zone : ZoneCode) (now : Stamp) (level : Nat) (f : Frame) :
    PeerTable × Option Peer :=
  match t.find f.hdr.sender with
  | some i =>
    match (t.entries[i]?).join with
    | none => (t, none)
    | some p =>
      let p' := (p.refresh now level).content own now f
      ({ t with entries := setAt t.entries i (some p'), lossOrder := t.lossOrder.filter (· != i) }, some p')
  | none =>
    match t.place zone level f with
    | none => ({ t with untracked := countUp t.untracked }, none)
    | some i =>
      let p' := (newPeer now level f).content own now f
      ({ t with entries := setAt t.entries i (some p'), lossOrder := t.lossOrder.filter (· != i) }, some p')

/-- The Link Observer takes a frame (R46): the partner-change signal is raised where the frame wrote Pv or the
reported alarm state of what is now a partner entry (R52, R70). DESIGN CHOICE (log entry 38): the entry is judged after
the frame's zone is written, so a BEACON that moves a partner entry out of the node's own zone raises no signal. -/
def Node.observe (n : Node) (level : Nat) (f : Frame) : Node :=
  let sender := f.hdr.sender
  if sender == 0 || sender == 255 then n
  else if sender == n.cfg.address then n.conflict
  else
    let checked := n.checkLostSubject sender
    let r := checked.peers.take n.cfg.address n.cfg.zone n.clock level f
    let table := if f.lists n.cfg.address then { r.1 with listed := true } else r.1
    let taken := { checked with peers := table }
    if f.reports && r.2.any (Peer.partner n.cfg.zone) then taken.reevaluate else taken

/-! ## Supervision (R56, R57, R59, R62) -/

/-- An entry after a period end (R57). -/
def Peer.supervise (p : Peer) : Peer :=
  if p.state == .lost then p
  else if p.heard then { p with heard := false }
  else
    let m := p.missed + 1
    { p with missed := m, state := if 3 ≤ m then .lost else .stale }

/-- A period end makes the entry LOST (R57). -/
def Peer.falls (p : Peer) : Bool := p.state != .lost && !p.heard && decide (3 ≤ p.missed + 1)

/-- The entries that a period end makes LOST, with their indices from `i` on. -/
def fallingFrom (i : Nat) : List (Option Peer) → List (Nat × Peer)
  | [] => []
  | none :: rest => fallingFrom (i + 1) rest
  | some p :: rest => if p.falls then (i, p) :: fallingFrom (i + 1) rest else fallingFrom (i + 1) rest

/-- The newly LOST entries, ordered by last-heard stamp, older first, equal stamps by lower index (R57). -/
def PeerTable.falling (t : PeerTable) (now : Stamp) : List (Nat × Peer) :=
  sortBy (fun x y => decide (elapsed now y.2.heardAt < elapsed now x.2.heardAt)) (fallingFrom 0 t.entries)

/-- An entry's Pv after a period end: removed when not fresh, and from every LOST entry (R62). -/
def Peer.agePv (p : Peer) (now : Stamp) : Peer :=
  if p.state == .lost then { p with pv := none } else { p with pv := p.pv.filter (PeerEvidence.fresh now) }

/-- A lost two-way peer is recorded in the lost-subject list and PEER_LOST requested; a full list first gives up
its oldest (R59). -/
def Node.recordLost (n : Node) (address : Byte) : Node :=
  let full := decide (16 ≤ n.peers.lostSubjects.length)
  let kept := if full then n.peers.lostSubjects.drop 1 else n.peers.lostSubjects
  let given := if full then n.peers.lostSubjects.take 1 else []
  if n.peers.lostSubjects.contains address then n
  else
    Node.deliver { n with peers := { n.peers with lostSubjects := kept ++ [address] } }
      (given.map (fun a => Task.clear .peerLost (some a)) ++ [.raise .peerLost (some address)])

/-- The conflict state after a period end (R47). -/
def Node.conflictPeriod (n : Node) : Node :=
  let t := n.peers
  if t.conflictRaised && !t.conflictHeard then
    if 3 ≤ t.quietCount + 1 then
      Node.deliver { n with peers := { t with conflictRaised := false, quietCount := 0 } }
        [.clear .addressConflict (some n.cfg.address)]
    else { n with peers := { t with quietCount := t.quietCount + 1 } }
  else { n with peers := { t with conflictHeard := false } }

/-- The beacon schedule of a period that starts now (R120): an offset drawn, the full-period due time and the
half-period mark. -/
def Node.scheduleBeacons (n : Node) : Node :=
  let d := n.draw
  { d with
    tx := { d.tx with
      beaconDue := some (later n.clock (d.tx.rng.toNat % 2048))
      halfMark := some (later n.clock (n.cfg.period / 2)) } }

/-- A supervision period starts now (R56, R120). -/
def Node.startPeriod (n : Node) : Node :=
  Node.scheduleBeacons { n with peers := { n.peers with periodEnd := some (later n.clock n.cfg.period) } }

/-- The work of a period end (R56): supervision, the lost subjects, the conflict state, stale evidence, the
beacon-listing report, and the next period. -/
def Node.endPeriod (n : Node) : Node :=
  let falling := n.peers.falling n.clock
  let t := { n.peers with
    entries := n.peers.entries.map (fun e => e.map (fun p => p.supervise.agePv n.clock))
    lossOrder := n.peers.lossOrder ++ falling.map (fun x => x.1) }
  let supervised := { n with peers := t }
  let recorded := (falling.filter (fun x => x.2.twoWay)).foldl (fun m x => m.recordLost x.2.address) supervised
  let judged := recorded.conflictPeriod
  let reported := Node.deliver { judged with peers := { judged.peers with listed := false } }
    [.echo judged.peers.listed]
  reported.startPeriod

/-! ## Beacons (R60, R102, R120) -/

/-- The heard-list: the addresses of the FRESH entries, strongest first, equal levels by the lower address, at
most 6 (R60). -/
def PeerTable.heardList (t : PeerTable) : List Byte :=
  let fresh := t.entries.filterMap (fun e => e.filter (fun p => p.state == .fresh))
  let ordered := sortBy (fun x y => decide (y.level < x.level) || (x.level == y.level && decide (x.address < y.address)))
    fresh
  (ordered.map (fun p => p.address)).take 6

/-- The status byte of a BEACON (R102). -/
def Node.statusByte (n : Node) : Byte :=
  n.alarm.state.code ++ n.link.state.code ++ n.power.battery.code ++ n.power.phase.code

/-- The BEACON frame built now (R60). -/
def Node.beaconFrame (n : Node) : Frame :=
  n.oneHopFrame (.beacon n.statusByte (byte n.evidence.lv) n.peers.heardList)

/-- A beacon is built and offered (R60, R120). -/
def Node.sendBeacon (n : Node) : Node := n.deliver [.offer n.beaconFrame none]

/-! ## The commands -/

/-- SUPERVISION_PERIOD_END (R57). -/
def execSupervisionPeriodEnd (s : State) : Host.Outcome State Fault Refusal :=
  let n := s.node
  s.go (if due n.clock n.peers.periodEnd then n.endPeriod.settleWoken else n)

/-- HALF_PERIOD_MARK (R120): a STRAINED node draws a second offset. -/
def execHalfPeriodMark (s : State) : Host.Outcome State Fault Refusal :=
  let n := s.node
  s.go
    (match n.tx.halfMark with
    | none => n
    | some mark =>
      if reached n.clock mark then
        let passed := { n with tx := { n.tx with halfMark := none } }
        if n.link.state == .strained then
          let d := passed.draw
          { d with tx := { d.tx with halfDue := some (later mark (d.tx.rng.toNat % 2048)) } }
        else passed
      else n)

/-- BEACON_DUE (R120): the due time reached becomes absent, and a BEACON is built and offered. -/
def execBeaconDue (s : State) : Host.Outcome State Fault Refusal :=
  let n := s.node
  s.go
    (if due n.clock n.tx.beaconDue then
      (Node.sendBeacon { n with tx := { n.tx with beaconDue := none } }).settleWoken
    else if due n.clock n.tx.halfDue then
      (Node.sendBeacon { n with tx := { n.tx with halfDue := none } }).settleWoken
    else n)

end Sys2Proof.Machine
end

