-- ==== Sys2Proof/Machine/Reset.lean ====
section
/-! DEFINITION. The three resets, the configuration read, and the start of the node (sections 10.5, 10.7, 11.4
and 11.5, with each chapter's table of values after resets); with the commands POWER_ON_RESET, CONFIG_ATTEMPT
and CONFIG_RETRY_GAP. -/

namespace Sys2Proof.Machine

/-! ## What a reset keeps -/

/-- A debounce in progress from a level that differs from the debounced state (R175 to R177). -/
def debounceFrom (level state : Bool) (now : Stamp) : Option Stamp :=
  if level == state then none else some (later now (ticksOfMs 50))

/-- The Output Driver after a power-on reset: the lines keep their levels, the debounced states are ON_BASE and
released, and debouncing begins from the levels (R177). -/
def Outputs.repowered (o : Outputs) (now : Stamp) : Outputs :=
  { Outputs.powerOn with
    tamperLine := o.tamperLine
    tamperDebounce := debounceFrom o.tamperLine false now
    testLine := o.testLine
    testDebounce := debounceFrom o.testLine false now }

/-- The Output Driver after a RESTART, a PARK or an exit from DORMANT: the debounced states and debounces stay; a
hold is timed no further; overlays and patterns end (R177). -/
def Outputs.restarted (o : Outputs) : Outputs :=
  { o with sounder := none, chirp := none, red := ⟨.off, 0, none⟩, amber := ⟨.dark, 0, none⟩,
           overlay := none, hold := .none }

/-- The Evidence Unit after a RESTART or a PARK: the accumulators and the seed-pending flag are kept
(Table 2-9). -/
def Evidence.restarted (e : Evidence) : Evidence :=
  { Evidence.powerOn with accI := e.accI, accB := e.accB, seedPending := e.seedPending }

/-! ## The resets -/

/-- A power-on reset (R179 and the "Power-on" columns). The levels of the input lines and the carrier on the
channel are the world's. -/
def Node.repower (n : Node) : Node :=
  { Node.powerOn with
    rx := { Receiver.powerOn with carrier := n.rx.carrier }
    out := n.out.repowered 0
    untypedRejects := n.untypedRejects }

/-- A RESTART (R179 and the "RESTART" columns): START-UP, with the node clock, the baseline accumulators and the
seed-pending flag kept. The image, clamp list and cause stand until the read ends (R178). Both buffers are FREE
(R15), and their fields blank: DESIGN CHOICE (log entry 1). The link counts are 0 whatever was reported before, and
no report is left to be taken after it (R159): DESIGN CHOICE (log entry 36). -/
def Node.restart (n : Node) : Node :=
  { Node.powerOn with
    clock := n.clock
    evidence := n.evidence.restarted
    tx := { Transmitter.powerOn with rng := n.tx.rng }
    rx := { Receiver.powerOn with carrier := n.rx.carrier }
    relay := { RelayEngine.powerOn with originSeq := n.relay.originSeq }
    out := n.out.restarted
    loader := { n.loader with read := some ⟨1, none, false⟩ }
    untypedRejects := n.untypedRejects }

/-- A PARK (R179 and the "PARK" columns): DORMANT without a read, with the image in force and the baselines
kept. Both buffers are FREE (R15), and their fields blank: DESIGN CHOICE (log entry 1). Link reports and this reset
are as in `Node.restart` (R159, log entry 36). -/
def Node.park (n : Node) : Node :=
  { Node.powerOn with
    clock := n.clock
    sensing := { Sensing.powerOn with cycleCounter := n.sensing.cycleCounter }
    evidence := n.evidence.restarted
    tx := { Transmitter.powerOn with rng := n.tx.rng, oneHop := n.tx.oneHop }
    rx := { Receiver.powerOn with carrier := n.rx.carrier }
    relay := { RelayEngine.powerOn with originSeq := n.relay.originSeq }
    power := { Power.powerOn with phase := .dormant, parked := true }
    out := n.out.restarted
    loader := { n.loader with read := none }
    untypedRejects := n.untypedRejects }

/-! ## The end of a read -/

/-- A press made during START-UP is timed from its end (R176). -/
def Hold.started (h : Hold) (now : Stamp) : Hold :=
  match h with
  | .startUpPress => .since now false false
  | h => h

/-- A read ends refused (R167, R168, R178): no image is in force, the cause is kept, and the node is DORMANT with
the config pattern, shown from its beginning. -/
def Node.refuse (n : Node) (cause : ReadCause) : Node :=
  { n with
    loader := ⟨none, [], some cause, none⟩
    power := { n.power with phase := .dormant, parked := false }
    out := { n.out with amber := ⟨.dark, 0, none⟩, hold := n.out.hold.started n.clock } }

/-- The random generator is seeded, and the origin sequence counter takes the low 8 bits of one draw
(R99, R121). -/
def Node.seed (n : Node) (address noise : Byte) : Node :=
  let d := Node.draw { n with tx := { n.tx with rng := address ++ noise } }
  { d with relay := { d.relay with originSeq := d.tx.rng.setWidth 8 } }

/-- The count stage as it starts (R4). -/
def SampleTimer.started : SampleTimer where
  running := true
  count := 1
  reload := 64

/-- The battery class a node starts with (R170). -/
def startBattery (role : Role) : Battery := if role == .panelAttached then .external else .normal

/-- The Power Controller as the node starts: RUN on a PANEL_ATTACHED node, else PATROL with a linger of 1 s
(R168, R179). -/
def Power.started (p : Power) (role : Role) (now : Stamp) : Power :=
  { p with
    phase := if role == .panelAttached then .run else .patrol
    parked := false
    linger := if role == .panelAttached then none else some (later now 1024)
    battery := startBattery role }

/-- The node starts with an accepted image in force (R179). -/
def Node.start (n : Node) (img : Image) (clamps : List Nat) (noise : Byte) : Node :=
  let placed := { n with
    loader := ⟨some img, clamps, none, none⟩
    timer := .started
    power := n.power.started img.role n.clock
    out := { n.out with hold := n.out.hold.started n.clock } }
  let timed := (placed.seed img.address noise).startPeriod
  timed.deliver (if timed.out.offBase then [.raise .tamper none] else [])

/-- What an exit from DORMANT sets before the node starts (R168, R177). -/
def Node.leaveDormant (n : Node) : Node :=
  { n with
    evidence := { n.evidence with seedPending := true, settling := 8 }
    sensing := { n.sensing with cycleCounter := 0 }
    tx := { n.tx with oneHop := 0 }
    out := n.out.restarted }

/-- A read ends accepted (R168, R179). -/
def Node.acceptImage (n : Node) (exit : Bool) (img : Image) (clamps : List Nat) (noise : Byte) : Node :=
  if exit then n.leaveDormant.start img clamps noise else n.start img clamps noise

/-- An exit request in DORMANT starts a read; one taken during a read is discarded (R168). -/
def Node.requestExit (n : Node) : Node :=
  if n.loader.read.isSome then n else { n with loader := { n.loader with read := some ⟨1, none, true⟩ } }

/-- An attempt of the read in progress ends (R178). -/
def Node.attemptEnds (n : Node) (r : Reading) (read : Option (List Byte)) (noise : Byte) : Node :=
  match read with
  | none =>
    if 3 ≤ r.attempt then n.refuse .absent
    else
      { n with loader := { n.loader with read := some { r with gap := some (later n.clock (ticksOfMs 10)) } } }
  | some bs =>
    match judgeImage bs with
    | .error cause => n.refuse cause
    | .ok (img, clamps) => n.acceptImage r.exit img clamps noise

/-! ## The commands -/

/-- POWER_ON_RESET (R179). -/
def execPowerOnReset (s : State) : Host.Outcome State Fault Refusal := s.go s.node.repower.settle

/-- CONFIG_ATTEMPT (R178): an exit read is work of the oscillator, which has started before an attempt ends (R162,
R168). -/
def execConfigAttempt (read : Option (List Byte)) (noise : Byte) (s : State) :
    Host.Outcome State Fault Refusal :=
  let n := s.node
  s.go
    (match n.loader.read with
    | none => n
    | some r =>
      if r.gap.isSome || n.power.oscillator != .running then n else (n.attemptEnds r read noise).settle)

/-- CONFIG_RETRY_GAP (R178): the next attempt begins. -/
def execConfigRetryGap (s : State) : Host.Outcome State Fault Refusal :=
  let n := s.node
  s.go
    (match n.loader.read with
    | none => n
    | some r =>
      if due n.clock r.gap then
        Node.woken { n with loader := { n.loader with read := some { r with attempt := r.attempt + 1, gap := none } } }
      else n)

end Sys2Proof.Machine
end

