-- ==== Sys2Proof/Machine/Head.lean ====
section
/-! DEFINITION. The head's inputs and the steps of the Output Driver (sections 11.1 to 11.3): TAMPER_LINE_CHANGE
to OVERLAY_END, and SELF_CHECK_CHIRP_END. -/

namespace Sys2Proof.Machine

/-! ## The tamper line (R175) -/

/-- The debounced state of the tamper line changes. -/
def Node.tamperChanged (n : Node) : Node :=
  match n.power.phase with
  | .startUp => n
  | .dormant =>
    if n.out.offBase then { n with out := { n.out with overlay := some ⟨.tamper, later n.clock 2048⟩ } } else n
  | _ => n.deliver [if n.out.offBase then .raise .tamper none else .clear .tamper none]

/-- The tamper level has held 50 ms. -/
def Node.debounceTamper (n : Node) : Node :=
  let held := { n with out := { n.out with offBase := n.out.tamperLine, tamperDebounce := none } }
  if n.out.offBase == n.out.tamperLine then held else held.tamperChanged

/-! ## The test input (R176) -/

/-- The hold timing after a debounced press or release. -/
def holdAfter (pressed : Bool) (phase : Phase) (now : Stamp) : Hold :=
  if !pressed then .none else if phase == .startUp then .startUpPress else .since now false false

/-- The test level has held 50 ms. -/
def Node.debounceTest (n : Node) : Node :=
  { n with
    out := { n.out with
      testPressed := n.out.testLine
      testDebounce := none
      hold :=
        if n.out.testPressed == n.out.testLine then n.out.hold
        else holdAfter n.out.testLine n.power.phase n.clock } }

/-- A self-check's chirp sounds unless LOCAL ALARM, REMOTE ALARM or TEST is the playing pattern. -/
def Outputs.allowsChirp (o : Outputs) : Bool :=
  match o.sounder with
  | none => true
  | some pl => pl.pattern == .faultChirp

/-- A self-check: both indicators light for 1 s, and one chirp of 20 ms sounds. -/
def Node.selfCheck (n : Node) : Node :=
  { n with
    out := { n.out with
      overlay := some ⟨.selfCheck, later n.clock 1024⟩
      chirp := if n.out.allowsChirp then some (later n.clock (ticksOfMs 20)) else n.out.chirp } }

/-- The action at 2 s held (R176). A press that is judged at the very moment at which walk test ended, with the end
taken first, is a forced sample too, and reaches the unit when walk test is inactive, so that it is discarded (R83).
DESIGN CHOICE (log entry 33): "the same event" is one reading of the node clock. -/
def Node.heldTwo (n : Node) : Node :=
  if !n.active then n
  else if n.alarm.walkTest.isSome || n.alarm.testEnded == some n.clock then n.forcedSample
  else n.selfCheck

/-- The moment at which a press is held 2 s, while it has not acted there. -/
def Hold.twoAt : Hold → Option Stamp
  | .since start false _ => some (later start 2048)
  | _ => Option.none

/-- The moment at which a press is held 5 s, while it has not acted there. -/
def Hold.fiveAt : Hold → Option Stamp
  | .since start _ false => some (later start 5120)
  | _ => Option.none

/-- The press has acted at 2 s. -/
def Hold.actedTwo : Hold → Hold
  | .since start _ b => .since start true b
  | h => h

/-- The press has acted at 5 s. -/
def Hold.actedFive : Hold → Hold
  | .since start a _ => .since start a true
  | h => h

/-! ## The commands -/

/-- TAMPER_LINE_CHANGE (R175): a wake source (Table 10-1). -/
def execTamperLineChange (offBase : Bool) (s : State) : Host.Outcome State Fault Refusal :=
  let n := s.node
  s.go
    (if n.out.tamperLine == offBase then n
    else
      Node.woken
        { n with
          out := { n.out with
            tamperLine := offBase
            tamperDebounce := debounceFrom offBase n.out.offBase n.clock } })

/-- TAMPER_DEBOUNCE_END (R175). -/
def execTamperDebounceEnd (s : State) : Host.Outcome State Fault Refusal :=
  let n := s.node
  s.go (if due n.clock n.out.tamperDebounce then n.debounceTamper.settleWoken else n)

/-- TEST_INPUT_CHANGE (R176): an input's event, and so a wake source (R169, log entry 17). -/
def execTestInputChange (pressed : Bool) (s : State) : Host.Outcome State Fault Refusal :=
  let n := s.node
  s.go
    (if n.out.testLine == pressed then n
    else
      Node.woken
        { n with
          out := { n.out with
            testLine := pressed
            testDebounce := debounceFrom pressed n.out.testPressed n.clock } })

/-- TEST_DEBOUNCE_END (R176). -/
def execTestDebounceEnd (s : State) : Host.Outcome State Fault Refusal :=
  let n := s.node
  s.go (if due n.clock n.out.testDebounce then n.debounceTest.woken else n)

/-- TEST_HOLD_2S (R176). -/
def execTestHold2s (s : State) : Host.Outcome State Fault Refusal :=
  let n := s.node
  s.go
    (if due n.clock n.out.hold.twoAt then
      (Node.heldTwo { n with out := { n.out with hold := n.out.hold.actedTwo } }).settleWoken
    else n)

/-- TEST_HOLD_5S (R176): in DORMANT an exit request is sent (R168). -/
def execTestHold5s (s : State) : Host.Outcome State Fault Refusal :=
  let n := s.node
  s.go
    (if due n.clock n.out.hold.fiveAt then
      let m := { n with out := { n.out with hold := n.out.hold.actedFive } }
      if n.power.phase == .dormant then m.requestExit.settleWoken else m.woken
    else n)

/-- SOUNDER_STEP (R173). -/
def execSounderStep (s : State) : Host.Outcome State Fault Refusal :=
  let n := s.node
  s.go
    (match n.out.sounder with
    | none => n
    | some pl =>
      if due n.clock pl.ends then
        Node.settleWoken { n with out := { n.out with sounder := some (pl.next pl.pattern.steps n.clock) } }
      else n)

/-- INDICATOR_STEP (R174). -/
def execIndicatorStep (led : Led) (s : State) : Host.Outcome State Fault Refusal :=
  let n := s.node
  s.go
    (match led with
    | .red =>
      if due n.clock n.out.red.ends then
        Node.woken { n with out := { n.out with red := n.out.red.next n.out.red.pattern.steps n.clock } }
      else n
    | .amber =>
      if due n.clock n.out.amber.ends then
        Node.woken { n with out := { n.out with amber := n.out.amber.next n.out.amber.pattern.steps n.clock } }
      else n)

/-- OVERLAY_END (R174): the amber pattern shown resumes from its beginning. -/
def execOverlayEnd (s : State) : Host.Outcome State Fault Refusal :=
  let n := s.node
  s.go
    (match n.out.overlay with
    | none => n
    | some v =>
      if reached n.clock v.ends then
        let p := n.out.amber.pattern
        Node.woken { n with out := { n.out with overlay := none, amber := startPattern p.steps n.clock p } }
      else n)

/-- SELF_CHECK_CHIRP_END (R176). -/
def execSelfCheckChirpEnd (s : State) : Host.Outcome State Fault Refusal :=
  let n := s.node
  s.go (if due n.clock n.out.chirp then Node.settle { n with out := { n.out with chirp := none } } else n)

end Sys2Proof.Machine
end

