-- ==== Sys2Proof/Machine/Holds.lean ====
section
/-! DEFINITION. The Power Controller's own commands (sections 10.2 to 10.4): CHANNEL_CHECK to
OSCILLATOR_START. -/

namespace Sys2Proof.Machine

/-- The check interval (R163, R171). -/
def Battery.checkInterval : Battery → Nat
  | .critical => 1024
  | _ => 256

/-- A check is made now: in PATROL, at a multiple of the check interval, while the receiver is off (R163). -/
def Node.checkDue (n : Node) : Bool :=
  n.power.phase == .patrol && n.clock.toNat % n.power.battery.checkInterval == 0 && n.rx.state == .off

/-- CHANNEL_CHECK (R163): a listen of 2 ms; carrier already on the channel begins the hunt hold (R164). While the
engine is SENDING the listen stands and the receiver stays off, and hears nothing until the send completes (R164,
`Node.resumeListen`). -/
def execChannelCheck (s : State) : Host.Outcome State Fault Refusal :=
  let n := s.node
  s.go
    (if n.checkDue then
      let m := { n with power := { n.power with listen := some (later n.clock 2) } }
      (if n.rx.carrier && n.tx.engine != .sending then m.beginHunt else m).settleWoken
    else n)

/-- LISTEN_END (R163). -/
def execListenEnd (s : State) : Host.Outcome State Fault Refusal :=
  let n := s.node
  s.go (if due n.clock n.power.listen then Node.settle { n with power := { n.power with listen := none } } else n)

/-- HUNT_EXPIRY (R164). -/
def execHuntExpiry (s : State) : Host.Outcome State Fault Refusal :=
  let n := s.node
  s.go (if due n.clock n.power.hunt then Node.settleWoken { n with power := { n.power with hunt := none } } else n)

/-- LINGER_EXPIRY (R164). -/
def execLingerExpiry (s : State) : Host.Outcome State Fault Refusal :=
  let n := s.node
  s.go (if due n.clock n.power.linger then Node.settleWoken { n with power := { n.power with linger := none } } else n)

/-- RUN_HOLD_EXPIRY (R165). -/
def execRunHoldExpiry (s : State) : Host.Outcome State Fault Refusal :=
  let n := s.node
  s.go (if due n.clock n.power.runHold then Node.settleWoken { n with power := { n.power with runHold := none } } else n)

/-- OSCILLATOR_START (R162): the oscillator a claim started runs, and the work that waited for it begins, an answer
owed among it. A wake source's event claim is released then, and the oscillator stops again where no other claim
stands (log entry 17). -/
def execOscillatorStart (s : State) : Host.Outcome State Fault Refusal :=
  let n := s.node
  s.go
    (if n.power.oscillator == .starting then
      (Node.settleOscillator { n with power := { n.power with oscillator := .running } }).settleSerial
    else n)

end Sys2Proof.Machine
end

