-- ==== Sys2Proof/Machine/Transmit.lean ====
section
/-! DEFINITION. The contention engine (sections 6.2 and 6.3): boundaries, windows, sending and backoff; with the
commands HOLDOFF_END to SEND_COMPLETE and SYNTHESISER_LOCK. -/

namespace Sys2Proof.Machine

/-! ## Windows (R112 to R116) -/

/-- Some entry is WAITING. -/
def Transmitter.anyWaiting (t : Transmitter) : Bool := t.queue.any (fun e => e.state == .waiting)

/-- The engine returns to IDLE, releases its claim and stops the synthesiser (R113, R119). -/
def Transmitter.rest (t : Transmitter) : Transmitter := { t with engine := .idle, synth := .stopped }

/-- A window begins for the entry at an index, its slot 0 at `edge` µs after the node's own boundary; the node's
own bursts remove the grid (R113 to R115). -/
def Transmitter.enterWindow (t : Transmitter) (i : Nat) (e : TxEntry) (edge : Int) (heard : Option Int) :
    Transmitter :=
  { t with
    queue := setAt t.queue i { e with state := .contending }
    engine := .window
    contention := some ⟨contentionCode e.frame.cls e.frame.hdr.sender, edge, heard, false, none⟩
    grid := none }

/-- The synthesiser is unlocked at a boundary with a candidate: radio fault and BACKOFF (R119). -/
def Node.faultRadio (n : Node) : Node :=
  Node.deliver
    { n with
      tx := { n.tx with
        radioFault := true, engine := .backoff, synth := .stopped, backoff := some (later n.clock 1024) } }
    [.raise .radio none]

/-- The boundary of a waiting engine: the candidate contends if the synthesiser is locked (R112, R113, R119). -/
def Node.boundary (n : Node) (edge : Int) (heard : Option Int) : Node :=
  match candidateIndex n.tx.queue with
  | none => { n with tx := n.tx.rest }
  | some i =>
    match n.tx.queue[i]? with
    | none => { n with tx := n.tx.rest }
    | some e =>
      if n.tx.synth == .locked then { n with tx := n.tx.enterWindow i e edge heard } else n.faultRadio

/-- The bursts and listening of a contention code: slot 0 is a burst, slot k of 1 to 11 carries bit 11−k (R114).
A slot after the window is no listening slot. -/
def listens (code : Nat) (slot : Nat) : Bool := 1 ≤ slot && slot ≤ 11 && !code.testBit (11 - slot)

/-- The slot in which a moment falls, counted from the slot-0 edge (R115). -/
def Contention.slotOf (c : Contention) (us : Int) : Nat := ((us - c.edge) / 250).toNat

/-- A carrier onset at `us` is an edge of a listening slot: in that slot, or within the 40 µs before its start
(R114, R115). The result is the slot. DESIGN CHOICE (log entry 39): an onset in the last 40 µs of a listening slot that
another listening slot follows is an edge of the slot it falls in, and re-aligns nothing. -/
def Contention.edgeSlot (c : Contention) (us : Int) : Option Nat :=
  let k := c.slotOf us
  if listens c.code k then some k
  else if 210 ≤ us - c.edge - 250 * k && listens c.code (k + 1) then some (k + 1)
  else none

/-- Carrier that stood from one moment to another was heard in some listening slot (R114). -/
def Contention.heardBetween (c : Contention) (start stop : Int) : Bool :=
  (List.range 12).any (fun k =>
    decide (c.slotOf start ≤ k) && decide (k ≤ c.slotOf stop) && listens c.code k)

/-- The slot timing after an edge within 40 µs of the start of its listening slot (R115). -/
def Contention.realign (c : Contention) (us : Int) (k : Nat) : Contention :=
  if us - c.edge - 250 * k ≤ 40 then { c with edge := us - 250 * k } else c

/-- The contention is lost: the entry waits again, the loss is counted and the engine defers to the winner
(R116). The receiver, LISTENING through the window, stays so (R124). -/
def Transmitter.lose (t : Transmitter) (c : Contention) : Transmitter :=
  { t with
    queue := t.queue.map (fun e => if e.state == .contending then { e with state := .waiting } else e)
    engine := .deferred
    contention := some { c with lost := true, heard := none }
    losses := countUp t.losses }

/-! ## Sending (R117, R118) -/

/-- The preamble chosen as sending begins (R95). -/
def preambleFor (c : FrameClass) (phase : Phase) : Preamble :=
  if c == .evidence && phase == .run then .short else .long

/-- The window is won: the entry is SENDING, and its frame goes on the air, preamble, sync pattern, header, body and
CRC (R94, R114, R117). -/
def Node.win (n : Node) : Node :=
  match indexOf (fun e => e.state == .contending) n.tx.queue with
  | none => n
  | some i =>
    match n.tx.queue[i]? with
    | none => n
    | some e =>
      { n with
        tx := { n.tx with
          queue := setAt n.tx.queue i { e with state := .sending }
          engine := .sending
          contention := none
          grid := none
          onAir := some ⟨preambleFor e.frame.cls n.power.phase, syncPattern, e.frame.wire⟩ } }

/-- The completed entry is handed on by its kind (R118): an own relayable frame to the echo watch, a relay's
report to the seen list. -/
def Node.handOn (n : Node) (e : TxEntry) : Node :=
  if e.own then
    if e.frame.cls.relayable then
      { n with relay := n.relay.complete n.clock e.frame (e.attempt.getD 1) }
    else n
  else { n with relay := n.relay.report e.frame.hdr.origin e.frame.hdr.seq .sent }

/-- A send completes (R118): the entry leaves the queue, the radio fault clears, and the engine goes to GAP or
IDLE. -/
def Node.completeSend (n : Node) : Node :=
  match indexOf (fun e => e.state == .sending) n.tx.queue with
  | none => n
  | some i =>
    match n.tx.queue[i]? with
    | none => n
    | some e =>
      let sent := { n.tx with queue := removeAt n.tx.queue i, onAir := none, radioFault := false }
      let next := if sent.anyWaiting then { sent with engine := .gap } else sent.rest
      Node.deliver (Node.handOn { n with tx := next } e)
        (if n.tx.radioFault then [.clear .radio none] else [])

/-- The receiver is on again after a send (R117): a listen that a channel check began meanwhile finds the carrier that
stands on the channel, and the hunt hold begins (R163, R164). -/
def Node.resumeListen (n : Node) : Node :=
  if n.power.listen.isSome && n.rx.carrier then n.beginHunt else n

/-! ## The quiet gap (R113) -/

/-- Two quiet milliseconds have been heard: the receiver is on, the oscillator runs, no carrier stands, and the
engine either has no grid yet or is in GAP. -/
def Node.hearsQuiet (n : Node) : Bool :=
  n.rx.state != .off && n.power.oscillator == .running && !n.rx.carrier &&
    (n.tx.grid.isNone || n.tx.engine == .gap) && n.tx.engine != .window && n.tx.engine != .sending

/-- The engine comes to a boundary: from GAP or WAIT (R113), or from a DEFERRED that a lost window left, whose winner
fell silent (DESIGN CHOICE, log entry 42). -/
def Engine.comesToBoundary (e : Engine) : Bool := e == .gap || e == .wait || e == .deferred

/-- The 2 ms of silence that a loser counts end within the 3 ms of the lost window (R113, R114). -/
def Contention.gapInWindow (c : Contention) : Bool := c.quietFrom.any (fun q => decide (q + 2000 < c.edge + 3000))

/-- A loser that stays DEFERRED through a quiet gap, because the winner's window still runs (R116). DESIGN CHOICE (log
entry 42): the gap forms the grid all the same (R113), and where no frame follows the window the loser is taken on by
the next boundary of that grid. -/
def Transmitter.heldByWindow (t : Transmitter) : Bool :=
  t.engine == .deferred && t.grid.isNone && t.contention.any Contention.gapInWindow

/-- A boundary of the grid, for an engine that waits for one; a contention lost before it is over. -/
def Node.atBoundary (n : Node) : Node :=
  Node.boundary { n with tx := { n.tx with grid := some n.clock, contention := none } } 0 none

/-- The quiet gap forms the grid, and that moment is a boundary (R113): for an engine in WAIT too, whose grid was lost
when the receiver was switched off and on again (R165). -/
def Node.quietGap (n : Node) : Node :=
  if n.tx.engine.comesToBoundary && !n.tx.heldByWindow then n.atBoundary
  else { n with tx := { n.tx with grid := some n.clock } }

/-! ## The commands -/

/-- HOLDOFF_END (R107): the oldest HOLDOFF entry whose stamp is reached becomes WAITING, and the engine leaves
IDLE for it (R113). -/
def execHoldoffEnd (s : State) : Host.Outcome State Fault Refusal :=
  let n := s.node
  let ends := fun e : TxEntry => e.state == .holdoff && reached n.clock e.earliest
  s.go
    (if n.tx.queue.any ends then
      let t := { n.tx with queue := updateFirst ends (fun e => { e with state := .waiting }) n.tx.queue }
      Node.settleWoken { n with tx := t.leaveIdle }
    else n)

/-- QUIET_GAP (R113). -/
def execQuietGap (s : State) : Host.Outcome State Fault Refusal :=
  s.go (if s.node.hearsQuiet then s.node.quietGap.settle else s.node)

/-- WINDOW_BOUNDARY (R113): a boundary of the grid; an engine in WAIT chooses its candidate, as does a loser whose winner
fell silent (log entry 42). -/
def execWindowBoundary (s : State) : Host.Outcome State Fault Refusal :=
  let n := s.node
  s.go
    (if n.tx.grid.isSome && n.power.oscillator == .running then
      if n.tx.engine == .wait || n.tx.engine == .deferred then n.atBoundary.settle
      else { n with tx := { n.tx with grid := some n.clock } }
    else n)

/-- BACKOFF_END (R119). -/
def execBackoffEnd (s : State) : Host.Outcome State Fault Refusal :=
  let n := s.node
  s.go
    (if n.tx.engine == .backoff && due n.clock n.tx.backoff then
      let t := { n.tx with backoff := none }
      Node.settleWoken
        { n with tx := if t.anyWaiting then { t with engine := .gap, synth := .starting } else t.rest }
    else n)

/-- WINDOW_WON (R114): the end of slot 11 with no carrier heard in a listening slot. Carrier that has stood
through a listening slot until now loses the contention instead. -/
def execWindowWon (s : State) : Host.Outcome State Fault Refusal :=
  let n := s.node
  s.go
    (match n.tx.engine, n.tx.contention with
    | .window, some c =>
      if c.heard.any (fun h => c.heardBetween h (c.edge + 2999)) then
        Node.settle { n with tx := n.tx.lose c }
      else n.win.settle
    | _, _ => n)

/-- SEND_COMPLETE (R118). -/
def execSendComplete (s : State) : Host.Outcome State Fault Refusal :=
  s.go (if s.node.tx.engine == .sending then s.node.completeSend.resumeListen.settle else s.node)

/-- SYNTHESISER_LOCK (R119): a synthesiser the engine has started reaches lock, or fails to hold it. -/
def execSynthesiserLock (locked : Bool) (s : State) : Host.Outcome State Fault Refusal :=
  let n := s.node
  s.go
    (if n.tx.synth == .stopped then n
    else { n with tx := { n.tx with synth := if locked then .locked else .starting } })

end Sys2Proof.Machine
end

