-- ==== Sys2Proof/Machine/Receive.lean ====
section
/-! DEFINITION. The Frame Receiver and the dispatcher (chapter 7); with the commands CARRIER_ONSET to FRAME_END
and SEEN_LIST_CHECK to USE_DELIVERY. -/

namespace Sys2Proof.Machine

/-! ## Receive slots and overruns (R129, R130) -/

/-- The slot at an index. -/
def Receiver.slot (r : Receiver) (i : Nat) : Option Slot := (r.slots[i]?).join

/-- The slot at an index is READY. -/
def Receiver.ready (r : Receiver) (i : Nat) : Bool := (r.slot i).any (fun x => !x.inService)

/-- The class rank of the frame in a slot; 0 for a FREE slot. -/
def Receiver.rankAt (r : Receiver) (i : Nat) : Nat := (r.slot i).elim 0 (fun x => x.frame.cls.rank)

/-- A frame is written into a slot as the newest in arrival order (R129). -/
def Receiver.fill (r : Receiver) (i : Nat) (x : Slot) : Receiver :=
  { r with slots := setAt r.slots i (some x), order := r.order.filter (· != i) ++ [i] }

/-- A frame is lost to an overrun: it is counted, and its header captured with the stamp of the event
(R130). -/
def Receiver.overrun (r : Receiver) (now : Stamp) (lost : Frame) : Receiver :=
  { r with overruns := countUp r.overruns, capture := some ⟨lost.headerBytes, now⟩ }

/-- The slot an arriving ALARM displaces (R130): READY, below ALARM, of lowest rank and the newest of those. -/
def Receiver.displaceable (r : Receiver) : Option Nat :=
  let below := r.order.filter (fun i => r.ready i && decide (r.rankAt i < FrameClass.alarm.rank))
  match below with
  | [] => none
  | i :: rest =>
    let low := rest.foldl (fun m j => min m (r.rankAt j)) (r.rankAt i)
    (below.filter (fun j => r.rankAt j == low)).getLast?

/-- An accepted frame takes the lowest FREE slot, or causes an overrun (R129, R130). -/
def Receiver.accept (r : Receiver) (now : Stamp) (x : Slot) : Receiver :=
  match indexOf Option.isNone r.slots with
  | some i => r.fill i x
  | none =>
    match if x.frame.cls == .alarm then r.displaceable else none with
    | none => r.overrun now x.frame
    | some i =>
      match r.slot i with
      | none => r.overrun now x.frame
      | some old => (r.overrun now old.frame).fill i x

/-! ## The dispatcher (R131, R132) -/

/-- The slot to serve: READY, of highest rank, the oldest of those (R131). -/
def Receiver.choose (r : Receiver) : Option Nat :=
  let ready := r.order.filter r.ready
  let top := ready.foldl (fun m i => max m (r.rankAt i)) 0
  ready.find? (fun i => r.rankAt i == top)

/-- A service ends: its slot is FREE and the dispatcher idle (R131). -/
def Receiver.release (r : Receiver) (i : Nat) : Receiver :=
  { r with slots := setAt r.slots i none, order := r.order.filter (· != i), service := none }

/-- Services begin. A one-hop frame is taken as FIRST at once; without USE its service ends there and the next
begins (R131, R132). The first argument bounds how many services can end so. -/
def Receiver.beginService : Nat → Receiver → Receiver
  | 0, r => r
  | k + 1, r =>
    match r.choose with
    | none => r
    | some i =>
      match r.slot i with
      | none => r
      | some x =>
        let taken := { r with slots := setAt r.slots i (some { x with inService := true }) }
        if x.frame.cls.relayable then { taken with service := some ⟨i, .seenCheck⟩ }
        else if x.use then { taken with service := some ⟨i, .useDelivery⟩ }
        else beginService k (taken.release i)

/-- An idle dispatcher begins a service where a slot is READY (R131). -/
def Receiver.dispatch (r : Receiver) : Receiver := if r.service.isSome then r else r.beginService 4

/-- The service in hand ends, and the next begins in the same event (R131). -/
def Receiver.endService (r : Receiver) (i : Nat) : Receiver := (r.release i).dispatch

/-- The slot and frame in service, while the dispatcher stands at a step. -/
def Receiver.serving (r : Receiver) (step : ServiceStep) : Option (Nat × Slot) :=
  match r.service with
  | none => none
  | some sv => if sv.step == step then (r.slot sv.slot).map (fun x => (sv.slot, x)) else none

/-- The dispatcher goes on to another step. -/
def Receiver.goTo (r : Receiver) (i : Nat) (step : ServiceStep) : Receiver :=
  { r with service := some ⟨i, step⟩ }

/-! ## Use deliveries (R133) -/

/-- The panel's record of a NOTICE delivered for use (R183). -/
def Node.noticeRecord (n : Node) (h : Header) (kind : NoticeKind) (set : Bool) (subject : Option Byte) :
    EventRecord where
  kind := .notice
  origin := h.origin
  zone := h.zone
  code := kind.code
  sense := set
  subject := subject
  q := 0
  hx := 0
  lv := 0
  stamp := n.clock
  lost := false

/-- A delivered ALARM or CONTROL holds RUN for 300 s (R133, R165). -/
def Node.reportUse (n : Node) (c : FrameClass) : Node :=
  if c == .alarm || c == .control then
    { n with power := { n.power with runHold := some (later n.clock 307200) } }
  else n

/-- The consumer takes the frame (R133). -/
def Node.consume (n : Node) (f : Frame) : Node :=
  match f.body with
  | .alarm cause lv q hx => n.remoteAlarm f.hdr cause lv q hx
  | .control cmd zone => n.control cmd zone f.hdr.origin f.hdr.zone
  | .notice kind set subject => n.record (n.noticeRecord f.hdr kind set subject)
  | .evidence .. => n
  | .beacon .. => n

/-! ## The judgement of a frame (R126 to R128) -/

/-- A frame is bad: it is counted and reported to link health (R125, R126). -/
def Node.badFrame (n : Node) : Node :=
  Node.deliver { n with rx := { n.rx with badFrames := countUp n.rx.badFrames } } [.frame false]

/-- A frame passed its CRC: in PATROL the linger begins again (R126, R164). -/
def Node.linger (n : Node) : Node :=
  if n.power.phase == .patrol then { n with power := { n.power with linger := some (later n.clock 1024) } }
  else n

/-- The filters decide a good frame, and an accepted one is placed and served (R127 to R131). -/
def Node.filterFrame (n : Node) (f : Frame) : Node :=
  match decideFilter f.key n.cfg.filters with
  | none => n
  | some (relay, use) => { n with rx := (n.rx.accept n.clock ⟨f, relay, use, n.clock, false⟩).dispatch }

/-- A good frame: link health, the Link Observer, then the filters (R126, R127). DESIGN CHOICE (log entry 15): the
good-frame report, with any LINK_STRAINED clear that follows from it, is carried through before the Link Observer's
own requests. -/
def Node.goodFrame (n : Node) (level : Nat) (f : Frame) : Node :=
  ((n.deliver [.frame true]).observe level f).filterFrame f

/-- The frame in assembly has ended complete: the buffer empties, the frame hold ends, and the receiver hunts on
while carrier stands (R126, R164). -/
def Node.endAssembly (n : Node) : Node :=
  { n with
    rx := { n.rx with assembly := none, state := if n.rx.carrier then .syncHunt else .listening }
    power := { n.power with frameHold := false } }

/-- A frame is judged in the event of its end (R126). -/
def Node.judgeEnd (n : Node) (level : Nat) (bytes : List Byte) : Node :=
  match judgeFrame n.cfg.networkId bytes with
  | .bad => n.badFrame
  | .malformed => n.linger.badFrame
  | .foreign => { n.linger with rx := { n.rx with foreign := countUp n.rx.foreign } }
  | .good f => n.linger.goodFrame level f

/-! ## Carrier (R113, R115, R116, R124, R164) -/

/-- In LISTENING the onset moves the receiver to SYNC_HUNT (R124). -/
def Node.hearOnset (n : Node) : Node :=
  if n.rx.state == .listening then { n with rx := { n.rx with state := .syncHunt } } else n

/-- An engine that comes to a boundary takes an onset: carrier within the 40 µs before the boundary is another
contender's slot-0 burst, and the window begins at it; any other carrier defers the engine (R113, R115). In GAP the
boundary is the end of the quiet gap, and a loser held by its window comes to none (R116). An oscillator that has not
started counts no gap and no boundary (R162). DESIGN CHOICE (log entry 41): the onset is taken as the boundary for R119
too, so an unlocked synthesiser makes the radio fault and BACKOFF at it. -/
def Node.onsetBeforeBoundary (n : Node) (us : Int) : Node :=
  if n.power.oscillator == .running && -40 ≤ us && us < 0 && (candidateIndex n.tx.queue).isSome &&
      !n.tx.heldByWindow then
    let w := (Node.boundary { n with tx := { n.tx with grid := none, contention := none } } us (some us)).beginHunt
    if w.tx.engine == .window then w else w.hearOnset
  else (Node.beginHunt { n with tx := { n.tx with engine := .deferred, grid := none } }).hearOnset

/-- The engine takes an onset in WINDOW: carrier in a listening slot loses the contention; in its own bursts'
slots the node learns nothing yet (R114 to R116). DESIGN CHOICE (log entry 19): carrier that began in an own burst is
no reported onset, and in PATROL it begins no hunt hold, then or when a later listening slot hears it. -/
def Node.onsetInWindow (n : Node) (c : Contention) (us : Int) : Node :=
  match c.edgeSlot us with
  | some k => Node.beginHunt { n with tx := n.tx.lose (c.realign us k) }
  | none => { n with tx := { n.tx with contention := some { c with heard := some us } } }

/-- A receiver that is on reports the onset (R124). -/
def Node.onset (n : Node) (us : Int) : Node :=
  match n.tx.engine, n.tx.contention with
  | .window, some c => n.onsetInWindow c us
  | e, _ =>
    if e.comesToBoundary then n.onsetBeforeBoundary us
    else (Node.beginHunt { n with tx := { n.tx with grid := none } }).hearOnset

/-- The receiver's side of the end of carrier (R124, R126): an incomplete frame is a bad frame. -/
def Node.carrierGone (n : Node) : Node :=
  match n.rx.state with
  | .syncHunt => { n with rx := { n.rx with state := .listening } }
  | .flushing =>
    { n with
      rx := { n.rx with state := .listening }
      power := { n.power with frameHold := false } }
  | .assembling => n.endAssembly.badFrame
  | _ => n

/-- The engine's side of the end of carrier (R113, R114, R116): carrier that stood in a listening slot loses the
contention; a DEFERRED engine goes to GAP, but a loser waits out its window for the winner's frame, and counts the
silence from here. -/
def Node.carrierGoneEngine (n : Node) (us : Int) : Node :=
  match n.tx.engine, n.tx.contention with
  | .window, some c =>
    if c.heard.any (fun h => c.heardBetween h us) then { n with tx := n.tx.lose { c with quietFrom := some us } }
    else { n with tx := { n.tx with contention := some { c with heard := none } } }
  | .deferred, some c =>
    if us - c.edge < 3000 then { n with tx := { n.tx with contention := some { c with quietFrom := some us } } }
    else { n with tx := { n.tx with engine := .gap, contention := none } }
  | .deferred, none => { n with tx := { n.tx with engine := .gap } }
  | _, _ => n

/-! ## The commands -/

/-- CARRIER_ONSET (R124). -/
def execCarrierOnset (us : Int) (s : State) : Host.Outcome State Fault Refusal :=
  let n := s.node
  s.go
    (if n.rx.carrier then n
    else
      let c := { n with rx := { n.rx with carrier := true } }
      if n.rx.state == .off then c else (c.onset us).settle)

/-- CARRIER_END (R124). -/
def execCarrierEnd (us : Int) (s : State) : Host.Outcome State Fault Refusal :=
  let n := s.node
  s.go
    (if n.rx.carrier then
      let c := { n with rx := { n.rx with carrier := false } }
      if n.rx.state == .off then c else (c.carrierGone.carrierGoneEngine us).settle
    else n)

/-- SYNC_FOUND (R125): assembly begins; in PATROL the hunt hold gives way to the frame hold (R164). The bits of a frame
are counted on the running oscillator (R160, R162). -/
def execSyncFound (level : BitVec 7) (s : State) : Host.Outcome State Fault Refusal :=
  let n := s.node
  s.go
    (if n.rx.state == .syncHunt && n.power.oscillator == .running then
      let held :=
        if n.power.phase == .patrol then { n.power with hunt := none, frameHold := true } else n.power
      Node.settle
        { n with rx := { n.rx with state := .assembling, assembly := some level.toNat }, power := held }
    else n)

/-- BAD_LENGTH (R125). -/
def execBadLength (len : Byte) (s : State) : Host.Outcome State Fault Refusal :=
  let n := s.node
  s.go
    (if n.rx.state == .assembling && decide (12 < len.toNat) then
      (Node.badFrame { n with rx := { n.rx with state := .flushing, assembly := none } }).settle
    else n)

/-- FRAME_END (R126). -/
def execFrameEnd (bytes : List Byte) (s : State) : Host.Outcome State Fault Refusal :=
  let n := s.node
  s.go
    (match n.rx.state, n.rx.assembly with
    | .assembling, some level => (n.endAssembly.judgeEnd level bytes).settle
    | _, _ => n)

/-- SEEN_LIST_CHECK (R132, R139): on FIRST the relay offer follows; else the service ends. -/
def execSeenListCheck (s : State) : Host.Outcome State Fault Refusal :=
  let n := s.node
  s.go
    (match n.rx.serving .seenCheck with
    | none => n
    | some (i, x) =>
      let r := n.takeCopy x.frame x.arrival
      let m := r.1
      (Node.settle
        { m with rx := if r.2 == .first then m.rx.goTo i .relayOffer else m.rx.endService i }))

/-- A use delivery waits for its consumer to take it (R131, R133). A NOTICE has none but on a PANEL_ATTACHED node: its
delivery is made and taken at once. -/
def Node.hasConsumer (n : Node) (f : Frame) : Bool := f.cls != .notice || n.onPanel

/-- RELAY_OFFER (R132, R140): with USE the delivery follows, in the same event where there is no consumer (R133); with
no delivery, or one taken, the service ends. -/
def execRelayOffer (s : State) : Host.Outcome State Fault Refusal :=
  let n := s.node
  s.go
    (match n.rx.serving .relayOffer with
    | none => n
    | some (i, x) =>
      let m := n.takeRelayOffer x.frame x.relay
      let waits := x.use && m.hasConsumer x.frame
      (Node.settle { m with rx := if waits then m.rx.goTo i .useDelivery else m.rx.endService i }))

/-- USE_DELIVERY (R133): the RUN hold is reported, the consumer takes the frame, and the service ends. -/
def execUseDelivery (s : State) : Host.Outcome State Fault Refusal :=
  let n := s.node
  s.go
    (match n.rx.serving .useDelivery with
    | none => n
    | some (i, x) =>
      let m := (n.reportUse x.frame.cls).consume x.frame
      (Node.settle { m with rx := m.rx.endService i }))

end Sys2Proof.Machine
end

