-- ==== Sys2Proof/Machine/Records.lean ====
section
/-! DEFINITION. The serial line (sections 11.6 and 11.7): the framing and judgement of records, the replies and
the event records, and the commands STATUS to EVENT_RECORD_SENT, SERIAL_BYTE and REJECTED_SERIAL_RECORD. -/

namespace Sys2Proof.Machine

/-! ## Framing (Table 11-3) and record types (Table 11-4) -/

/-- The sum byte of a record: type, length, payload and it sum to 0 mod 256. -/
def sumByte (type : Byte) (payload : List Byte) : Byte := -(type + byte payload.length + byteSum payload)

/-- A whole outbound record. -/
def frameRecord (type : Byte) (payload : List Byte) : List Byte :=
  [0x7E, type, byte payload.length] ++ payload ++ [sumByte type payload]

/-- The reject codes. -/
inductive RejectCode where
  | sum | type | length | field | state | busy | framing
  deriving DecidableEq, Repr

/-- Their values (Table 11-4). -/
def RejectCode.code : RejectCode → Byte
  | .sum => 1
  | .type => 2
  | .length => 3
  | .field => 4
  | .state => 5
  | .busy => 6
  | .framing => 7

/-- An ACCEPT answer. -/
def acceptAnswer (type : Byte) (action : AnswerAction) : Answer := ⟨frameRecord 0x81 [type], action⟩

/-- A DUPLICATE answer. -/
def duplicateAnswer (type : Byte) : Answer := ⟨frameRecord 0x82 [type], .none⟩

/-- A REJECT answer. -/
def rejectAnswer (type : Byte) (code : RejectCode) : Answer := ⟨frameRecord 0x83 [type, code.code], .none⟩

/-- An answer is owed, behind those owed already (R180). -/
def Node.answer (n : Node) (a : Answer) : Node :=
  { n with serial := { n.serial with answers := n.serial.answers ++ [a] } }

/-- The inbound records. -/
inductive SerialCommand where
  | status | peers | park | restart | wake
  | panel (c : Command)
  deriving DecidableEq, Repr

/-- The type byte of an inbound record (Table 11-4). -/
def SerialCommand.type : SerialCommand → Byte
  | .status => 0x01
  | .peers => 0x02
  | .park => 0x03
  | .restart => 0x04
  | .wake => 0x05
  | .panel .silence => 0x11
  | .panel .reset => 0x12
  | .panel .testOn => 0x13
  | .panel .testOff => 0x14

/-- The inbound record a type byte names. -/
def SerialCommand.ofType (b : Byte) : Option SerialCommand :=
  match b.toNat with
  | 0x01 => some .status
  | 0x02 => some .peers
  | 0x03 => some .park
  | 0x04 => some .restart
  | 0x05 => some .wake
  | 0x11 => some (.panel .silence)
  | 0x12 => some (.panel .reset)
  | 0x13 => some (.panel .testOn)
  | 0x14 => some (.panel .testOff)
  | _ => none

/-- The line a record is taken on: the panel line or the commissioning line (Table 11-4). -/
def SerialCommand.takenOn (onPanel : Bool) : SerialCommand → Bool
  | .status => true
  | .peers => true
  | .park => !onPanel
  | .restart => !onPanel
  | .wake => !onPanel
  | .panel _ => onPanel

/-- The payload length of a record's type (Table 11-4). -/
def SerialCommand.payloadLength : SerialCommand → Nat
  | .panel _ => 1
  | _ => 0

/-! ## The replies (R181, R63) -/

/-- The configuration outcome's code (Table 11-5). -/
def outcomeCode : Option ReadCause → Byte
  | none => 0
  | some .absent => 1
  | some .check => 2
  | some .version => 3
  | some .field => 4

/-- The capture's header and stamp (Table 11-5, bytes 27 to 38). -/
def captureBytes : Option Capture → List Byte
  | none => 0 :: List.replicate 11 0
  | some c => 1 :: (c.header ++ bytes4 c.stamp)

/-- A notice item (Table 11-5). -/
def NoticeItem.bytes (i : NoticeItem) : List Byte := [i.kind.code, i.subject.getD 0]

/-- An origin list entry (Table 11-5). -/
def OriginEntry.bytes (o : OriginEntry) : List Byte :=
  [o.address, o.zone.zeroExtend 8, o.cause.code] ++ bytes4 o.stamp

/-- The seven statistics, in the order of R181. -/
def Node.statistics (n : Node) : List Nat :=
  [n.sensing.skipped, n.peers.untracked, n.tx.drops, n.tx.losses, n.rx.badFrames, n.rx.foreign, n.rx.overruns]

/-- Every statistic is cleared (R181). -/
def Node.clearStatistics (n : Node) : Node :=
  { n with
    sensing := { n.sensing with skipped := 0 }
    peers := { n.peers with untracked := 0 }
    tx := { n.tx with drops := 0, losses := 0 }
    rx := { n.rx with badFrames := 0, foreign := 0, overruns := 0 } }

/-- The payload of the STATUS reply (Table 11-5). DESIGN CHOICE (log entry 34): the items of the active notice set
stand in the order they were added, since R84 and R181 give none. -/
def Node.statusPayload (n : Node) : List Byte :=
  [ n.power.phase.code.zeroExtend 8,
    (n.loader.image.map (fun i => i.role.code.zeroExtend 8)).getD 255,
    n.alarm.state.code.zeroExtend 8,
    flagByte n.alarm.walkTest.isSome,
    n.link.state.code.zeroExtend 8 ]
    ++ bytes2 n.link.efc
    ++ [byte n.link.rfc, n.power.battery.code.zeroExtend 8]
    ++ bytes4 n.clock
    ++ [byte n.evidence.q, byte n.evidence.hx, byte n.evidence.lv]
    ++ bytes2 (baseline n.evidence.accI)
    ++ bytes2 (baseline n.evidence.accB)
    ++ n.statistics.map byte
    ++ captureBytes n.rx.capture
    ++ [outcomeCode n.loader.cause, byte n.loader.clamps.length]
    ++ n.loader.clamps.map byte
    ++ [byte n.alarm.notices.length]
    ++ n.alarm.notices.flatMap NoticeItem.bytes
    ++ [byte n.alarm.origins.length]
    ++ n.alarm.origins.flatMap OriginEntry.bytes

/-- The state code of a peer entry (Table 11-6). -/
def PeerState.code : PeerState → Byte
  | .fresh => 0
  | .stale => 1
  | .lost => 2

/-- The Pv of an entry and its age in whole seconds (Table 11-6). -/
def pvBytes (now : Stamp) : Option PeerEvidence → List Byte
  | none => [255, 255, 255]
  | some v => v.value :: bytes2 (elapsed now v.stamp / 1024)

/-- One entry of the PEERS reply (Table 11-6). -/
def Peer.bytes (p : Peer) (now : Stamp) (index : Nat) : List Byte :=
  [ byte index, p.state.code, p.address,
    (p.zone.map (fun z => z.zeroExtend 8)).getD 255,
    (p.role.map (fun r => r.code.zeroExtend 8)).getD 255,
    byte p.level, byte p.missed, flagByte p.twoWay,
    (p.alarm.map (fun a => a.code.zeroExtend 8)).getD 255 ]
    ++ pvBytes now p.pv

/-- The bytes of the non-FREE entries, from index `i` on. -/
def entryBytes (now : Stamp) (i : Nat) : List (Option Peer) → List Byte
  | [] => []
  | none :: rest => entryBytes now (i + 1) rest
  | some p :: rest => p.bytes now i ++ entryBytes now (i + 1) rest

/-- The payload of the PEERS reply (Table 11-6). -/
def Node.peersPayload (n : Node) : List Byte :=
  byte (n.peers.entries.filter Option.isSome).length :: entryBytes n.clock 0 n.peers.entries

/-! ## Event records (Table 11-7) -/

/-- The kind's code. -/
def EventKind.code : EventKind → Byte
  | .alarm => 1
  | .testAlarm => 2
  | .notice => 3
  | .controlApplied => 4
  | .ownNotice => 5
  | .ownEvent => 6

/-- The payload of an EVENT record. -/
def EventRecord.payload (r : EventRecord) : List Byte :=
  [r.kind.code, r.origin, r.zone.zeroExtend 8, r.code, flagByte r.sense, r.subject.getD 0, r.q, r.hx, r.lv]
    ++ bytes4 r.stamp ++ [flagByte r.lost]

/-- The record the line transmitter is sending (R180, R183). -/
def Serial.sending (s : Serial) : Option (List Byte) :=
  match s.tx with
  | .idle => none
  | .answer => s.answers.head?.map (fun a => a.bytes)
  | .event => s.panel.head?.map (fun r => frameRecord 0x90 r.payload)

/-! ## The records' effects (R181, R182, R184) -/

/-- STATUS is taken (R181). -/
def Node.takeStatus (n : Node) : Node :=
  n.clearStatistics.answer ⟨frameRecord 0x84 n.statusPayload, .none⟩

/-- PEERS is taken (R63, R181). -/
def Node.takePeers (n : Node) : Node := n.answer ⟨frameRecord 0x85 n.peersPayload, .none⟩

/-- PARK is taken (R182). -/
def Node.takePark (n : Node) : Node :=
  n.answer (if n.active then acceptAnswer 0x03 .park else rejectAnswer 0x03 .state)

/-- RESTART is taken (R182). -/
def Node.takeRestart (n : Node) : Node := n.answer (acceptAnswer 0x04 .restart)

/-- WAKE is taken (R182). -/
def Node.takeWake (n : Node) : Node :=
  if n.active then n.answer (rejectAnswer 0x05 .state)
  else if n.loader.read.isSome then n.answer (rejectAnswer 0x05 .busy)
  else n.requestExit.answer (acceptAnswer 0x05 .none)

/-- A panel command is taken (R184). DESIGN CHOICE (log entry 15): the command is applied before its CONTROL frame is
originated, so the clear of PRE_ALARM that a RESET makes takes the first sequence and queue place. -/
def Node.takePanelCommand (n : Node) (c : Command) (target : Byte) : Node :=
  let type := (SerialCommand.panel c).type
  match zoneOfByte target with
  | none => n.answer (rejectAnswer type .field)
  | some z =>
    if n.tx.queuedControl c z then n.answer (duplicateAnswer type)
    else
      ((n.answer (acceptAnswer type .none)).control c z n.cfg.address n.cfg.zone).originate false (.control c z)

/-- A record that has passed the tests of sum, type and length is taken as its type's rule lays down. -/
def Node.takeSerial (n : Node) (c : SerialCommand) (payload : List Byte) : Node :=
  match c with
  | .status => n.takeStatus
  | .peers => n.takePeers
  | .park => n.takePark
  | .restart => n.takeRestart
  | .wake => n.takeWake
  | .panel cmd => n.takePanelCommand cmd (payload.headD 0)

/-- A complete record is judged in the event its sum byte arrives (R180). -/
def Node.judgeSerial (n : Node) (type : Byte) (payload : List Byte) (sum : Byte) : Node :=
  if n.power.phase == .startUp then n.answer (rejectAnswer type .state)
  else if !n.serial.answers.isEmpty then n.answer (rejectAnswer type .busy)
  else if sum != sumByte type payload then n.answer (rejectAnswer type .sum)
  else
    match SerialCommand.ofType type with
    | none => n.answer (rejectAnswer type .type)
    | some c =>
      if !c.takenOn n.onPanel then n.answer (rejectAnswer type .type)
      else if payload.length != c.payloadLength then n.answer (rejectAnswer type .length)
      else n.takeSerial c payload

/-- The receiver goes back to hunting (R180). -/
def Serial.hunt (s : Serial) : Serial := { s with rx := none, timeout := none }

/-- A record is complete: the receiver hunts again, and the record is judged. -/
def Node.completeRecord (n : Node) (type : Byte) (payload : List Byte) (sum : Byte) : Node :=
  (Node.judgeSerial { n with serial := n.serial.hunt } type payload sum).settle

/-- The complete, sound record of a command arrives. -/
def Node.arrive (n : Node) (c : SerialCommand) (payload : List Byte) : Node :=
  n.completeRecord c.type payload (sumByte c.type payload)

/-- The bytes after the start byte make a whole record: type, length, payload, sum. -/
def wholeRecord (bs : List Byte) : Bool := 3 ≤ bs.length && bs.length == 3 + (bs.getD 1 0).toNat

/-- The record timeout, restarted (R180). -/
def Serial.await (s : Serial) (bs : List Byte) (now : Stamp) : Serial :=
  { s with rx := some bs, timeout := some (later now (ticksOfMs 20)) }

/-- A byte arrives (R180). While the receiver hunts, its start bit is a wake source (Table 10-1). -/
def Node.takeByte (n : Node) (b : Byte) : Node :=
  match n.serial.rx with
  | none =>
    if b == 0x7E then Node.settleWoken { n with serial := n.serial.await [] n.clock } else n.woken
  | some bs =>
    let all := bs ++ [b]
    if wholeRecord all then
      n.completeRecord (all.getD 0 0) ((all.drop 2).dropLast) (all.getLastD 0)
    else { n with serial := n.serial.await all n.clock }

/-- The type that a REJECT FRAMING answers: the record's, or a free value where its type byte never came (log
entry 4). -/
def framingType (n : Node) : List Byte → Byte
  | [] => Config.typeOfUntypedRecord n.untypedRejects
  | t :: _ => t

/-- A record whose bytes stop is abandoned and answered REJECT FRAMING (R180). -/
def Node.abandonRecord (n : Node) (bs : List Byte) : Node :=
  Node.answer
    { n with
      serial := n.serial.hunt
      untypedRejects := if bs.isEmpty then n.untypedRejects + 1 else n.untypedRejects }
    (rejectAnswer (framingType n bs) .framing)

/-- What the end of an answer sets off (R182). -/
def Node.afterAnswer (n : Node) : AnswerAction → Node
  | .none => n
  | .park => n.park
  | .restart => n.restart

/-! ## The commands -/

/-- STATUS (R181). -/
def execStatus (s : State) : Host.Outcome State Fault Refusal := s.go (s.node.arrive .status [])

/-- PEERS (R63). -/
def execPeers (s : State) : Host.Outcome State Fault Refusal := s.go (s.node.arrive .peers [])

/-- PARK (R182). -/
def execPark (s : State) : Host.Outcome State Fault Refusal := s.go (s.node.arrive .park [])

/-- RESTART (R182). -/
def execRestart (s : State) : Host.Outcome State Fault Refusal := s.go (s.node.arrive .restart [])

/-- WAKE (R182). -/
def execWake (s : State) : Host.Outcome State Fault Refusal := s.go (s.node.arrive .wake [])

/-- SILENCE (R184). -/
def execSilence (zone : Byte) (s : State) : Host.Outcome State Fault Refusal :=
  s.go (s.node.arrive (.panel .silence) [zone])

/-- RESET (R184). -/
def execReset (zone : Byte) (s : State) : Host.Outcome State Fault Refusal :=
  s.go (s.node.arrive (.panel .reset) [zone])

/-- TEST_ON (R184). -/
def execTestOn (zone : Byte) (s : State) : Host.Outcome State Fault Refusal :=
  s.go (s.node.arrive (.panel .testOn) [zone])

/-- TEST_OFF (R184). -/
def execTestOff (zone : Byte) (s : State) : Host.Outcome State Fault Refusal :=
  s.go (s.node.arrive (.panel .testOff) [zone])

/-- SERIAL_RECORD_TIMEOUT (R180). -/
def execSerialRecordTimeout (s : State) : Host.Outcome State Fault Refusal :=
  let n := s.node
  s.go
    (match n.serial.rx with
    | none => n
    | some bs => if due n.clock n.serial.timeout then (n.abandonRecord bs).settleWoken else n)

/-- ANSWER_SENT (R180): the answer leaves, what it set off is taken, and the next answer or event record
begins. -/
def execAnswerSent (s : State) : Host.Outcome State Fault Refusal :=
  let n := s.node
  s.go
    (match n.serial.tx, n.serial.answers with
    | .answer, a :: rest =>
      (Node.afterAnswer { n with serial := { n.serial with answers := rest, tx := .idle } } a.action).settle
    | _, _ => n)

/-- EVENT_RECORD_SENT (R183): the record leaves the panel queue, and the next answer or record begins. -/
def execEventRecordSent (s : State) : Host.Outcome State Fault Refusal :=
  let n := s.node
  s.go
    (if n.serial.tx == .event then
      Node.settle { n with serial := { n.serial with panel := n.serial.panel.drop 1, tx := .idle } }
    else n)

/-- SERIAL_BYTE (R180). -/
def execSerialByte (b : Byte) (s : State) : Host.Outcome State Fault Refusal := s.go (s.node.takeByte b)

/-- REJECTED_SERIAL_RECORD (R180): the record is judged; one that passes every test is taken. -/
def execRejectedSerialRecord (type : Byte) (payload : List Byte) (sum : Byte) (s : State) :
    Host.Outcome State Fault Refusal :=
  s.go (s.node.completeRecord type payload sum)

end Sys2Proof.Machine
end

