-- ==== Sys2Proof/Machine/Sensing.lean ====
section
/-! DEFINITION. The sensing path (chapter 1): the count stage, the sample cycle, the converter, the Sample Store
with its two movers, and the hand-over to the Evidence Unit; with the commands PRESCALER_UNDERFLOW to
EVIDENCE_PUBLICATION. -/

namespace Sys2Proof.Machine

/-! ## Buffers (R15) -/

/-- A buffer by index; `false` is buffer 0. -/
def Sensing.buf (s : Sensing) (i : Bool) : Buffer := if i then s.buffer1 else s.buffer0

/-- A buffer replaced. -/
def Sensing.setBuf (s : Sensing) (i : Bool) (b : Buffer) : Sensing :=
  if i then { s with buffer1 := b } else { s with buffer0 := b }

/-- A buffer's state changed; its record stays (R14). -/
def Sensing.markBuf (s : Sensing) (i : Bool) (st : BufferState) : Sensing :=
  s.setBuf i { s.buf i with state := st }

/-- The buffer chosen for a new cycle, and whether its record is discarded (R15): a FREE buffer, buffer 0
first; else the COMPLETE one. -/
def Sensing.chooseBuffer (s : Sensing) : Bool × Bool :=
  if s.buffer0.state == .free then (false, false)
  else if s.buffer1.state == .free then (true, false)
  else if s.buffer0.state == .complete then (false, true)
  else (true, true)

/-! ## Cycles -/

/-- The cycle includes the battery conversion: count mod 64 is 0, on a DETECTOR or REPEATER (R11, R20). -/
def batteryCycle (role : Role) (count : BitVec 16) : Bool :=
  role != .panelAttached && count.toNat % 64 == 0

/-- A cycle starts (R8, R15), or, on a REPEATER whose count is not a multiple of 64, only the counter advances
(R20). On a REPEATER the divider goes on with the rail. -/
def Sensing.startCycle (s : Sensing) (role : Role) : Sensing :=
  let c := s.cycleCounter
  let s' := { s with cycleCounter := c + 1, pendingRequest := false, stage := .idle }
  if role == .repeater && !batteryCycle role c then s'
  else
    let choice := s.chooseBuffer
    { (s'.markBuf choice.1 .filling) with
      stage := .settle
      cycle := c
      buffer := choice.1
      rail := true
      divider := role == .repeater
      skipped := if choice.2 then countUp s.skipped else s.skipped }

/-- A sample request (R7). -/
def Sensing.request (s : Sensing) (role : Role) : Sensing :=
  if s.stage == .idle then s.startCycle role else { s with pendingRequest := true }

/-! ## The Sample Store's port (R14, R16, R17) -/

/-- The fields of a record, as the record mover copies them (Table 1-2): on a REPEATER the stamp and Vb
(R20). -/
def recordFields (role : Role) (r : SampleRecord) : List RecordField :=
  if role == .repeater then [.stamp, .battery]
  else
    [.stamp, .dark, .infrared, .blue, .heat] ++ (if r.battery.isSome then [.battery] else []) ++
      [.opticalValid, .heatValid]

/-- The idle record mover begins a COMPLETE buffer's copy (R16). -/
def Sensing.beginCopy (s : Sensing) (role : Role) : Sensing :=
  if s.mover.isSome then s
  else if s.buffer0.state == .complete then
    { (s.markBuf false .copying) with mover := some ⟨false, recordFields role s.buffer0.record⟩ }
  else if s.buffer1.state == .complete then
    { (s.markBuf true .copying) with mover := some ⟨true, recordFields role s.buffer1.record⟩ }
  else s

/-- A result written into its field of a record (R14). -/
def SampleRecord.write (r : SampleRecord) (c : Conversion) (v : Nat) : SampleRecord :=
  match c with
  | .dark => { r with dark := v }
  | .infrared => { r with infrared := v }
  | .blue => { r with blue := v }
  | .heat => { r with heat := v }
  | .battery => { r with battery := some v }

/-- The validity flags, from the record's own conversions (R12). -/
def SampleRecord.flagged (r : SampleRecord) : SampleRecord :=
  { r with
    opticalValid := decide (r.dark ≤ 999)
    heatValid := decide (9 ≤ r.heat ∧ r.heat ≤ 1014) }

/-- The conversion is the last of its cycle (Table 1-1, R20). -/
def lastConversion (role : Role) (cycle : BitVec 16) (c : Conversion) : Bool :=
  if batteryCycle role cycle then c == .battery else c == .heat

/-- The record of a cycle that ends: its flags set, and Vb absent where the cycle took none (R12, Table 1-2). -/
def SampleRecord.finished (r : SampleRecord) (withBattery : Bool) : SampleRecord :=
  { r.flagged with battery := if withBattery then r.battery else none }

/-- The cycle ends: rail and divider off, the buffer COMPLETE, its copy begun if the record mover is idle,
and the next cycle from the pending-request flag, or IDLE (R13, R7, R16). -/
def Sensing.endCycle (s : Sensing) (role : Role) : Sensing :=
  let r := (s.buf s.buffer).record.finished (batteryCycle role s.cycle)
  let s' := { (s.setBuf s.buffer ⟨.complete, r⟩) with rail := false, divider := false, stage := .idle }
  let s'' := s'.beginCopy role
  if s.pendingRequest then s''.startCycle role else s''

/-- The conversion mover's writes, granted the free port: a waiting stamp first, then the result in the output
holding (R14, R17). The cycle ends with the write of its last conversion (R13). -/
def Sensing.grantWrites (s : Sensing) (role : Role) : Sensing :=
  let s1 :=
    match s.stampWaiting with
    | none => s
    | some t =>
      { (s.setBuf s.buffer { s.buf s.buffer with record := { (s.buf s.buffer).record with stamp := t } }) with
        stampWaiting := none }
  match s1.holding with
  | none => s1
  | some (c, v) =>
    let s2 :=
      { (s1.setBuf s1.buffer { s1.buf s1.buffer with record := (s1.buf s1.buffer).record.write c v }) with
        holding := none }
    if lastConversion role s2.cycle c then s2.endCycle role else s2

/-- The writes go through at once while the record mover does not hold the port; else they wait for the end of
the field it moves (R17). -/
def Sensing.requestPort (s : Sensing) (role : Role) : Sensing :=
  if s.mover.isSome then s else s.grantWrites role

/-! ## The stages of a cycle (Table 1-1) -/

/-- The converter and its output holding are empty, and no pulse is in progress: the next conversion's time
can have come (R9, R11). -/
def Sensing.quiet (s : Sensing) : Bool :=
  s.converting.isNone && s.holding.isNone && !s.irEmitter && !s.blueEmitter && !s.oneShot

/-- The next fixed time of the cycle (R9, R10, R20). An event that is not due changes nothing (log entry 2). The
divider's time is the end of the blue pulse, and EMITTER_OFF switches it on there (`Sensing.emittersOff`); a
STAGE_START given for that moment finds the conversion Lb in progress and changes nothing (log entry 32). -/
def Sensing.nextStage (s : Sensing) (role : Role) (now : Stamp) : Sensing :=
  match s.stage with
  | .settle =>
    if role == .repeater then
      Sensing.requestPort { s with stage := .battery, stampWaiting := some now, converting := some .battery } role
    else
      Sensing.requestPort { s with stage := .dark, stampWaiting := some now, converting := some .dark } role
  | .dark => if s.quiet then { s with stage := .infrared, irEmitter := true, oneShot := true } else s
  | .infrared => if s.quiet then { s with stage := .blue, blueEmitter := true, oneShot := true } else s
  | .blue => if s.quiet then { s with stage := .heat, converting := some .heat } else s
  | .heat =>
    if batteryCycle role s.cycle && s.quiet then { s with stage := .battery, converting := some .battery } else s
  | .battery => s
  | .idle => s

/-- The one-shot fires and starts the pulse's conversion (R10). -/
def Sensing.fireOneShot (s : Sensing) : Sensing :=
  if s.oneShot then
    { s with oneShot := false, converting := some (if s.stage == .infrared then .infrared else .blue) }
  else s

/-- The pulse reaches 200 µs: the emitter goes off (R10); at the end of the blue pulse of a battery cycle the
battery divider goes on (R9, Table 1-1). -/
def Sensing.emittersOff (s : Sensing) (role : Role) : Sensing :=
  if s.oneShot then s
  else
    { s with
      irEmitter := false
      blueEmitter := false
      divider := s.divider || (s.blueEmitter && batteryCycle role s.cycle) }

/-- The converter delivers a result, limited to 0..1023, into its output holding, and the conversion mover
requests the port (R11, R14). -/
def Sensing.deliverResult (s : Sensing) (role : Role) (input : Int) : Sensing :=
  match s.converting with
  | none => s
  | some c =>
    if s.holding.isSome then s
    else Sensing.requestPort { s with converting := none, holding := some (c, limitNat 1023 input) } role

/-! ## The battery (R170) -/

/-- The class after a conversion Vb, and the notice requests in the table's order (R170). -/
def batteryAfter (b : Battery) (vb : Nat) : Battery × List Task :=
  match b with
  | .normal =>
    if vb < 682 then (.critical, [.raise .batteryLow none, .raise .batteryCritical none])
    else if vb < 739 then (.low, [.raise .batteryLow none])
    else (.normal, [])
  | .low =>
    if vb < 682 then (.critical, [.raise .batteryCritical none])
    else if 759 ≤ vb then (.normal, [.clear .batteryLow none])
    else (.low, [])
  | .critical =>
    if 759 ≤ vb then (.normal, [.clear .batteryCritical none, .clear .batteryLow none])
    else if 702 ≤ vb then (.low, [.clear .batteryCritical none])
    else (.critical, [])
  | .external => (.external, [])

/-- Vb handed to the Power Controller (R16, R170). -/
def Node.takeVb (n : Node) (vb : Option Nat) : Node :=
  match vb with
  | none => n
  | some v =>
    let r := batteryAfter n.power.battery v
    Node.deliver { n with power := { n.power with battery := r.1 } } r.2

/-! ## The record mover and the Evidence Unit's input -/

/-- The IDLE Evidence Unit takes a HELD record (R18, R22). -/
def Node.takeRecord (n : Node) : Node :=
  match n.evidence.inHand, n.sensing.input with
  | none, some r =>
    { n with
      evidence := { n.evidence with inHand := some r }
      sensing := { n.sensing with input := none } }
  | _, _ => n

/-- A copied record reaches the Evidence Unit's input; one that waits there is replaced and counted (R16). On a
REPEATER the input is not written (R20). -/
def Sensing.placeInput (s : Sensing) (role : Role) (r : SampleRecord) : Sensing :=
  if role == .repeater then s
  else
    { s with
      input := some r
      skipped := if s.input.isSome then countUp s.skipped else s.skipped }

/-- The record mover finishes a field (R16, R17): the port goes to a waiting write first; with the last field
the copy ends. -/
def Node.copyField (n : Node) : Node :=
  match n.sensing.mover with
  | none => n
  | some m =>
    let role := n.cfg.role
    match m.left with
    | _ :: f :: rest =>
      { n with sensing := Sensing.grantWrites { n.sensing with mover := some ⟨m.buffer, f :: rest⟩ } role }
    | _ =>
      let r := (n.sensing.buf m.buffer).record
      let freed := { (n.sensing.markBuf m.buffer .free) with mover := none }
      let placed := ((freed.placeInput role r).grantWrites role).beginCopy role
      (Node.takeVb { n with sensing := placed } r.battery).takeRecord

/-- The Evidence Unit completes its record: publication, the notice requests, and the result, which the Alarm
Decision unit takes and judges in the same event; then the next record is taken (R23, R24, R65). -/
def Node.publish (n : Node) : Node :=
  match n.evidence.inHand with
  | none => n
  | some r =>
    let before := n.evidence
    let after := { (evidenceAfter n.cfg (n.alarm.state == .quiet) before r) with inHand := none }
    let published := Node.deliver { n with evidence := after } (evidenceTasks before after)
    (published.takeResult (evidenceResult before after r)).takeRecord

/-! ## The count stage (R2, R3) -/

/-- A sample request reaches the sequencer. -/
def Node.request (n : Node) : Node := { n with sensing := n.sensing.request n.cfg.role }

/-- The count stage underflows: it reloads, and raises one sample request (R3). -/
def Node.underflow (n : Node) : Node :=
  (Node.request { n with timer := { n.timer with count := n.timer.reload } }).settleWoken

/-- A prescaler underflow reaches the count stage (R2, R3, R4). -/
def Node.beat (n : Node) : Node :=
  if !n.timer.running then n
  else if n.timer.count ≤ 1 then n.underflow
  else { n with timer := { n.timer with count := n.timer.count - 1 } }

/-! ## The commands -/

/-- PRESCALER_UNDERFLOW (R2, R3): due while the node clock stands at a multiple of 128. -/
def execPrescalerUnderflow (s : State) : Host.Outcome State Fault Refusal :=
  s.go (if s.node.clock.toNat % 128 = 0 then s.node.beat else s.node)

/-- COUNT_STAGE_UNDERFLOW (R3): the underflow that brings the running count to 0. -/
def execCountStageUnderflow (s : State) : Host.Outcome State Fault Refusal :=
  s.go (if s.node.timer.running && decide (s.node.timer.count ≤ 1) then s.node.underflow else s.node)

/-- STAGE_START (R9): the stage times are counted on the running oscillator (R162). -/
def execStageStart (s : State) : Host.Outcome State Fault Refusal :=
  s.go
    (if s.node.power.oscillator == .running then
      { s.node with sensing := s.node.sensing.nextStage s.node.cfg.role s.node.clock }
    else s.node)

/-- ONE_SHOT_FIRE (R10). -/
def execOneShotFire (s : State) : Host.Outcome State Fault Refusal :=
  s.go { s.node with sensing := s.node.sensing.fireOneShot }

/-- EMITTER_OFF (R10). -/
def execEmitterOff (s : State) : Host.Outcome State Fault Refusal :=
  s.go { s.node with sensing := s.node.sensing.emittersOff s.node.cfg.role }

/-- CONVERSION_DONE (R11). -/
def execConversionDone (input : Int) (s : State) : Host.Outcome State Fault Refusal :=
  s.go { s.node with sensing := s.node.sensing.deliverResult s.node.cfg.role input }

/-- RECORD_FIELD_COPY (R16). -/
def execRecordFieldCopy (s : State) : Host.Outcome State Fault Refusal := s.go s.node.copyField.settle

/-- EVIDENCE_PUBLICATION (R23). -/
def execEvidencePublication (s : State) : Host.Outcome State Fault Refusal := s.go s.node.publish.settle

end Sys2Proof.Machine
end

