-- ==== Sys2Proof/Machine/Dispatch.lean ====
section
/-! DEFINITION. The dispatch of every command to its meaning, in the table's order. -/

namespace Sys2Proof.Machine

def exec (i : Instr) (s : State) : Host.Outcome State Fault Refusal :=
  match i with
  | .powerOnReset => Sys2Proof.Machine.execPowerOnReset s
  | .configAttempt read noise => Sys2Proof.Machine.execConfigAttempt read noise s
  | .configRetryGap => Sys2Proof.Machine.execConfigRetryGap s
  | .prescalerUnderflow => Sys2Proof.Machine.execPrescalerUnderflow s
  | .countStageUnderflow => Sys2Proof.Machine.execCountStageUnderflow s
  | .stageStart => Sys2Proof.Machine.execStageStart s
  | .oneShotFire => Sys2Proof.Machine.execOneShotFire s
  | .emitterOff => Sys2Proof.Machine.execEmitterOff s
  | .conversionDone input => Sys2Proof.Machine.execConversionDone input s
  | .recordFieldCopy => Sys2Proof.Machine.execRecordFieldCopy s
  | .evidencePublication => Sys2Proof.Machine.execEvidencePublication s
  | .confirmingLimit => Sys2Proof.Machine.execConfirmingLimit s
  | .walkTestExpiry => Sys2Proof.Machine.execWalkTestExpiry s
  | .testSoundSpanEnd => Sys2Proof.Machine.execTestSoundSpanEnd s
  | .amberEventSpanEnd => Sys2Proof.Machine.execAmberEventSpanEnd s
  | .supervisionPeriodEnd => Sys2Proof.Machine.execSupervisionPeriodEnd s
  | .halfPeriodMark => Sys2Proof.Machine.execHalfPeriodMark s
  | .beaconDue => Sys2Proof.Machine.execBeaconDue s
  | .holdoffEnd => Sys2Proof.Machine.execHoldoffEnd s
  | .quietGap => Sys2Proof.Machine.execQuietGap s
  | .windowBoundary => Sys2Proof.Machine.execWindowBoundary s
  | .backoffEnd => Sys2Proof.Machine.execBackoffEnd s
  | .windowWon => Sys2Proof.Machine.execWindowWon s
  | .sendComplete => Sys2Proof.Machine.execSendComplete s
  | .carrierOnset us => Sys2Proof.Machine.execCarrierOnset us s
  | .carrierEnd us => Sys2Proof.Machine.execCarrierEnd us s
  | .syncFound level => Sys2Proof.Machine.execSyncFound level s
  | .badLength len => Sys2Proof.Machine.execBadLength len s
  | .frameEnd bytes => Sys2Proof.Machine.execFrameEnd bytes s
  | .seenListCheck => Sys2Proof.Machine.execSeenListCheck s
  | .relayOffer => Sys2Proof.Machine.execRelayOffer s
  | .useDelivery => Sys2Proof.Machine.execUseDelivery s
  | .seenEntryExpiry => Sys2Proof.Machine.execSeenEntryExpiry s
  | .echoWindowExpiry => Sys2Proof.Machine.execEchoWindowExpiry s
  | .resendTime => Sys2Proof.Machine.execResendTime s
  | .channelCheck => Sys2Proof.Machine.execChannelCheck s
  | .listenEnd => Sys2Proof.Machine.execListenEnd s
  | .huntExpiry => Sys2Proof.Machine.execHuntExpiry s
  | .lingerExpiry => Sys2Proof.Machine.execLingerExpiry s
  | .runHoldExpiry => Sys2Proof.Machine.execRunHoldExpiry s
  | .oscillatorStart => Sys2Proof.Machine.execOscillatorStart s
  | .tamperLineChange offBase => Sys2Proof.Machine.execTamperLineChange offBase s
  | .tamperDebounceEnd => Sys2Proof.Machine.execTamperDebounceEnd s
  | .testInputChange pressed => Sys2Proof.Machine.execTestInputChange pressed s
  | .testDebounceEnd => Sys2Proof.Machine.execTestDebounceEnd s
  | .testHold2s => Sys2Proof.Machine.execTestHold2s s
  | .testHold5s => Sys2Proof.Machine.execTestHold5s s
  | .sounderStep => Sys2Proof.Machine.execSounderStep s
  | .indicatorStep led => Sys2Proof.Machine.execIndicatorStep led s
  | .overlayEnd => Sys2Proof.Machine.execOverlayEnd s
  | .status => Sys2Proof.Machine.execStatus s
  | .peers => Sys2Proof.Machine.execPeers s
  | .park => Sys2Proof.Machine.execPark s
  | .restart => Sys2Proof.Machine.execRestart s
  | .wake => Sys2Proof.Machine.execWake s
  | .silence zone => Sys2Proof.Machine.execSilence zone s
  | .reset zone => Sys2Proof.Machine.execReset zone s
  | .testOn zone => Sys2Proof.Machine.execTestOn zone s
  | .testOff zone => Sys2Proof.Machine.execTestOff zone s
  | .serialRecordTimeout => Sys2Proof.Machine.execSerialRecordTimeout s
  | .answerSent => Sys2Proof.Machine.execAnswerSent s
  | .eventRecordSent => Sys2Proof.Machine.execEventRecordSent s
  | .synthesiserLock locked => Sys2Proof.Machine.execSynthesiserLock locked s
  | .serialByte b => Sys2Proof.Machine.execSerialByte b s
  | .rejectedSerialRecord type payload sum => Sys2Proof.Machine.execRejectedSerialRecord type payload sum s
  | .selfCheckChirpEnd => Sys2Proof.Machine.execSelfCheckChirpEnd s

end Sys2Proof.Machine
end

