-- ==== Sys2Proof/Machine/Tick.lean ====
section
/-! DEFINITION. Time (R1, R2, R160): the commands the part's own timers make due, and the slow clock's tick. The
table of commands has no row for the tick: it is what a step does when no command waits (log entry 6). -/

namespace Sys2Proof.Machine

/-- A command, where its time has come. -/
def dueIf (b : Bool) (c : Instr) : List Instr := if b then [c] else []

/-- The timers whose expiry the node clock has reached (R160), each as its command, in the table's order. -/
def Node.dueNow (n : Node) : List Instr :=
  let t := n.clock
  dueIf (n.loader.read.any (fun r => due t r.gap)) .configRetryGap
    ++ dueIf (due t n.alarm.limit) .confirmingLimit
    ++ dueIf (due t n.alarm.walkTest) .walkTestExpiry
    ++ dueIf (due t n.alarm.testSound) .testSoundSpanEnd
    ++ dueIf (due t n.alarm.eventSpanEnd) .amberEventSpanEnd
    ++ dueIf (due t n.peers.periodEnd) .supervisionPeriodEnd
    ++ dueIf (due t n.tx.halfMark) .halfPeriodMark
    ++ dueIf (due t n.tx.beaconDue || due t n.tx.halfDue) .beaconDue
    ++ dueIf (n.tx.queue.any (fun e => e.state == .holdoff && reached t e.earliest)) .holdoffEnd
    ++ dueIf (n.tx.engine == .backoff && due t n.tx.backoff) .backoffEnd
    ++ dueIf (n.relay.seen.any (fun e => reached t e.expiry)) .seenEntryExpiry
    ++ dueIf (n.relay.watch.any (fun e => due t e.windowEnd)) .echoWindowExpiry
    ++ dueIf (n.relay.watch.any (fun e => due t e.resendAt)) .resendTime
    ++ dueIf (due t n.power.listen) .listenEnd
    ++ dueIf (due t n.power.hunt) .huntExpiry
    ++ dueIf (due t n.power.linger) .lingerExpiry
    ++ dueIf (due t n.power.runHold) .runHoldExpiry
    ++ dueIf (due t n.out.tamperDebounce) .tamperDebounceEnd
    ++ dueIf (due t n.out.testDebounce) .testDebounceEnd
    ++ dueIf (due t n.out.hold.twoAt) .testHold2s
    ++ dueIf (due t n.out.hold.fiveAt) .testHold5s
    ++ dueIf (n.out.sounder.any (fun pl => due t pl.ends)) .sounderStep
    ++ dueIf (due t n.out.red.ends) (.indicatorStep .red)
    ++ dueIf (due t n.out.amber.ends) (.indicatorStep .amber)
    ++ dueIf (n.out.overlay.any (fun v => reached t v.ends)) .overlayEnd
    ++ dueIf (due t n.serial.timeout) .serialRecordTimeout
    ++ dueIf (due t n.out.chirp) .selfCheckChirpEnd

/-- The slow clock ticks (R1); an exit from RUN is no longer of this moment (R165), nor an end of walk test (R83). -/
def Node.ticked (n : Node) : Node :=
  { n with
    clock := n.clock + 1
    alarm := { n.alarm with testEnded := none }
    power := { n.power with leftRun := none } }

/-- What a tick itself makes due, beside the timers: the prescaler's underflow (R2) and the channel check
(R163). -/
def Node.tickEvents (n : Node) : List Instr :=
  dueIf (n.clock.toNat % 128 == 0) .prescalerUnderflow ++ dueIf n.checkDue .channelCheck

/-- With no command waiting: commands that are due join the queue; when none is, the clock ticks, and what the
tick makes due joins it. -/
def State.idle (s : State) : State :=
  match s.node.dueNow with
  | [] =>
    let n := s.node.ticked
    { s with node := n, pending := n.tickEvents ++ n.dueNow }
  | cs => { s with pending := cs }

end Sys2Proof.Machine
end

