-- ==== Sys2Proof/Safety.lean ====
section
/-! DEFINITION. The terms that claims about the machine use: what follows from a change of state, what a report
between blocks can touch, and the bounds the manual sets on the state. -/

namespace Sys2Proof.Machine

/-- `t` is `n` but for what follows from every change of state in its event: the interval wanted (R88), the power
state and its holds (R165, R166), the receiver's switch and the grid (R113, R164), an engine that defers to
carrier (R113), the patterns (R173, R174), the line transmitter (R180, R183), and the oscillator with its claims
(R162). -/
structure Node.FollowsFrom (n t : Node) : Prop where
  clock : t.clock = n.clock
  timerRunning : t.timer.running = n.timer.running
  sensing : t.sensing = n.sensing
  evidence : t.evidence = n.evidence
  peers : t.peers = n.peers
  alarmState : t.alarm.state = n.alarm.state
  alarmConfirmCount : t.alarm.confirmCount = n.alarm.confirmCount
  alarmHysteresis : t.alarm.hysteresis = n.alarm.hysteresis
  alarmLimit : t.alarm.limit = n.alarm.limit
  alarmOrigins : t.alarm.origins = n.alarm.origins
  alarmSilenced : t.alarm.silenced = n.alarm.silenced
  alarmRemote : t.alarm.remote = n.alarm.remote
  alarmWalkTest : t.alarm.walkTest = n.alarm.walkTest
  alarmTestEnded : t.alarm.testEnded = n.alarm.testEnded
  alarmTestSound : t.alarm.testSound = n.alarm.testSound
  alarmNotices : t.alarm.notices = n.alarm.notices
  alarmLastEvent : t.alarm.lastEvent = n.alarm.lastEvent
  txQueue : t.tx.queue = n.tx.queue
  txOneHop : t.tx.oneHop = n.tx.oneHop
  txContention : t.tx.contention = n.tx.contention
  txSynth : t.tx.synth = n.tx.synth
  txRadioFault : t.tx.radioFault = n.tx.radioFault
  txBackoff : t.tx.backoff = n.tx.backoff
  txOnAir : t.tx.onAir = n.tx.onAir
  txBeaconDue : t.tx.beaconDue = n.tx.beaconDue
  txHalfDue : t.tx.halfDue = n.tx.halfDue
  txHalfMark : t.tx.halfMark = n.tx.halfMark
  txRng : t.tx.rng = n.tx.rng
  txDrops : t.tx.drops = n.tx.drops
  txLosses : t.tx.losses = n.tx.losses
  rxCarrier : t.rx.carrier = n.rx.carrier
  rxSlots : t.rx.slots = n.rx.slots
  rxOrder : t.rx.order = n.rx.order
  rxService : t.rx.service = n.rx.service
  rxCapture : t.rx.capture = n.rx.capture
  rxBadFrames : t.rx.badFrames = n.rx.badFrames
  rxForeign : t.rx.foreign = n.rx.foreign
  rxOverruns : t.rx.overruns = n.rx.overruns
  relay : t.relay = n.relay
  link : t.link = n.link
  powerParked : t.power.parked = n.power.parked
  powerRunHold : t.power.runHold = n.power.runHold
  powerBattery : t.power.battery = n.power.battery
  outOverlay : t.out.overlay = n.out.overlay
  outTamperLine : t.out.tamperLine = n.out.tamperLine
  outOffBase : t.out.offBase = n.out.offBase
  outTamperDebounce : t.out.tamperDebounce = n.out.tamperDebounce
  outTestLine : t.out.testLine = n.out.testLine
  outTestPressed : t.out.testPressed = n.out.testPressed
  outTestDebounce : t.out.testDebounce = n.out.testDebounce
  outHold : t.out.hold = n.out.hold
  loader : t.loader = n.loader
  serialRx : t.serial.rx = n.serial.rx
  serialTimeout : t.serial.timeout = n.serial.timeout
  serialAnswers : t.serial.answers = n.serial.answers
  untypedRejects : t.untypedRejects = n.untypedRejects

/-- `t` is `n` but for what notice requests, event reports, frame offers, echo and frame reports can touch (R84,
R85, R107, R152, R153): the notice set, the queue and the engine's leaving of IDLE, the Relay Engine, the counts
of link health, and the panel record queue. -/
structure Node.ReportedFrom (n t : Node) : Prop where
  clock : t.clock = n.clock
  timer : t.timer = n.timer
  sensing : t.sensing = n.sensing
  evidence : t.evidence = n.evidence
  peers : t.peers = n.peers
  alarmState : t.alarm.state = n.alarm.state
  alarmConfirmCount : t.alarm.confirmCount = n.alarm.confirmCount
  alarmHysteresis : t.alarm.hysteresis = n.alarm.hysteresis
  alarmLimit : t.alarm.limit = n.alarm.limit
  alarmOrigins : t.alarm.origins = n.alarm.origins
  alarmSilenced : t.alarm.silenced = n.alarm.silenced
  alarmRemote : t.alarm.remote = n.alarm.remote
  alarmWalkTest : t.alarm.walkTest = n.alarm.walkTest
  alarmTestEnded : t.alarm.testEnded = n.alarm.testEnded
  alarmTestSound : t.alarm.testSound = n.alarm.testSound
  alarmWantFast : t.alarm.wantFast = n.alarm.wantFast
  txContention : t.tx.contention = n.tx.contention
  txGrid : t.tx.grid = n.tx.grid
  txRadioFault : t.tx.radioFault = n.tx.radioFault
  txBackoff : t.tx.backoff = n.tx.backoff
  txOnAir : t.tx.onAir = n.tx.onAir
  txBeaconDue : t.tx.beaconDue = n.tx.beaconDue
  txHalfDue : t.tx.halfDue = n.tx.halfDue
  txHalfMark : t.tx.halfMark = n.tx.halfMark
  txRng : t.tx.rng = n.tx.rng
  txLosses : t.tx.losses = n.tx.losses
  rx : t.rx = n.rx
  power : t.power = n.power
  out : t.out = n.out
  loader : t.loader = n.loader
  serialRx : t.serial.rx = n.serial.rx
  serialTimeout : t.serial.timeout = n.serial.timeout
  serialAnswers : t.serial.answers = n.serial.answers
  serialTx : t.serial.tx = n.serial.tx
  untypedRejects : t.untypedRejects = n.untypedRejects

/-- The transmit queue's active entries agree with the engine (R106, R113): one CONTENDING in WINDOW, one SENDING in
SENDING, and none otherwise. -/
def Transmitter.activeAgrees (t : Transmitter) : Prop :=
  (t.queue.countP (fun e => e.state == .contending)) = (if t.engine == .window then 1 else 0) ∧
    (t.queue.countP (fun e => e.state == .sending)) = (if t.engine == .sending then 1 else 0)

/-- The bounds of the lists and counts, and that a lost subject is listed once (R34, R45, R59, R75, R106, R129, R138,
R144, R152, R153, R183). -/
structure Node.Bounded (n : Node) : Prop where
  queue : n.tx.queue.length ≤ 8
  seen : n.relay.seen.length ≤ 24
  copies : ∀ e ∈ n.relay.seen, 1 ≤ e.copies ∧ e.copies ≤ 15
  watch : n.relay.watch.length ≤ 4
  origins : n.alarm.origins.length ≤ 8
  entries : n.peers.entries.length = 16
  lostSubjects : n.peers.lostSubjects.length ≤ 16
  lostOnce : n.peers.lostSubjects.Nodup
  slots : n.rx.slots.length = 4
  panel : n.serial.panel.length ≤ 32
  ring : n.evidence.ring.length ≤ 8
  efc : n.link.efc ≤ 511
  rfc : n.link.rfc ≤ 255

/-- Outside PATROL and RUN nothing is queued, sent or received (R107, R117, R161, R167); and a read is in progress
only there (R168, R178). -/
structure Node.Silent (n : Node) : Prop where
  queue : n.active = false → n.tx.queue = []
  engine : n.active = false → n.tx.engine = .idle
  onAir : n.active = false → n.tx.onAir = none
  receiver : n.active = false → n.rx.state = .off
  reading : n.loader.read.isSome = true → n.active = false

/-- The oscillator serves the work that needs it (R162): it runs in RUN and START-UP, and while it does not run no stage
of a cycle has begun, no frame is in assembly, no gap or boundary is counted, no contention or sending is under way and no
answer is being sent. A grid goes with a receiver that is on, and an answer being sent is one that is owed. -/
structure Node.OscillatorServes (n : Node) : Prop where
  awake : n.power.phase = .run ∨ n.power.phase = .startUp → n.power.oscillator = .running
  stage : n.power.oscillator ≠ .running → n.sensing.stage = .idle ∨ n.sensing.stage = .settle
  receiver : n.power.oscillator ≠ .running → n.rx.state ≠ .assembling ∧ n.rx.state ≠ .flushing
  engine : n.power.oscillator ≠ .running →
    n.tx.engine ≠ .wait ∧ n.tx.engine ≠ .window ∧ n.tx.engine ≠ .sending ∧ n.tx.grid = none
  answer : n.power.oscillator ≠ .running → n.serial.tx ≠ .answer
  grid : n.tx.grid.isSome = true → n.rx.state ≠ .off
  owed : n.serial.tx = .answer → n.serial.answers ≠ []

/-- PATROL, with no RUN cause standing (R165). -/
structure Node.Patrolling (n : Node) : Prop where
  phase : n.power.phase = .patrol
  role : n.onPanel = false
  alarmSide : n.alarmSideCause = false
  hold : n.power.runHold = none

/-- RUN, held by the role PANEL_ATTACHED (R165). -/
structure Node.RunByRole (n : Node) : Prop where
  phase : n.power.phase = .run
  role : n.onPanel = true

/-- The patterns follow their requests: the sounder plays the eligible pattern of highest priority (R173), and is
silent outside PATROL and RUN; the red indicator shows the alarm state (R90, R174); and the amber one the pattern of
the phase, the link state and the amber request (R85, R174). -/
structure Node.PatternsFollow (n : Node) : Prop where
  sounder : n.out.sounder.map (fun p => p.pattern) =
    if n.power.phase ≠ .patrol ∧ n.power.phase ≠ .run then none
    else if n.alarm.state = .alarm ∧ n.alarm.silenced = false then some .localAlarm
    else if n.alarm.remote = true ∧ n.alarm.silenced = false then some .remoteAlarm
    else if n.alarm.testSound.isSome = true then some .test
    else if (n.alarm.notices ≠ [] ∧ (n.power.battery = .low ∨ n.power.battery = .critical)) ∨
      256 ≤ n.link.efc then some .faultChirp
    else none
  red : n.out.red.pattern =
    match n.alarm.state with
    | .quiet => .off
    | .watch => .watchBlink
    | .confirming => .watchBlink
    | .alarm => .alarmFlash
  amber : n.out.amber.pattern =
    match n.power.phase with
    | .startUp => .dark
    | .dormant => if n.power.parked = true then .parked else .config
    | _ =>
      if 256 ≤ n.link.efc then .isolated
      else if n.alarm.notices ≠ [] ∨ n.alarm.lastEvent.isSome = true then .notice
      else .dark

/-- FAST is the interval wanted exactly while the alarm state is not QUIET, or walk test is active, or the origin list
holds an entry of the node's own zone with another address than its own (R88). -/
def Node.wantAgrees (n : Node) : Prop :=
  n.alarm.wantFast = true ↔
    (n.alarm.state ≠ .quiet ∨ n.alarm.walkTest.isSome = true ∨
      ∃ o ∈ n.alarm.origins, o.zone = n.cfg.zone ∧ o.address ≠ n.cfg.address)

/-- The seven statistics hold 0..255 (R18, R63, R122, R135). -/
def Node.statisticsHeld (n : Node) : Prop := ∀ v ∈ n.statistics, v ≤ 255

end Sys2Proof.Machine

namespace Sys2Proof

/-! The commands that can change a block's state, block by block. Every other command leaves it as it was. -/

/-- The commands that can change the sensing path: its own, the publication that takes the next record, the resets
and the read, and a STATUS that clears "skipped samples" (R18). -/
def Instr.changesSensing : Instr → Bool
  | .prescalerUnderflow => true
  | .countStageUnderflow => true
  | .stageStart => true
  | .oneShotFire => true
  | .emitterOff => true
  | .conversionDone _ => true
  | .recordFieldCopy => true
  | .evidencePublication => true
  | .powerOnReset => true
  | .configAttempt _ _ => true
  | .answerSent => true
  | .status => true
  | .serialByte _ => true
  | .rejectedSerialRecord _ _ _ => true
  | _ => false

/-- The commands that can change the Evidence Unit (R22, R23, R44). -/
def Instr.changesEvidence : Instr → Bool
  | .recordFieldCopy => true
  | .evidencePublication => true
  | .powerOnReset => true
  | .configAttempt _ _ => true
  | .answerSent => true
  | _ => false

/-- The commands that can change the Peer Table: a frame's end, a period's end, the resets and the start, and a
STATUS that clears "untracked" (R46, R57, R63, R64). -/
def Instr.changesPeers : Instr → Bool
  | .frameEnd _ => true
  | .supervisionPeriodEnd => true
  | .powerOnReset => true
  | .configAttempt _ _ => true
  | .answerSent => true
  | .status => true
  | .serialByte _ => true
  | .rejectedSerialRecord _ _ _ => true
  | _ => false

/-- The commands that can change the image, the clamp list, the cause or the read (R168, R178, R179, R182). -/
def Instr.changesLoader : Instr → Bool
  | .configAttempt _ _ => true
  | .configRetryGap => true
  | .powerOnReset => true
  | .answerSent => true
  | .testHold5s => true
  | .wake => true
  | .serialByte _ => true
  | .rejectedSerialRecord _ _ _ => true
  | _ => false

/-- The commands that can change the receive slots, their order or the dispatcher (R129 to R132, R136). -/
def Instr.changesSlots : Instr → Bool
  | .frameEnd _ => true
  | .seenListCheck => true
  | .relayOffer => true
  | .useDelivery => true
  | .powerOnReset => true
  | .answerSent => true
  | _ => false

/-- The commands that can change the alarm state, the origin list, or the silenced or remote-alarm flag (R65, R70 to
R72, R76 to R83, R93). -/
def Instr.changesAlarm : Instr → Bool
  | .evidencePublication => true
  | .confirmingLimit => true
  | .frameEnd _ => true
  | .useDelivery => true
  | .testHold2s => true
  | .silence _ => true
  | .reset _ => true
  | .serialByte _ => true
  | .rejectedSerialRecord _ _ _ => true
  | .powerOnReset => true
  | .answerSent => true
  | _ => false

/-- The commands that can change an input line or its debounced state (R175 to R177). -/
def Instr.changesLines : Instr → Bool
  | .tamperLineChange _ => true
  | .tamperDebounceEnd => true
  | .testInputChange _ => true
  | .testDebounceEnd => true
  | .powerOnReset => true
  | _ => false

/-- The commands that change the carrier on the channel (R124). -/
def Instr.changesCarrier : Instr → Bool
  | .carrierOnset _ => true
  | .carrierEnd _ => true
  | _ => false

/-- The commands that can change the battery class (R170). -/
def Instr.changesBattery : Instr → Bool
  | .recordFieldCopy => true
  | .configAttempt _ _ => true
  | .powerOnReset => true
  | .answerSent => true
  | _ => false

/-- The commands that can change the random generator (R120, R121, R141). -/
def Instr.changesGenerator : Instr → Bool
  | .configAttempt _ _ => true
  | .supervisionPeriodEnd => true
  | .halfPeriodMark => true
  | .relayOffer => true
  | .powerOnReset => true
  | _ => false

/-- The commands that can change the answers owed (R180, R181, R182, R184). -/
def Instr.changesAnswers : Instr → Bool
  | .status => true
  | .peers => true
  | .park => true
  | .restart => true
  | .wake => true
  | .silence _ => true
  | .reset _ => true
  | .testOn _ => true
  | .testOff _ => true
  | .serialByte _ => true
  | .rejectedSerialRecord _ _ _ => true
  | .serialRecordTimeout => true
  | .answerSent => true
  | .powerOnReset => true
  | _ => false

end Sys2Proof
end

