-- ==== Sys2Proof/Certificates/Slice0/Obligations.lean ====
section
/-! DEFINITION. The statements about the machine, in the order of OBLIGATIONS.json. -/

open Sys2Proof Sys2Proof.Machine

/-- A step runs the command at the front of the queue on the queue's rest. -/
def Obligations.StepRunsFrontCommand : Prop :=
  ∀ (s : State) (c : Instr) (rest : List Instr),
    s.pending = c :: rest → step s = exec c { s with pending := rest }

/-- Every command ends in a next state and leaves the waiting commands and the node clock. -/
def Obligations.CommandsKeepTheQueueAndTheClock : Prop :=
  ∀ (c : Instr) (s : State), ∃ t, exec c s = .next t ∧ t.pending = s.pending ∧
    t.node.clock = if c = .powerOnReset then 0 else s.node.clock

/-- The prescaler underflows at each multiple of 128, and only a running count stage acts on it. That time
passes on an empty queue is the model's choice (log entry 6), and so is that PRESCALER_UNDERFLOW carries the
underflow of the count stage through (log entry 11). -/
def Obligations.TickFeedsPrescaler : Prop :=
  (∀ s : State, s.pending = [] → s.node.dueNow = [] →
      ∃ t, step s = .next t ∧
          t.node = { s.node with
            clock := s.node.clock + 1
            alarm := { s.node.alarm with testEnded := none }
            power := { s.node.power with leftRun := none } } ∧
        (Instr.prescalerUnderflow ∈ t.pending ↔ t.node.clock.toNat % 128 = 0)) ∧
    ∀ s : State, s.node.clock.toNat % 128 = 0 →
      (s.node.timer.running = false → exec .prescalerUnderflow s = .next s) ∧
      (s.node.timer.running = true → 2 ≤ s.node.timer.count →
        exec .prescalerUnderflow s =
          .next { s with node := { s.node with
            timer := { s.node.timer with count := s.node.timer.count - 1 } } }) ∧
      (s.node.timer.running = true → s.node.timer.count ≤ 1 → s.node.wantsFast = s.node.alarm.wantFast →
        ∃ t, exec .prescalerUnderflow s = .next t ∧ t.node.timer.count = s.node.timer.reload)

/-- What a power-on reset leaves, with every invariant that a statement keeps. The generator's value before its
first seed (log entry 1), and that no image is in force before the first read ends (log entry 37), are the
model's choice. -/
def Obligations.ResetLeavesStartUp : Prop :=
  let n := State.reset.node
  State.reset.pending = [] ∧ n.clock = 0 ∧ n.timer.running = false ∧ n.sensing.stage = .idle ∧
    n.sensing.rail = false ∧ n.sensing.irEmitter = false ∧ n.sensing.blueEmitter = false ∧
    n.sensing.divider = false ∧ n.sensing.buffer0.state = .free ∧ n.sensing.buffer1.state = .free ∧
    n.evidence.seedPending = true ∧ n.evidence.settling = 8 ∧ n.peers.entries = List.replicate 16 none ∧
    n.alarm.state = .quiet ∧ n.alarm.notices = [] ∧ n.alarm.origins = [] ∧ n.tx.queue = [] ∧
    n.tx.engine = .idle ∧ n.rx.state = .off ∧ n.rx.slots = [none, none, none, none] ∧ n.relay.seen = [] ∧
    n.relay.watch = [] ∧ n.link.efc = 0 ∧ n.link.rfc = 0 ∧ n.power.phase = .startUp ∧
    n.power.oscillator = .running ∧ n.power.battery = .normal ∧ n.loader.image = none ∧
    n.loader.read = some ⟨1, none, false⟩ ∧
    n.power.alarmCause = (n.alarm.state != .quiet || n.alarm.walkTest.isSome) ∧ n.wantAgrees ∧ n.tx.rng ≠ 0 ∧
    n.Bounded ∧ n.tx.activeAgrees ∧ n.Silent ∧ n.PatternsFollow ∧ n.OscillatorServes

/-- POWER_ON_RESET puts every block at its power-on values. The values that the manual does not give (generator
1, origin sequence counter 0, reload 64, blank record fields: log entry 1; no image, no clamps, no cause:
log entry 37) are the model's choice, and the counter kept is the model's own (log entry 4). -/
def Obligations.PowerOnResetGivesPowerOnValues : Prop :=
  ∀ s : State,
    exec .powerOnReset s =
      .next { s with node := { Node.powerOn with
        rx := { Receiver.powerOn with carrier := s.node.rx.carrier }
        out := { Outputs.powerOn with
          tamperLine := s.node.out.tamperLine
          tamperDebounce := if s.node.out.tamperLine then some 51 else none
          testLine := s.node.out.testLine
          testDebounce := if s.node.out.testLine then some 51 else none }
        untypedRejects := s.node.untypedRejects } }

/-- A CONFIG_ATTEMPT that reads an acceptable image starts the node. The order of the two draws is the model's
reading (log entry 14). -/
def Obligations.AcceptedImageStartsNode : Prop :=
  ∀ (s : State) (r : Reading) (bs : List Byte) (noise : Byte) (img : Image) (clamps : List Nat),
    s.node.loader.read = some r → r.gap = none → s.node.power.oscillator = .running → judgeImage bs = .ok (img, clamps) →
    s.node.alarm = AlarmUnit.atReset → s.node.power.runHold = none → s.node.out.offBase = false →
    ∃ t, exec (.configAttempt (some bs) noise) s = .next t ∧ t.pending = s.pending ∧
      t.node.clock = s.node.clock ∧
      t.node.loader = ⟨some img, clamps, none, none⟩ ∧
      t.node.timer = ⟨true, 1, 64⟩ ∧
      t.node.peers = { s.node.peers with periodEnd := some (later s.node.clock img.period) } ∧
      t.node.tx.rng = rngDraw (rngDraw (img.address ++ noise)) ∧
      t.node.relay = { s.node.relay with originSeq := (rngDraw (img.address ++ noise)).setWidth 8 } ∧
      t.node.tx.beaconDue =
        some (later s.node.clock ((rngDraw (rngDraw (img.address ++ noise))).toNat % 2048)) ∧
      t.node.tx.halfMark = some (later s.node.clock (img.period / 2)) ∧
      t.node.tx.queue = s.node.tx.queue ∧ t.node.alarm = s.node.alarm ∧ t.node.link = s.node.link ∧
      (img.role = .panelAttached → t.node.power.phase = .run ∧ t.node.power.battery = .external ∧
        t.node.power.linger = none) ∧
      (img.role ≠ .panelAttached → t.node.power.phase = .patrol ∧ t.node.power.battery = .normal ∧
        t.node.power.linger = some (later s.node.clock 1024)) ∧
      (r.exit = true → t.node.evidence = { s.node.evidence with seedPending := true, settling := 8 } ∧
        t.node.sensing = { s.node.sensing with cycleCounter := 0 } ∧ t.node.tx.oneHop = 0) ∧
      (r.exit = false → t.node.evidence = s.node.evidence ∧ t.node.sensing = s.node.sensing ∧
        t.node.tx.oneHop = s.node.tx.oneHop)

/-- A refused read leaves the node DORMANT, and a failed attempt is followed by the next. -/
def Obligations.ReadsFailOrAreRefused : Prop :=
  (∀ (s : State) (r : Reading) (read : Option (List Byte)) (noise : Byte) (cause : ReadCause),
     s.node.loader.read = some r → r.gap = none → s.node.power.oscillator = .running →
     ((read = none ∧ 3 ≤ r.attempt ∧ cause = .absent) ∨
       ∃ bs, read = some bs ∧ judgeImage bs = .error cause) →
     ∃ t, exec (.configAttempt read noise) s = .next t ∧ t.pending = s.pending ∧
       t.node.loader = ⟨none, [], some cause, none⟩ ∧ t.node.power.phase = .dormant ∧
       t.node.power.parked = false ∧ t.node.rx.state = .off ∧
       t.node.out.amber = ⟨.config, 0, some (later s.node.clock 512)⟩ ∧
       t.node.evidence = s.node.evidence ∧ t.node.sensing = s.node.sensing ∧ t.node.peers = s.node.peers ∧
       t.node.tx.queue = s.node.tx.queue ∧ t.node.clock = s.node.clock) ∧
  ((∀ (s : State) (a : Nat) (exit : Bool) (noise : Byte), s.node.loader.read = some ⟨a, none, exit⟩ → a < 3 →
       s.node.power.oscillator = .running →
       ∃ t, exec (.configAttempt none noise) s = .next t ∧ t.pending = s.pending ∧
         Node.FollowsFrom
           { s.node with loader := { s.node.loader with
             read := some ⟨a, some (later s.node.clock 10), exit⟩ } } t.node) ∧
     ∀ (s : State) (a : Nat) (gap : Stamp) (exit : Bool), s.node.loader.read = some ⟨a, some gap, exit⟩ →
       reached s.node.clock gap = true →
       ∃ claims osc, exec .configRetryGap s =
         .next { s with node := { s.node with
           loader := { s.node.loader with read := some ⟨a + 1, none, exit⟩ }
           power := { s.node.power with claims := claims, oscillator := osc } } })

/-- A count-stage underflow reloads the count and raises one sample request. -/
def Obligations.SampleRequestsStartCycles : Prop :=
  (∀ s : State, s.node.timer.running = true → s.node.timer.count ≤ 1 →
     ∃ t, exec .countStageUnderflow s = .next t ∧ t.pending = s.pending ∧ t.node.clock = s.node.clock ∧
       (s.node.wantsFast = s.node.alarm.wantFast → t.node.timer.count = s.node.timer.reload) ∧
       t.node.evidence = s.node.evidence ∧ t.node.tx.queue = s.node.tx.queue ∧
       (s.node.sensing.stage ≠ .idle →
         t.node.sensing = { s.node.sensing with pendingRequest := true }) ∧
       (s.node.sensing.stage = .idle → s.node.cfg.role ≠ .repeater →
         t.node.sensing.stage = .settle ∧ t.node.sensing.cycle = s.node.sensing.cycleCounter ∧
         t.node.sensing.cycleCounter = s.node.sensing.cycleCounter + 1 ∧ t.node.sensing.rail = true ∧
         t.node.sensing.pendingRequest = false ∧
         (s.node.sensing.buffer0.state = .free →
           t.node.sensing.buffer = false ∧ t.node.sensing.buffer0.state = .filling ∧
           t.node.sensing.buffer1 = s.node.sensing.buffer1 ∧
           t.node.sensing.skipped = s.node.sensing.skipped) ∧
         (s.node.sensing.buffer0.state ≠ .free → s.node.sensing.buffer1.state = .free →
           t.node.sensing.buffer = true ∧ t.node.sensing.buffer1.state = .filling ∧
           t.node.sensing.buffer0 = s.node.sensing.buffer0 ∧
           t.node.sensing.skipped = s.node.sensing.skipped) ∧
         (s.node.sensing.buffer0.state = .complete → s.node.sensing.buffer1.state = .copying →
           t.node.sensing.buffer = false ∧ t.node.sensing.buffer0.state = .filling ∧
           t.node.sensing.buffer1 = s.node.sensing.buffer1 ∧
           t.node.sensing.skipped = min 255 (s.node.sensing.skipped + 1)) ∧
         (s.node.sensing.buffer0.state = .copying → s.node.sensing.buffer1.state = .complete →
           t.node.sensing.buffer = true ∧ t.node.sensing.buffer1.state = .filling ∧
           t.node.sensing.buffer0 = s.node.sensing.buffer0 ∧
           t.node.sensing.skipped = min 255 (s.node.sensing.skipped + 1)))) ∧
  ((∀ s : State, s.node.timer.running = true → s.node.timer.count ≤ 1 → s.node.cfg.role = .repeater →
       s.node.sensing.stage = .idle →
       ∃ t, exec .countStageUnderflow s = .next t ∧
         (s.node.sensing.cycleCounter.toNat % 64 ≠ 0 →
           t.node.sensing = { s.node.sensing with
             cycleCounter := s.node.sensing.cycleCounter + 1, pendingRequest := false }) ∧
         (s.node.sensing.cycleCounter.toNat % 64 = 0 →
           t.node.sensing.stage = .settle ∧ t.node.sensing.rail = true ∧ t.node.sensing.divider = true ∧
           t.node.sensing.cycle = s.node.sensing.cycleCounter)) ∧
     ∀ s : State, s.node.cfg.role = .repeater → s.node.power.oscillator = .running →
       s.node.sensing.stage = .settle → s.node.sensing.mover = none → s.node.sensing.holding = none →
       ∃ t, exec .stageStart s = .next t ∧ t.node = { s.node with sensing := t.node.sensing } ∧
         t.node.sensing.stage = .battery ∧ t.node.sensing.converting = some .battery ∧
         (t.node.sensing.buf s.node.sensing.buffer).record.stamp = s.node.clock)

/-- FAST and SLOW requests reach the count stage exactly where the interval wanted changes. -/
def Obligations.FastAndSlowAreSentAsTheIntervalChanges : Prop :=
  (∀ (c : Instr) (s t : State), exec c s = .next t →
     c ∉ [.prescalerUnderflow, .countStageUnderflow, .powerOnReset, .answerSent] →
     (∀ read noise, c ≠ .configAttempt read noise) →
     (t.node.alarm.wantFast = s.node.alarm.wantFast → t.node.timer = s.node.timer) ∧
     (s.node.alarm.wantFast = false → t.node.alarm.wantFast = true →
       (s.node.timer.running = true → s.node.cfg.role ≠ .repeater →
         t.node.timer = ⟨true, min 8 s.node.timer.count, 8⟩) ∧
       ((s.node.timer.running = false ∨ s.node.cfg.role = .repeater) → t.node.timer = s.node.timer)) ∧
     (s.node.alarm.wantFast = true → t.node.alarm.wantFast = false →
       (s.node.timer.running = true → t.node.timer = ⟨true, s.node.timer.count, 64⟩) ∧
       (s.node.timer.running = false → t.node.timer = s.node.timer))) ∧
  (∀ (c : Instr) (s t : State), exec c s = .next t →
     s.node.wantAgrees → t.node.wantAgrees)

/-- STAGE_START begins the stages of a cycle in their order, and a pulse runs its one-shot and ends. That
EMITTER_OFF is the divider's moment is the model's reading (log entry 32). -/
def Obligations.StagesAndPulsesOfACycle : Prop :=
  (∀ s : State, s.node.power.oscillator = .running → s.node.cfg.role ≠ .repeater →
     let x := s.node.sensing
     let withSensing := fun y : Sensing => { s with node := { s.node with sensing := y } }
     (x.stage = .settle → x.mover = none → x.holding = none →
       ∃ y, exec .stageStart s = .next (withSensing y) ∧ y.stage = .dark ∧ y.converting = some .dark ∧
         y.stampWaiting = none ∧ (y.buf x.buffer).record = { (x.buf x.buffer).record with stamp := s.node.clock } ∧
         y.buf (!x.buffer) = x.buf (!x.buffer)) ∧
     (x.stage = .dark → x.quiet = true →
       exec .stageStart s =
         .next (withSensing { x with stage := .infrared, irEmitter := true, oneShot := true })) ∧
     (x.stage = .infrared → x.quiet = true →
       exec .stageStart s =
         .next (withSensing { x with stage := .blue, blueEmitter := true, oneShot := true })) ∧
     (x.stage = .blue → x.quiet = true →
       exec .stageStart s = .next (withSensing { x with stage := .heat, converting := some .heat })) ∧
     (x.stage = .heat → batteryCycle s.node.cfg.role x.cycle = true → x.quiet = true →
       exec .stageStart s = .next (withSensing { x with stage := .battery, converting := some .battery }))) ∧
  ((∀ s : State, s.node.sensing.oneShot = true →
       exec .oneShotFire s =
         .next { s with node := { s.node with sensing := { s.node.sensing with
           oneShot := false
           converting := some (if s.node.sensing.stage = .infrared then .infrared else .blue) } } }) ∧
     ∀ s : State, s.node.sensing.oneShot = false →
       ((s.node.sensing.blueEmitter = true ∧ s.node.cfg.role ≠ .panelAttached ∧
           s.node.sensing.cycle.toNat % 64 = 0) →
         exec .emitterOff s =
           .next { s with node := { s.node with sensing := { s.node.sensing with
             irEmitter := false, blueEmitter := false, divider := true } } }) ∧
       (¬(s.node.sensing.blueEmitter = true ∧ s.node.cfg.role ≠ .panelAttached ∧
           s.node.sensing.cycle.toNat % 64 = 0) →
         exec .emitterOff s =
           .next { s with node := { s.node with sensing := { s.node.sensing with
             irEmitter := false, blueEmitter := false } } }))

/-- A conversion's result is limited, written through the port, and the last one ends the cycle. -/
def Obligations.ConversionResultsAreMoved : Prop :=
  (∀ (s : State) (c : Conversion) (input : Int), s.node.sensing.converting = some c →
     s.node.sensing.holding = none →
     let x := s.node.sensing
     let v := (max 0 (min 1023 input)).toNat
     (∀ m, x.mover = some m →
       exec (.conversionDone input) s =
         .next { s with node := { s.node with sensing := { x with
           converting := none, holding := some (c, v) } } }) ∧
     (x.mover = none → x.stampWaiting = none → lastConversion s.node.cfg.role x.cycle c = false →
       ∃ y, exec (.conversionDone input) s = .next { s with node := { s.node with sensing := y } } ∧
         y.converting = none ∧ y.holding = none ∧ y.stage = x.stage ∧
         (y.buf x.buffer).record = (x.buf x.buffer).record.write c v ∧
         (y.buf x.buffer).state = (x.buf x.buffer).state ∧ y.buf (!x.buffer) = x.buf (!x.buffer))) ∧
  (∀ (s : State) (c : Conversion) (input : Int), s.node.sensing.converting = some c →
     s.node.sensing.holding = none → s.node.sensing.mover = none → s.node.sensing.stampWaiting = none →
     (s.node.sensing.buf (!s.node.sensing.buffer)).state ≠ .complete →
     (s.node.sensing.pendingRequest = true →
       s.node.cfg.role ≠ .repeater ∧ (s.node.sensing.buf (!s.node.sensing.buffer)).state = .free) →
     lastConversion s.node.cfg.role s.node.sensing.cycle c = true →
     let x := s.node.sensing
     let w := (x.buf x.buffer).record.write c (max 0 (min 1023 input)).toNat
     ∃ y, exec (.conversionDone input) s = .next { s with node := { s.node with sensing := y } } ∧
       y.converting = none ∧ y.holding = none ∧ (y.buf x.buffer).state = .copying ∧
       (y.mover.map (fun m => m.buffer)) = some x.buffer ∧
       (y.buf x.buffer).record = { w with
         opticalValid := decide (w.dark ≤ 999)
         heatValid := decide (9 ≤ w.heat ∧ w.heat ≤ 1014)
         battery := if batteryCycle s.node.cfg.role x.cycle then w.battery else none } ∧
       (x.pendingRequest = false →
         y.stage = .idle ∧ y.rail = false ∧ y.divider = false ∧ y.pendingRequest = false ∧
         y.cycleCounter = x.cycleCounter ∧ y.buf (!x.buffer) = x.buf (!x.buffer)) ∧
       (x.pendingRequest = true →
         y.stage = .settle ∧ y.rail = true ∧ y.divider = false ∧ y.pendingRequest = false ∧
         y.cycle = x.cycleCounter ∧ y.cycleCounter = x.cycleCounter + 1 ∧ y.buffer = !x.buffer ∧
         y.buf (!x.buffer) = { x.buf (!x.buffer) with state := .filling } ∧ y.skipped = x.skipped))

/-- RECORD_FIELD_COPY moves field by field, lets a waiting write in between, hands the record over, and Vb moves
the battery class with its notices. -/
def Obligations.CopiedRecordsAreHandedOver : Prop :=
  (∀ s : State, s.node.sensing.stampWaiting = none → s.node.sensing.holding = none →
     (∀ b f g rest, s.node.sensing.mover = some ⟨b, f :: g :: rest⟩ →
       ∃ t, exec .recordFieldCopy s = .next t ∧ t.pending = s.pending ∧
         Node.FollowsFrom
           { s.node with sensing := { s.node.sensing with mover := some ⟨b, g :: rest⟩ } } t.node) ∧
     (∀ b f, s.node.sensing.mover = some ⟨b, [f]⟩ → s.node.cfg.role ≠ .repeater →
       (s.node.sensing.buf (!b)).state ≠ .complete →
       ∃ t, exec .recordFieldCopy s = .next t ∧ (t.node.sensing.buf b).state = .free ∧
         t.node.sensing.mover = none ∧ t.node.sensing.buf (!b) = s.node.sensing.buf (!b) ∧
         (s.node.evidence.inHand = none →
           t.node.evidence = { s.node.evidence with inHand := some (s.node.sensing.buf b).record } ∧
           t.node.sensing.input = none) ∧
         (s.node.evidence.inHand.isSome = true →
           t.node.evidence = s.node.evidence ∧
           t.node.sensing.input = some (s.node.sensing.buf b).record ∧
           (s.node.sensing.input.isSome = true →
             t.node.sensing.skipped = min 255 (s.node.sensing.skipped + 1))))) ∧
  (∀ (s : State) (b : Bool) (left : List RecordField), s.node.sensing.mover = some ⟨b, left⟩ → left ≠ [] →
     (s.node.sensing.buf b).state = .copying → s.node.sensing.buffer = (!b) →
     (s.node.sensing.buf (!b)).state = .filling →
     let x := s.node.sensing
     let w := x.buf (!b)
     let stamped : SampleRecord :=
       match x.stampWaiting with
       | none => w.record
       | some stamp => { w.record with stamp := stamp }
     ∃ t, exec .recordFieldCopy s = .next t ∧ t.pending = s.pending ∧
       let y := t.node.sensing
       let copied := (y.buf b).record = (x.buf b).record ∧
         (y.buf b).state = (if left.length = 1 then .free else .copying)
       let goesOn := copied ∧ y.mover = (if left.length = 1 then none else some ⟨b, left.drop 1⟩) ∧
         y.stage = x.stage ∧ y.rail = x.rail ∧ y.pendingRequest = x.pendingRequest
       y.stampWaiting = none ∧ y.holding = none ∧
       (x.holding = none → y.buf (!b) = { w with record := stamped } ∧ goesOn) ∧
       (∀ c v, x.holding = some (c, v) →
         (lastConversion s.node.cfg.role x.cycle c = false →
           y.buf (!b) = { w with record := stamped.write c v } ∧ goesOn) ∧
         (lastConversion s.node.cfg.role x.cycle c = true → x.pendingRequest = false →
           let r := stamped.write c v
           (y.buf (!b)).record = { r with
             opticalValid := decide (r.dark ≤ 999)
             heatValid := decide (9 ≤ r.heat ∧ r.heat ≤ 1014)
             battery := if batteryCycle s.node.cfg.role x.cycle then r.battery else none } ∧
           copied ∧ y.stage = .idle ∧ y.rail = false ∧ y.divider = false ∧
           (2 ≤ left.length → (y.buf (!b)).state = .complete ∧ y.mover = some ⟨b, left.drop 1⟩) ∧
           (left.length = 1 →
             (y.buf (!b)).state = .copying ∧ y.mover.map (fun m => m.buffer) = some (!b))))) ∧
  (∀ (s : State) (b : Bool) (f : RecordField) (vb : Nat), s.node.sensing.mover = some ⟨b, [f]⟩ →
     (s.node.sensing.buf b).record.battery = some vb →
     let before := s.node.power.battery
     ∃ t, exec .recordFieldCopy s = .next t ∧
       let after := t.node.power.battery
       let turns := fun (kind : NoticeKind) (on off : Prop) =>
         let item := NoticeItem.mk kind none
         (on → item ∈ t.node.alarm.notices) ∧ (off → item ∉ t.node.alarm.notices) ∧
         (¬on → ¬off → (item ∈ t.node.alarm.notices ↔ item ∈ s.node.alarm.notices))
       (before = .normal → after = if vb < 682 then .critical else if vb < 739 then .low else .normal) ∧
       (before = .low → after = if vb < 682 then .critical else if vb < 759 then .low else .normal) ∧
       (before = .critical → after = if vb < 702 then .critical else if vb < 759 then .low else .normal) ∧
       (before = .external → after = .external) ∧
       (s.node.active = true →
         turns .batteryCritical (before ≠ .critical ∧ after = .critical) (before = .critical ∧ after ≠ .critical) ∧
         turns .batteryLow (before = .normal ∧ after ≠ .normal) (before ≠ .normal ∧ after = .normal)))

/-- The optical lane: scatters, baselines, excesses, colour ratio and smoke index of a record. That the alarm
state which stage 2 reads is the one held at the publication is the model's reading (log entry 13). -/
def Obligations.OpticalLane : Prop :=
  ∀ (s : State) (r : SampleRecord), s.node.evidence.inHand = some r →
    ∃ t, exec .evidencePublication s = .next t ∧
      (r.opticalValid = false →
        t.node.evidence.q = s.node.evidence.q ∧ t.node.evidence.accI = s.node.evidence.accI ∧
        t.node.evidence.accB = s.node.evidence.accB ∧
        t.node.evidence.seedPending = s.node.evidence.seedPending) ∧
      (r.opticalValid = true →
        let si := min 1023 (r.infrared - r.dark)
        let sb := min 1023 (r.blue - r.dark)
        let moved := fun sc acc : Nat =>
          ((acc : Int) + max (-16) (min 16 ((sc : Int) - (acc / 64 : Nat)))).toNat
        let after := fun sc acc : Nat =>
          if s.node.evidence.seedPending = true then sc * 64
          else if s.node.alarm.state = .quiet then moved sc acc else acc
        let accI := after si s.node.evidence.accI
        let accB := after sb s.node.evidence.accB
        let ei := min 1023 (si - accI / 64)
        let eb := min 1023 (sb - accB / 64)
        let ratio := if 8 ≤ ei then min 255 (eb * 16 / ei) else 16
        let q0 := min 255 (ei * s.node.cfg.gain / 64)
        t.node.evidence.accI = accI ∧ t.node.evidence.accB = accB ∧
        t.node.evidence.seedPending = false ∧
        t.node.evidence.q =
          if ratio < 12 then q0 / 2 else if ratio < 24 then q0 else min 255 (q0 + q0 / 4))

/-- Lv, the settling count, the sensor notices and the next record at a publication. -/
def Obligations.PublicationFormsLv : Prop :=
  ∀ (s : State) (r : SampleRecord), s.node.evidence.inHand = some r →
    ∃ t, exec .evidencePublication s = .next t ∧ t.pending = s.pending ∧ t.node.clock = s.node.clock ∧
      t.node.evidence.inHand = s.node.sensing.input ∧ t.node.sensing.input = none ∧
      ((r.opticalValid = true ∨ r.heatValid = true) →
        t.node.evidence.lv =
          min 255 (t.node.evidence.q + t.node.evidence.hx / 2 +
            t.node.evidence.q * t.node.evidence.hx / 256)) ∧
      (r.opticalValid = false → r.heatValid = false → t.node.evidence.lv = s.node.evidence.lv) ∧
      (r.heatValid = false →
        t.node.evidence.hx = s.node.evidence.hx ∧ t.node.evidence.ring = s.node.evidence.ring) ∧
      t.node.evidence.settling = s.node.evidence.settling - 1 ∧
      (0 < s.node.evidence.settling → t.node.alarm.state = s.node.alarm.state) ∧
      let runs := fun (valid raised : Bool) (count : Nat) (raised' : Bool) (count' : Nat) =>
        (valid ≠ raised → raised' = raised ∧ count' = 0) ∧
        (valid = raised → count < 2 → raised' = raised ∧ count' = count + 1) ∧
        (valid = raised → 2 ≤ count → raised' = !raised ∧ count' = 0)
      let told := fun (kind : NoticeKind) (before after : Bool) =>
        (NoticeItem.mk kind none) ∈ t.node.alarm.notices ↔
          if before = after then (NoticeItem.mk kind none) ∈ s.node.alarm.notices else after = true
      runs r.opticalValid s.node.evidence.opticalRaised s.node.evidence.opticalRun
        t.node.evidence.opticalRaised t.node.evidence.opticalRun ∧
      runs r.heatValid s.node.evidence.heatRaised s.node.evidence.heatRun
        t.node.evidence.heatRaised t.node.evidence.heatRun ∧
      (s.node.evidence.seedPending = true → t.node.evidence.dirtyRaised = s.node.evidence.dirtyRaised) ∧
      (s.node.evidence.seedPending = false →
        (600 < t.node.evidence.accI / 64 → t.node.evidence.dirtyRaised = true) ∧
        (t.node.evidence.accI / 64 < 560 → t.node.evidence.dirtyRaised = false) ∧
        (560 ≤ t.node.evidence.accI / 64 → t.node.evidence.accI / 64 ≤ 600 →
          t.node.evidence.dirtyRaised = s.node.evidence.dirtyRaised)) ∧
      (s.node.active = true →
        told .opticalSaturated s.node.evidence.opticalRaised t.node.evidence.opticalRaised ∧
        told .heatSensor s.node.evidence.heatRaised t.node.evidence.heatRaised ∧
        told .chamberDirty s.node.evidence.dirtyRaised t.node.evidence.dirtyRaised)

/-- The thermal lane: temperature, heat ring, rate of rise and heat index of a record. -/
def Obligations.ThermalLane : Prop :=
  ∀ (s : State) (r : SampleRecord), s.node.evidence.inHand = some r → r.heatValid = true →
    r.heat ≤ 1023 →
    ∃ (t : State) (temp t0 t1 : Int) (kept : List RingEntry),
      exec .evidencePublication s = .next t ∧
      thermistorTable[r.heat / 64]? = some t0 ∧ thermistorTable[r.heat / 64 + 1]? = some t1 ∧
      temp = t0 + ((t1 - t0) * ((r.heat % 64 : Nat) : Int)).tdiv 64 ∧
      t.node.evidence.ring = kept ++ [⟨temp, r.stamp⟩] ∧
      (s.node.evidence.ring = [] → kept = []) ∧
      (∀ before last, s.node.evidence.ring = before ++ [last] →
        (307200 < elapsed r.stamp last.stamp → kept = []) ∧
        (elapsed r.stamp last.stamp ≤ 307200 →
          kept = if 8 ≤ s.node.evidence.ring.length then s.node.evidence.ring.drop 1
            else s.node.evidence.ring)) ∧
      let static := min 255 ((temp - s.node.cfg.heatFloor) * 3).toNat
      (kept = [] → t.node.evidence.hx = static) ∧
      (∀ oldest rest, kept = oldest :: rest → elapsed r.stamp oldest.stamp ≠ 0 →
        let rate := max (-255) (min 255
          (((temp - oldest.temp) * 61440).tdiv (elapsed r.stamp oldest.stamp)))
        t.node.evidence.hx = max static (min 255 (rate * 8).toNat))

/-- A judged sample at or above W moves a QUIET node to WATCH. (R66) -/
def Obligations.QuietNodeEntersWatch : Prop :=
  ∀ (s : State) (r : SampleRecord), s.node.evidence.inHand = some r → s.node.evidence.settling = 0 →
    s.node.alarm.state = .quiet → s.node.active = true → (r.opticalValid = true ∨ r.heatValid = true) →
    let noNotice := evidenceTasks s.node.evidence (evidenceAfter s.node.cfg true s.node.evidence r) = []
    ∃ t, exec .evidencePublication s = .next t ∧ t.pending = s.pending ∧
      let body : Body := .evidence (byte t.node.evidence.lv) .watch
      (s.node.cfg.watch ≤ t.node.evidence.lv →
        t.node.alarm.state = .watch ∧ t.node.alarm.hysteresis = 4 ∧ t.node.alarm.wantFast = true ∧
        t.node.power.alarmCause = true ∧ t.node.power.phase = .run ∧ t.node.out.red.pattern = .watchBlink ∧
        (s.node.tx.queue.length ≤ 4 →
          ∃ before e, t.node.tx.queue = before ++ [e] ∧ e.own = true ∧ e.frame.body = body) ∧
        (noNotice → s.node.tx.queue.length ≤ 4 → t.node.alarm.notices = s.node.alarm.notices) ∧
        (noNotice → s.node.tx.queue = [] → t.node.tx.queue.map (fun e => e.frame.body) = [body])) ∧
      (t.node.evidence.lv < s.node.cfg.watch →
        t.node.alarm.state = .quiet ∧
        (noNotice → t.node.tx.queue = s.node.tx.queue ∧ t.node.alarm.notices = s.node.alarm.notices))

/-- A judged sample moves a WATCH or CONFIRMING unit, and in walk test its confirmation is a test. That the own
notice record of PRE_ALARM is formed before the TEST ALARM record is the model's choice (log entry 15); the
statement does not rest on it. -/
def Obligations.JudgedSamplesMoveTheUnit : Prop :=
  ∀ (s : State) (r : SampleRecord), s.node.evidence.inHand = some r → s.node.evidence.settling = 0 →
    (r.opticalValid = true ∨ r.heatValid = true) → s.node.active = true →
    let cfg := s.node.cfg
    let a := s.node.alarm
    let preAlarm := NoticeItem.mk .preAlarm none
    ∃ t, exec .evidencePublication s = .next t ∧ t.pending = s.pending ∧
      let lv := t.node.evidence.lv
      let b := t.node.alarm
      (a.state = .watch → cfg.alarm ≤ lv → 1 < cfg.confirm →
        b.state = .confirming ∧ b.confirmCount = 1 ∧ b.limit = a.limit ∧ preAlarm ∈ b.notices) ∧
      (a.state = .watch → lv < cfg.alarm →
        (cfg.watch ≤ lv + 8 → b.state = .watch ∧ b.hysteresis = 4) ∧
        (lv + 8 < cfg.watch → 1 < a.hysteresis → b.state = .watch ∧ b.hysteresis = a.hysteresis - 1) ∧
        (lv + 8 < cfg.watch → a.hysteresis = 1 → b.state = .quiet ∧ b.hysteresis = 0)) ∧
      (a.state = .confirming → lv < cfg.alarm →
        b.state = .watch ∧ b.confirmCount = 0 ∧ b.hysteresis = 4 ∧ b.limit = none ∧ preAlarm ∉ b.notices) ∧
      (a.state = .confirming → cfg.alarm ≤ lv → a.confirmCount + 1 < cfg.confirm →
        b.state = .confirming ∧ b.confirmCount = a.confirmCount + 1 ∧ b.limit = a.limit ∧
        (preAlarm ∈ b.notices ↔ preAlarm ∈ a.notices)) ∧
      (a.state = .alarm → b.state = .alarm ∧ b.origins = a.origins) ∧
      (((a.state = .confirming ∧ cfg.confirm ≤ a.confirmCount + 1) ∨ (a.state = .watch ∧ cfg.confirm = 1)) →
        a.walkTest.isSome = true → cfg.alarm ≤ lv → cfg.solo ≤ lv →
        b.state = .quiet ∧ b.confirmCount = 0 ∧ b.hysteresis = 0 ∧ b.limit = none ∧ preAlarm ∉ b.notices ∧
        b.testSound = some (later s.node.clock 10240) ∧ b.origins = a.origins ∧ b.silenced = a.silenced ∧
        b.walkTest = a.walkTest ∧
        (s.node.tx.queue = [] →
          ∃ e ∈ t.node.tx.queue, e.own = true ∧ e.attempt = some 1 ∧ e.frame.cls = .alarm ∧
            e.frame.hdr.test = true)) ∧
      (a.state ≠ .quiet → s.node.tx.queue = [] →
        ∃ before e, t.node.tx.queue = before ++ [e] ∧ e.frame.body = .evidence (byte lv) b.state)

/-- The N-th sample at A or above enters ALARM at S or by corroboration, and its ALARM frame is queued. -/
def Obligations.ConfirmedSampleEntersAlarm : Prop :=
  ∀ (s : State) (r : SampleRecord), s.node.evidence.inHand = some r → s.node.evidence.settling = 0 →
    ((s.node.alarm.state = .confirming ∧ s.node.cfg.confirm ≤ s.node.alarm.confirmCount + 1) ∨
      (s.node.alarm.state = .watch ∧ s.node.cfg.confirm = 1)) →
    s.node.alarm.walkTest = none → (r.opticalValid = true ∨ r.heatValid = true) →
    let cfg := s.node.cfg
    let partners := cfg.partners ≤ Set.ncard {a : Byte |
      (∃ p : Peer, some p ∈ s.node.peers.entries ∧ p.address = a ∧ p.zone = some cfg.zone ∧ p.state ≠ .lost ∧
        (p.alarm = some .alarm ∨
          ∃ v, p.pv = some v ∧ elapsed s.node.clock v.stamp ≤ 20480 ∧ cfg.watch ≤ v.value.toNat)) ∨
      (∃ o ∈ s.node.alarm.origins, o.address = a ∧ o.zone = cfg.zone ∧ a ≠ cfg.address)}
    ∃ t, exec .evidencePublication s = .next t ∧ (cfg.alarm ≤ t.node.evidence.lv →
      let heat := cfg.heatCorr ≤ t.node.evidence.hx
      let passes := cfg.solo ≤ t.node.evidence.lv ∨
        match cfg.mode with
        | .none => True
        | .partner => partners
        | .heat => heat
        | .either => partners ∨ heat
        | .both => partners ∧ heat
      let cause : Cause :=
        if t.node.evidence.hx / 2 ≤ t.node.evidence.q ∧ t.node.evidence.hx < cfg.heatCorr then .smoke
        else if t.node.evidence.q < 16 then .heat
        else .combined
      (passes →
        t.node.alarm.state = .alarm ∧ t.node.alarm.limit = none ∧ t.node.alarm.silenced = false ∧
        t.node.power.alarmCause = true ∧
        (∃ others, t.node.alarm.origins = others ++ [⟨cfg.address, cfg.zone, cause, s.node.clock⟩] ∧
          ∀ x ∈ others, x.address ≠ cfg.address) ∧
        (s.node.active = true → s.node.tx.queue = [] →
          ∃ before a e, t.node.tx.queue = before ++ [a, e] ∧ (∀ x ∈ before, x.frame.cls = .notice) ∧
            a.own = true ∧ a.attempt = some 1 ∧ a.state = .waiting ∧
            a.frame.body = .alarm cause (byte t.node.evidence.lv) (byte t.node.evidence.q)
              (byte t.node.evidence.hx) ∧
            a.frame.hdr.sender = cfg.address ∧ a.frame.hdr.origin = cfg.address ∧
            a.frame.hdr.hop = BitVec.ofNat 4 cfg.hopLimit ∧ a.frame.hdr.test = false ∧
            e.frame.body = .evidence (byte t.node.evidence.lv) .alarm)) ∧
      (¬passes →
        t.node.alarm.state = .confirming ∧ t.node.alarm.confirmCount = cfg.confirm ∧
        t.node.alarm.origins = s.node.alarm.origins ∧
        t.node.alarm.limit =
          if s.node.alarm.limit = none then some (later s.node.clock 307200) else s.node.alarm.limit))

/-- The confirming limit, walk test, the test-sound span and the amber event span end at their expiries. -/
def Obligations.AlarmTimersExpire : Prop :=
  (∀ s : State, due s.node.clock s.node.alarm.limit = true → s.node.alarm.state = .confirming →
     s.node.active = true →
     ∃ t, exec .confirmingLimit s = .next t ∧ t.pending = s.pending ∧ t.node.alarm.state = .watch ∧
       t.node.alarm.confirmCount = 0 ∧ t.node.alarm.hysteresis = 4 ∧ t.node.alarm.limit = none ∧
       (NoticeItem.mk .preAlarm none) ∉ t.node.alarm.notices ∧ t.node.alarm.lastEvent = some s.node.clock ∧
       t.node.alarm.origins = s.node.alarm.origins ∧ t.node.evidence = s.node.evidence ∧
       t.node.peers = s.node.peers ∧ t.node.clock = s.node.clock) ∧
  (∀ s : State,
     (due s.node.clock s.node.alarm.walkTest = true →
       ∃ t, exec .walkTestExpiry s = .next t ∧ t.pending = s.pending ∧
         Node.FollowsFrom { s.node with alarm := { s.node.alarm with
           walkTest := none, testEnded := some s.node.clock } } t.node ∧
         t.node.power.alarmCause = (s.node.alarm.state != .quiet)) ∧
     (due s.node.clock s.node.alarm.testSound = true →
       ∃ t, exec .testSoundSpanEnd s = .next t ∧ t.pending = s.pending ∧
         Node.FollowsFrom { s.node with alarm := { s.node.alarm with testSound := none } } t.node) ∧
     (∀ e, s.node.alarm.lastEvent = some e → reached s.node.clock (later e 61440) = true →
       ∃ t, exec .amberEventSpanEnd s = .next t ∧ t.pending = s.pending ∧
         Node.FollowsFrom { s.node with alarm := { s.node.alarm with lastEvent := none } } t.node))

/-- The unit's RUN cause stands exactly while WATCH, CONFIRMING, ALARM or walk test does, and a hold keeps RUN.
(R89) -/
def Obligations.RunCauseFollowsAlarmSide : Prop :=
  ∀ s t : State, s.node.power.alarmCause = (s.node.alarm.state != .quiet || s.node.alarm.walkTest.isSome) →
    step s = .next t →
    t.node.power.alarmCause = (t.node.alarm.state != .quiet || t.node.alarm.walkTest.isSome) ∧
    (s.node.power.phase = .run → t.node.power.runHold.isSome = true → t.node.power.phase ≠ .patrol)

/-- A supervision period end ages the peers, starts the next period and reports the beacon echo check. -/
def Obligations.PeriodEndSupervisesPeers : Prop :=
  (∀ s : State, due s.node.clock s.node.peers.periodEnd = true →
     ∃ t, exec .supervisionPeriodEnd s = .next t ∧ t.pending = s.pending ∧
       t.node.peers.entries.length = s.node.peers.entries.length ∧
       (∀ (i : Nat) (p : Peer), s.node.peers.entries[i]? = some (some p) →
         ∃ q, t.node.peers.entries[i]? = some (some q) ∧ q.address = p.address ∧ q.zone = p.zone ∧
           q.role = p.role ∧ q.level = p.level ∧ q.heardAt = p.heardAt ∧ q.twoWay = p.twoWay ∧
           q.alarm = p.alarm ∧
           (p.state ≠ .lost → p.heard = true →
             q.state = p.state ∧ q.missed = p.missed ∧ q.heard = false ∧
             q.pv = p.pv.filter (fun v => decide (elapsed s.node.clock v.stamp ≤ 20480))) ∧
           (p.state ≠ .lost → p.heard = false → p.missed < 2 →
             q.state = .stale ∧ q.missed = p.missed + 1 ∧
             q.pv = p.pv.filter (fun v => decide (elapsed s.node.clock v.stamp ≤ 20480))) ∧
           (p.state ≠ .lost → p.heard = false → 2 ≤ p.missed →
             q.state = .lost ∧ q.missed = p.missed + 1 ∧ q.pv = none) ∧
           (p.state = .lost → q.state = .lost ∧ q.missed = p.missed ∧ q.pv = none)) ∧
       t.node.peers.periodEnd = some (later s.node.clock s.node.cfg.period) ∧
       t.node.peers.listed = false ∧ t.node.tx.rng = rngDraw s.node.tx.rng ∧
       t.node.tx.beaconDue = some (later s.node.clock ((rngDraw s.node.tx.rng).toNat % 2048)) ∧
       t.node.tx.halfMark = some (later s.node.clock (s.node.cfg.period / 2)) ∧
       t.node.sensing = s.node.sensing ∧ t.node.evidence = s.node.evidence ∧
       t.node.rx.slots = s.node.rx.slots ∧
       t.node.relay.seen.map (fun e => (e.origin, e.seq, e.copies)) =
         s.node.relay.seen.map (fun e => (e.origin, e.seq, e.copies))) ∧
  (∀ s : State, due s.node.clock s.node.peers.periodEnd = true →
     s.node.peers.entries = List.replicate 16 none → s.node.peers.conflictRaised = false →
     s.node.tx.queue = [] →
     ∃ t, exec .supervisionPeriodEnd s = .next t ∧ t.node.link.rfc = s.node.link.rfc ∧
       (s.node.peers.listed = true →
         t.node.link.efc = if s.node.link.efc ≤ 255 then s.node.link.efc - 1 else 200) ∧
       (s.node.peers.listed = false → t.node.link.efc = min 511 (s.node.link.efc + 8)))

/-- A period end orders the newly LOST, records and reports the two-way ones, and counts the quiet periods of an
address conflict. -/
def Obligations.PeriodEndReportsLostPeersAndTheConflict : Prop :=
  ∀ s : State, due s.node.clock s.node.peers.periodEnd = true →
    let a := s.node.peers
    let falls := fun (i : Nat) (p : Peer) => a.entries[i]? = some (some p) ∧ p.state ≠ .lost ∧ p.heard = false ∧
      2 ≤ p.missed
    let age := fun p : Peer => elapsed s.node.clock p.heardAt
    let lostItem := fun subject : Byte => NoticeItem.mk .peerLost (some subject)
    let conflictItem := NoticeItem.mk .addressConflict (some s.node.cfg.address)
    ∃ (t : State) (newly : List Nat), exec .supervisionPeriodEnd s = .next t ∧ t.pending = s.pending ∧
      let b := t.node.peers
      b.lossOrder = a.lossOrder ++ newly ∧ newly.Nodup ∧ (∀ i, i ∈ newly ↔ ∃ p, falls i p) ∧
      newly.Pairwise (fun i j => ∀ p q, falls i p → falls j q →
        age q < age p ∨ (p.heardAt = q.heardAt ∧ i < j)) ∧
      b.lostSubjects =
        (newly.filterMap (fun i =>
          ((a.entries[i]?).join.filter (fun p => p.twoWay)).map (fun p => p.address))).foldl
          (fun held x => if x ∈ held then held else (if 16 ≤ held.length then held.drop 1 else held) ++ [x])
          a.lostSubjects ∧
      (s.node.active = true → a.lostSubjects.Nodup → ∀ x,
        (x ∈ b.lostSubjects → (x ∉ a.lostSubjects ∨ lostItem x ∈ s.node.alarm.notices) →
          lostItem x ∈ t.node.alarm.notices) ∧
        (x ∉ b.lostSubjects → (x ∈ a.lostSubjects ∨ lostItem x ∉ s.node.alarm.notices) →
          lostItem x ∉ t.node.alarm.notices)) ∧
      let quiet := a.conflictRaised = true ∧ a.conflictHeard = false
      let ended := quiet ∧ 2 ≤ a.quietCount
      b.conflictHeard = false ∧
      (ended → b.conflictRaised = false ∧ b.quietCount = 0 ∧
        (s.node.active = true → conflictItem ∉ t.node.alarm.notices)) ∧
      (¬ended → b.conflictRaised = a.conflictRaised ∧
        b.quietCount = (if a.conflictRaised = true ∧ a.conflictHeard = false then a.quietCount + 1 else a.quietCount) ∧
        (conflictItem ∈ t.node.alarm.notices ↔ conflictItem ∈ s.node.alarm.notices))

/-- A STRAINED node schedules a second beacon, and a due time queues a BEACON of the present state. -/
def Obligations.BeaconsAreScheduledAndBuilt : Prop :=
  (∀ (s : State) (mark : Stamp), s.node.tx.halfMark = some mark → reached s.node.clock mark = true →
     (s.node.link.state = .strained →
       exec .halfPeriodMark s =
         .next { s with node := { s.node with tx := { s.node.tx with
           halfMark := none
           rng := rngDraw s.node.tx.rng
           halfDue := some (later mark ((rngDraw s.node.tx.rng).toNat % 2048)) } } }) ∧
     (s.node.link.state ≠ .strained →
       exec .halfPeriodMark s =
         .next { s with node := { s.node with tx := { s.node.tx with halfMark := none } } })) ∧
  (∀ s : State, s.node.active = true →
     (due s.node.clock s.node.tx.beaconDue = true ∨ due s.node.clock s.node.tx.halfDue = true) →
     s.node.tx.queue.length < 8 →
     (∀ e ∈ s.node.tx.queue, e.frame.cls = .beacon → e.state ≠ .waiting) →
     ∃ t e heard, exec .beaconDue s = .next t ∧ t.pending = s.pending ∧
       t.node.tx.queue = s.node.tx.queue ++ [e] ∧ e.own = true ∧ e.state = .waiting ∧ e.attempt = none ∧
       e.frame.body =
         .beacon (s.node.alarm.state.code ++ s.node.link.state.code ++ s.node.power.battery.code ++
           s.node.power.phase.code) (byte s.node.evidence.lv) heard ∧
       (∃ ordered : List Peer,
         ordered.Perm ((s.node.peers.entries.filterMap id).filter (fun p => p.state = .fresh)) ∧
         ordered.Pairwise (fun p q => q.level < p.level ∨ (p.level = q.level ∧ p.address ≤ q.address)) ∧
         heard = (ordered.map (fun p => p.address)).take 6) ∧
       e.frame.hdr.sender = s.node.cfg.address ∧ e.frame.hdr.origin = s.node.cfg.address ∧
       e.frame.hdr.hop = 0 ∧
       (∀ x ∈ s.node.tx.queue, x.own = true → x.frame.hdr.seq ≠ e.frame.hdr.seq) ∧
       t.node.tx.oneHop = e.frame.hdr.seq + 1 ∧
       (due s.node.clock s.node.tx.beaconDue = true →
         t.node.tx.beaconDue = none ∧ t.node.tx.halfDue = s.node.tx.halfDue) ∧
       (due s.node.clock s.node.tx.beaconDue = false →
         t.node.tx.halfDue = none ∧ t.node.tx.beaconDue = s.node.tx.beaconDue) ∧
       t.node.peers = s.node.peers ∧ t.node.link = s.node.link)

/-- An offered frame replaces, evicts, is a duplicate or is dropped. -/
def Obligations.OffersReplaceEvictOrAreDropped : Prop :=
  (∀ (s : State), due s.node.clock s.node.tx.beaconDue = true → s.node.active = true →
     (∀ a q b, s.node.tx.queue = a ++ q :: b → q.frame.cls = .beacon → q.state = .waiting →
       (∀ y ∈ b, y.frame.cls = .beacon → y.state ≠ .waiting) →
       ∃ t e, exec .beaconDue s = .next t ∧ t.node.tx.queue = a ++ b ++ [e] ∧ e.own = true ∧
         e.state = .waiting ∧ e.frame.cls = .beacon ∧ e.earliest = s.node.clock ∧
         t.node.tx.drops = s.node.tx.drops) ∧
     (8 ≤ s.node.tx.queue.length → (∀ q ∈ s.node.tx.queue, q.frame.cls ≠ .beacon) →
       ∃ t, exec .beaconDue s = .next t ∧ t.node.tx.queue = s.node.tx.queue ∧
         t.node.tx.oneHop = s.node.tx.oneHop ∧ t.node.tx.drops = min 255 (s.node.tx.drops + 1) ∧
         t.node.link = s.node.link)) ∧
  (∀ (s : State) (i : Nat) (x : Slot), s.node.rx.service = some ⟨i, .relayOffer⟩ →
     s.node.rx.slots[i]? = some (some x) → s.node.active = true → x.frame.cls.relayable = true →
     x.relay = true → x.frame.hdr.origin ≠ s.node.cfg.address → x.frame.hdr.hop ≠ 0 →
     s.node.link.state ≠ .isolated → (s.node.power.battery ≠ .critical ∨ x.frame.cls = .alarm) →
     let same := fun (f : Frame) => f.hdr.origin = x.frame.hdr.origin ∧ f.hdr.seq = x.frame.hdr.seq
     let waits := fun (q : TxEntry) => q.state = .waiting ∨ q.state = .holdoff
     ∃ t, exec .relayOffer s = .next t ∧ t.pending = s.pending ∧
       let marked := fun (status : RelayStatus) => ∀ A e B, s.node.relay.seen = A ++ e :: B →
         e.origin = x.frame.hdr.origin → e.seq = x.frame.hdr.seq →
         (∀ y ∈ A, ¬(y.origin = x.frame.hdr.origin ∧ y.seq = x.frame.hdr.seq)) →
         t.node.relay.seen[A.length]? = some { e with status := status }
       ((∃ q ∈ s.node.tx.queue, same q.frame) →
         t.node.tx.queue = s.node.tx.queue ∧ t.node.tx.drops = s.node.tx.drops ∧ marked .pending ∧
         t.node.link = s.node.link) ∧
       ((∀ q ∈ s.node.tx.queue, ¬same q.frame) → 8 ≤ s.node.tx.queue.length →
         (∀ a v b, s.node.tx.queue = a ++ v :: b → waits v → v.frame.cls.rank < x.frame.cls.rank →
           (∀ y ∈ a, waits y → v.frame.cls.rank ≤ y.frame.cls.rank) →
           (∀ y ∈ b, waits y → v.frame.cls.rank < y.frame.cls.rank) →
           (v.own = true → v.frame.cls.relayable = true → s.node.link.efc ≤ 119 ∧
             ∀ w ∈ s.node.relay.watch, w.frame.hdr.seq ≠ v.frame.hdr.seq) →
           (∃ q, t.node.tx.queue = a ++ b ++ [q] ∧ q.own = false ∧ q.frame.body = x.frame.body ∧
             q.frame.hdr =
               { x.frame.hdr with sender := s.node.cfg.address, hop := x.frame.hdr.hop - 1 }) ∧
           t.node.tx.drops = min 255 (s.node.tx.drops + 1) ∧ marked .pending ∧
           t.node.link = (if v.own = true ∧ v.frame.cls.relayable = true then
             { s.node.link with efc := s.node.link.efc + 8 } else s.node.link) ∧
           (v.own = false → ∀ (k : Nat) (y : SeenEntry), s.node.relay.seen[k]? = some y →
             y.origin = v.frame.hdr.origin → y.seq = v.frame.hdr.seq → y.status = .pending →
             (∀ (j : Nat) (z : SeenEntry), s.node.relay.seen[j]? = some z → z.origin = y.origin → z.seq = y.seq →
               j = k) →
             t.node.relay.seen[k]? = some { y with status := .notRelaying })) ∧
         ((∀ y ∈ s.node.tx.queue, waits y → x.frame.cls.rank ≤ y.frame.cls.rank) →
           t.node.tx.queue = s.node.tx.queue ∧ t.node.tx.drops = min 255 (s.node.tx.drops + 1) ∧
           marked .notRelaying ∧ t.node.link = s.node.link))) ∧
  (∀ (s : State) (a b : List WatchEntry) (w : WatchEntry) (time : Stamp), s.node.active = true →
     s.node.relay.watch = a ++ w :: b → w.state = .resendWait time → reached s.node.clock time = true →
     (∀ y ∈ a, y.frame.hdr.seq ≠ w.frame.hdr.seq ∧ due s.node.clock y.resendAt = false) →
     w.frame.cls = .alarm →
     let same := fun (q : TxEntry) => q.frame.hdr.origin = w.frame.hdr.origin ∧ q.frame.hdr.seq = w.frame.hdr.seq
     let waits := fun (q : TxEntry) => q.state = .waiting ∨ q.state = .holdoff
     let resent : TxEntry := ⟨w.frame, true, .waiting, s.node.clock, some (min 255 (w.attempt + 1))⟩
     ∃ t, exec .resendTime s = .next t ∧
       (8 ≤ s.node.tx.queue.length → (∀ q ∈ s.node.tx.queue, ¬same q) →
         (∀ y ∈ s.node.tx.queue, waits y → y.frame.cls = .alarm) →
         ∀ c v d, s.node.tx.queue = c ++ v :: d → waits v → v.own = false →
           (∀ y ∈ d, waits y → y.own = true) →
           t.node.tx.queue = c ++ d ++ [resent] ∧ t.node.tx.drops = min 255 (s.node.tx.drops + 1) ∧
           t.node.link = s.node.link) ∧
       (∀ c v d, s.node.tx.queue = c ++ v :: d → s.node.tx.queue.length < 8 → same v →
         (∀ y ∈ c ++ d, ¬same y) → v.own = true → v.frame.cls.relayable = false → v.state ≠ .sending →
         ∃ seq, seq ≠ w.frame.hdr.seq ∧
           t.node.tx.queue = c ++ { v with frame := { v.frame with hdr := { v.frame.hdr with seq := seq } } } ::
             d ++ [resent] ∧
           t.node.tx.drops = s.node.tx.drops))

/-- At a boundary the highest-ranking waiting entry contends, if the synthesiser is locked. That a window's
beginning removes the grid is the model's reading (log entry 20), that QUIET_GAP is the second quiet
millisecond its form (log entry 9), and that a loser whose winner sends no frame comes to a boundary from
DEFERRED its choice (log entry 42). -/
def Obligations.BoundariesStartWindows : Prop :=
  let held := fun s : State => s.node.tx.grid = none ∧
    ∃ c q, s.node.tx.contention = some c ∧ c.quietFrom = some q ∧ q + 2000 < c.edge + 3000
  (∀ (s : State) (c : Instr),
     ((c = .quietGap ∧ s.node.hearsQuiet = true ∧ (s.node.tx.engine = .gap ∨ s.node.tx.engine = .wait ∨
          (s.node.tx.engine = .deferred ∧ ¬held s))) ∨
       (c = .windowBoundary ∧ s.node.tx.grid.isSome = true ∧ s.node.power.oscillator = .running ∧
         (s.node.tx.engine = .wait ∨ s.node.tx.engine = .deferred))) →
     ∃ t, exec c s = .next t ∧ t.pending = s.pending ∧ t.node.relay.seen = s.node.relay.seen ∧
       ((∀ e ∈ s.node.tx.queue, e.state ≠ .waiting) →
         t.node.tx.queue = s.node.tx.queue ∧ t.node.tx.engine = .idle ∧ t.node.tx.synth = .stopped) ∧
       ((∃ e ∈ s.node.tx.queue, e.state = .waiting) → s.node.tx.synth = .locked →
         ∃ older e rest, s.node.tx.queue = older ++ e :: rest ∧ e.state = .waiting ∧
           (∀ x ∈ s.node.tx.queue, x.state = .waiting → x.frame.cls.rank ≤ e.frame.cls.rank) ∧
           (∀ x ∈ s.node.tx.queue, x.state = .waiting → x.frame.cls.rank = e.frame.cls.rank → x.own = true →
             e.own = true) ∧
           (∀ x ∈ older, x.state = .waiting → x.frame.cls.rank = e.frame.cls.rank → x.own ≠ e.own) ∧
           t.node.tx.queue = older ++ { e with state := .contending } :: rest ∧
           t.node.tx.engine = .window ∧ t.node.tx.grid = none ∧
           t.node.tx.contention =
             some ⟨e.frame.cls.rank * 256 + e.frame.hdr.sender.toNat, 0, none, false, none⟩) ∧
       ((∃ e ∈ s.node.tx.queue, e.state = .waiting) → s.node.tx.synth ≠ .locked →
         t.node.tx.queue = s.node.tx.queue ∧ t.node.tx.engine = .backoff ∧ t.node.tx.synth = .stopped ∧
         t.node.tx.backoff = some (later s.node.clock 1024) ∧ t.node.tx.radioFault = true ∧
         t.node.tx.losses = s.node.tx.losses ∧
         (s.node.active = true → (NoticeItem.mk .radio none) ∈ t.node.alarm.notices))) ∧
  (∀ s : State, (s.node.RunByRole ∨ s.node.Patrolling) → s.node.hearsQuiet = true → s.node.tx.engine = .deferred →
     held s →
     ∃ t, exec .quietGap s = .next t ∧ t.pending = s.pending ∧ t.node.tx.grid = some s.node.clock ∧
       t.node.tx.engine = .deferred ∧ t.node.tx.contention = s.node.tx.contention ∧
       t.node.tx.queue = s.node.tx.queue ∧ t.node.tx.losses = s.node.tx.losses) ∧
  (∀ s : State, s.node.RunByRole → s.node.hearsQuiet = true → s.node.tx.engine = .idle →
     ∃ t, exec .quietGap s = .next t ∧ t.node.tx.grid = some s.node.clock ∧ t.node.tx.engine = .idle ∧
       t.node.tx.queue = s.node.tx.queue)

/-- HOLDOFF and BACKOFF end, and the synthesiser locks or fails to. -/
def Obligations.HoldoffBackoffAndSynthesiserEnd : Prop :=
  (∀ (s : State) (older rest : List TxEntry) (e : TxEntry), s.node.tx.queue = older ++ e :: rest →
     e.state = .holdoff → reached s.node.clock e.earliest = true →
     (∀ x ∈ older, x.state = .holdoff → reached s.node.clock x.earliest = false) →
     ∃ t, exec .holdoffEnd s = .next t ∧ t.pending = s.pending ∧
       t.node.tx.queue = older ++ { e with state := .waiting } :: rest ∧
       (s.node.tx.engine = .idle → t.node.tx.synth = .starting) ∧
       (s.node.tx.engine ≠ .idle → t.node.tx.synth = s.node.tx.synth) ∧
       t.node.relay = s.node.relay ∧ t.node.link = s.node.link ∧ t.node.evidence = s.node.evidence ∧
       t.node.tx.drops = s.node.tx.drops ∧ t.node.tx.losses = s.node.tx.losses) ∧
  (∀ s : State, s.node.tx.engine = .backoff → due s.node.clock s.node.tx.backoff = true →
     ∃ t, exec .backoffEnd s = .next t ∧ t.pending = s.pending ∧ t.node.tx.queue = s.node.tx.queue ∧
       t.node.tx.backoff = none ∧ t.node.tx.radioFault = s.node.tx.radioFault ∧
       ((∃ e ∈ s.node.tx.queue, e.state = .waiting) →
         t.node.tx.synth = .starting ∧
         (s.node.rx.carrier = false → t.node.tx.engine = .gap) ∧
         (t.node.tx.engine = .gap ∨ t.node.tx.engine = .deferred)) ∧
       ((∀ e ∈ s.node.tx.queue, e.state ≠ .waiting) →
         t.node.tx.engine = .idle ∧ t.node.tx.synth = .stopped)) ∧
  (∀ (s : State) (locked : Bool),
     (s.node.tx.synth ≠ .stopped →
       exec (.synthesiserLock locked) s =
         .next { s with node := { s.node with tx := { s.node.tx with
           synth := if locked then .locked else .starting } } }) ∧
     (s.node.tx.synth = .stopped → exec (.synthesiserLock locked) s = .next s))

/-- A wake source starts a stopped oscillator, a started one runs while a claim stands, and work waits for it.
That the event claim stands until OSCILLATOR_START, which work waits for it, and that an edge of the test
input and any byte that arrives while the line hunts take the claim, is the model's reading (log entry 17). -/
def Obligations.WakeSourcesStartTheOscillator : Prop :=
  (∀ (s : State) (c : Instr), (s.node.power.phase = .patrol ∨ s.node.power.phase = .dormant) →
     s.node.power.oscillator = .stopped →
     ((c ∈ s.node.dueNow ∧ c ∉ [.listenEnd, .halfPeriodMark, .seenEntryExpiry, .selfCheckChirpEnd] ∧
         (c = .serialRecordTimeout → s.node.serial.rx.isSome = true)) ∨
       (c = .countStageUnderflow ∧ s.node.timer.running = true ∧ s.node.timer.count ≤ 1) ∨
       (c = .channelCheck ∧ s.node.power.phase = .patrol ∧ s.node.rx.state = .off ∧
         s.node.clock.toNat % (if s.node.power.battery = .critical then 1024 else 256) = 0) ∨
       c = .tamperLineChange (!s.node.out.tamperLine) ∨ c = .testInputChange (!s.node.out.testLine) ∨
       ((∃ b, c = .serialByte b) ∧ s.node.serial.rx = none)) →
     ∃ t, exec c s = .next t ∧ t.pending = s.pending ∧
       (t.node.power.phase = .run → t.node.power.oscillator = .running) ∧
       (t.node.power.phase ≠ .run →
         t.node.power.oscillator = .starting ∧ t.node.power.claims.event = true)) ∧
  (∀ s : State, (s.node.power.phase = .patrol ∨ s.node.power.phase = .dormant) →
     s.node.power.oscillator = .starting →
     ∃ claims osc line, exec .oscillatorStart s =
         .next { s with node := { s.node with
           power := { s.node.power with claims := claims, oscillator := osc }, serial := line } } ∧
       claims.event = false ∧
       (osc = .running → s.node.serial.tx = .idle → s.node.serial.answers ≠ [] →
         line = { s.node.serial with tx := .answer }) ∧
       ((osc = .stopped ∨ s.node.serial.tx ≠ .idle ∨ (s.node.serial.answers = [] ∧ s.node.serial.panel = [])) →
         line = s.node.serial) ∧
       let claimed := s.node.rx.state ≠ .off ∨ s.node.sensing.stage ≠ .idle ∨
         s.node.sensing.buffer0.state ≠ .free ∨ s.node.sensing.buffer1.state ≠ .free ∨
         (s.node.tx.engine ≠ .idle ∧ s.node.tx.engine ≠ .backoff) ∨ s.node.serial.rx.isSome = true ∨
         s.node.serial.answers ≠ [] ∨ s.node.out.tone = true ∨ s.node.loader.read.isSome = true
       (claimed → osc = .running) ∧ (¬claimed → osc = .stopped)) ∧
  (∀ s : State, s.node.power.oscillator ≠ .starting → exec .oscillatorStart s = .next s) ∧
  (∀ s : State, s.node.power.oscillator ≠ .running →
     exec .stageStart s = .next s ∧ exec .quietGap s = .next s ∧ exec .windowBoundary s = .next s ∧
     (∀ level, exec (.syncFound level) s = .next s) ∧ ∀ read noise, exec (.configAttempt read noise) s = .next s)

/-- A won window puts the frame on the air, with the receiver off, and a window whose carrier still stands in a
listening slot is lost. That carrier which stood on into a listening slot is judged at the window's end is
the model's form (log entry 19). -/
def Obligations.WindowWonSends : Prop :=
  let lost := fun c : Contention => ∃ (k : Nat) (h : Int), 1 ≤ k ∧ k ≤ 11 ∧ c.code.testBit (11 - k) = false ∧
    c.heard = some h ∧ h < c.edge + 250 * k + 250
  (∀ (s : State) (c : Contention) (older rest : List TxEntry) (e : TxEntry), s.node.tx.engine = .window →
    s.node.tx.contention = some c → ¬lost c → s.node.tx.queue = older ++ e :: rest →
     e.state = .contending → (∀ x ∈ older, x.state ≠ .contending) →
     ∃ t, exec .windowWon s = .next t ∧ t.pending = s.pending ∧
       t.node.tx.queue = older ++ { e with state := .sending } :: rest ∧ t.node.tx.engine = .sending ∧
       t.node.tx.contention = none ∧ t.node.tx.grid = none ∧ t.node.rx.state = .off ∧
       (∃ o, t.node.tx.onAir = some o ∧
         let bytes := e.frame.headerBytes ++ e.frame.body.bytes ++
           [(crc (e.frame.headerBytes ++ e.frame.body.bytes)).extractLsb' 8 8,
            (crc (e.frame.headerBytes ++ e.frame.body.bytes)).extractLsb' 0 8]
         let k := if e.frame.cls = .evidence ∧ s.node.power.phase = .run then 80 else 4320
         o.preamble = (if e.frame.cls = .evidence ∧ s.node.power.phase = .run then .short else .long) ∧
         o.sync = 0xD391 ∧ o.bytes = bytes ∧ o.bits.length = k + 16 + 8 * bytes.length ∧
         (∀ i < k, o.bits[i]? = some (decide (i % 2 = 0))) ∧
         (∀ i < 16, o.bits[k + i]? = some ((0xD391 : BitVec 16).getLsbD (15 - i))) ∧
         ∀ (j : Nat) (b : Byte), bytes[j]? = some b →
           ∀ i < 8, o.bits[k + 16 + 8 * j + i]? = some (b.getLsbD (7 - i))) ∧
       t.node.relay = s.node.relay ∧ t.node.link = s.node.link) ∧
  ∀ (s : State) (c : Contention), s.node.tx.engine = .window → s.node.tx.contention = some c → lost c →
    ∃ t, exec .windowWon s = .next t ∧ t.pending = s.pending ∧ t.node.tx.engine = .deferred ∧
      t.node.tx.losses = min 255 (s.node.tx.losses + 1) ∧ t.node.tx.onAir = s.node.tx.onAir ∧
      t.node.tx.drops = s.node.tx.drops ∧ t.node.relay = s.node.relay ∧ t.node.link = s.node.link ∧
      t.node.tx.queue =
        s.node.tx.queue.map (fun e => if e.state = .contending then { e with state := .waiting } else e)

/-- A completed send leaves the queue and is handed on by its kind. -/
def Obligations.SendCompleteHandsOn : Prop :=
  ∀ (s : State) (older rest : List TxEntry) (e : TxEntry), s.node.tx.engine = .sending →
    s.node.tx.queue = older ++ e :: rest → e.state = .sending → (∀ x ∈ older, x.state ≠ .sending) →
    let opened : WatchEntry := ⟨e.frame, e.attempt.getD 1, .window (later s.node.clock 2048)⟩
    ∃ t, exec .sendComplete s = .next t ∧ t.pending = s.pending ∧ t.node.tx.queue = older ++ rest ∧
      t.node.tx.onAir = none ∧ t.node.tx.radioFault = false ∧ t.node.link = s.node.link ∧
      ((∃ x ∈ older ++ rest, x.state = .waiting) →
        t.node.tx.engine = .gap ∨ t.node.tx.engine = .deferred) ∧
      ((∀ x ∈ older ++ rest, x.state ≠ .waiting) →
        t.node.tx.engine = .idle ∧ t.node.tx.synth = .stopped) ∧
      (e.own = true → e.frame.cls.relayable = true →
        (∀ w ∈ s.node.relay.watch, w.frame.hdr.seq ≠ e.frame.hdr.seq) → s.node.relay.watch.length < 4 →
        t.node.relay = { s.node.relay with watch := s.node.relay.watch ++ [opened] }) ∧
      (e.own = true → e.frame.cls.relayable = true →
        (∀ w ∈ s.node.relay.watch, w.frame.hdr.seq ≠ e.frame.hdr.seq) → 4 ≤ s.node.relay.watch.length →
        (∀ a w b, s.node.relay.watch = a ++ w :: b → w.frame.cls = .notice →
          (∀ y ∈ a, y.frame.cls ≠ .notice) →
          t.node.relay = { s.node.relay with watch := a ++ b ++ [opened] }) ∧
        ((∀ w ∈ s.node.relay.watch, w.frame.cls ≠ .notice) → t.node.relay = s.node.relay)) ∧
      (e.own = true → e.frame.cls.relayable = true →
        ∀ a w b, s.node.relay.watch = a ++ w :: b → w.frame.hdr.seq = e.frame.hdr.seq →
          w.state = .retryQueued → (∀ y ∈ a, y.frame.hdr.seq ≠ e.frame.hdr.seq) →
          t.node.relay = { s.node.relay with watch := a ++ opened :: b }) ∧
      (e.own = true → e.frame.cls.relayable = false → t.node.relay = s.node.relay) ∧
      (e.own = false → t.node.relay.watch = s.node.relay.watch ∧
        (∀ a x b, s.node.relay.seen = a ++ x :: b → x.origin = e.frame.hdr.origin →
          x.seq = e.frame.hdr.seq → x.status = .pending →
          (∀ y ∈ a, ¬(y.origin = e.frame.hdr.origin ∧ y.seq = e.frame.hdr.seq ∧ y.status = .pending)) →
          t.node.relay.seen = a ++ { x with status := .sent } :: b))

/-- Carrier moves a LISTENING receiver to SYNC_HUNT, defers the engine, begins the window just before a
boundary, and loses a contention in a listening slot. That the moments before a boundary count in GAP and
DEFERRED as in WAIT, and only with a candidate, is the model's reading (log entries 19 and 20), and that the
lock is checked at such an onset its choice (log entry 41). -/
def Obligations.CarrierOnsetIsHeard : Prop :=
  (∀ (s : State) (us : Int), s.node.rx.carrier = false →
     (s.node.rx.state = .off →
       exec (.carrierOnset us) s =
         .next { s with node := { s.node with rx := { s.node.rx with carrier := true } } }) ∧
     (s.node.RunByRole → s.node.rx.state = .listening → s.node.tx.engine ≠ .window → s.node.tx.engine ≠ .sending →
       let waits := s.node.tx.engine = .gap ∨ s.node.tx.engine = .wait ∨ s.node.tx.engine = .deferred
       let held := s.node.tx.engine = .deferred ∧ s.node.tx.grid = none ∧
         ∃ c q, s.node.tx.contention = some c ∧ c.quietFrom = some q ∧ q + 2000 < c.edge + 3000
       let near := waits ∧ ¬held ∧ s.node.power.oscillator = .running ∧ -40 ≤ us ∧
         us < 0 ∧ ∃ e ∈ s.node.tx.queue, e.state = .waiting
       ∃ t, exec (.carrierOnset us) s = .next t ∧ t.pending = s.pending ∧ t.node.rx.carrier = true ∧
         t.node.tx.grid = none ∧ t.node.rx.badFrames = s.node.rx.badFrames ∧
         (¬near →
           t.node.rx.state = .syncHunt ∧ t.node.tx.queue = s.node.tx.queue ∧
           (waits → t.node.tx.engine = .deferred) ∧ (¬waits → t.node.tx.engine = s.node.tx.engine)) ∧
         (near → s.node.tx.synth = .locked →
           t.node.rx.state = .listening ∧ t.node.tx.engine = .window ∧
           ∃ older e rest, s.node.tx.queue = older ++ e :: rest ∧ e.state = .waiting ∧
             (∀ x ∈ s.node.tx.queue, x.state = .waiting → x.frame.cls.rank ≤ e.frame.cls.rank) ∧
             t.node.tx.queue = older ++ { e with state := .contending } :: rest ∧
             t.node.tx.contention =
               some ⟨e.frame.cls.rank * 256 + e.frame.hdr.sender.toNat, us, some us, false, none⟩) ∧
         (near → s.node.tx.synth ≠ .locked →
           t.node.tx.queue = s.node.tx.queue ∧ t.node.tx.engine = .backoff ∧
           t.node.tx.backoff = some (later s.node.clock 1024))) ∧
     (s.node.Patrolling → s.node.rx.state = .listening → s.node.tx.engine = .idle →
       s.node.power.hunt = none → s.node.power.frameHold = false →
       ∃ t, exec (.carrierOnset us) s = .next t ∧ t.node.rx.state = .syncHunt ∧
         t.node.power.hunt = some (later s.node.clock 307) ∧ t.node.power.phase = .patrol)) ∧
  (∀ (s : State) (c : Contention) (us : Int) (k : Nat), s.node.rx.carrier = false →
     s.node.rx.state ≠ .off → s.node.tx.engine = .window → s.node.tx.contention = some c →
     1 ≤ k → k ≤ 11 → c.edge + 250 * k ≤ us →
     (us < c.edge + 250 * k + 250 → c.code.testBit (11 - k) = false →
       ∃ t, exec (.carrierOnset us) s = .next t ∧ t.pending = s.pending ∧
         t.node.tx.engine = .deferred ∧ t.node.tx.losses = min 255 (s.node.tx.losses + 1) ∧
         t.node.tx.drops = s.node.tx.drops ∧
         t.node.tx.queue =
           s.node.tx.queue.map (fun e => if e.state = .contending then { e with state := .waiting } else e)) ∧
     (us < c.edge + 250 * k + 210 → c.code.testBit (11 - k) = true →
       ∃ t, exec (.carrierOnset us) s = .next t ∧ t.node.tx.engine = .window ∧
         t.node.tx.losses = s.node.tx.losses ∧ t.node.tx.queue = s.node.tx.queue))

/-- The end of carrier ends an incomplete frame, returns the receiver to LISTENING, releases a deferred engine
and is judged in a window. That carrier which stood on into a listening slot is judged at its end is the
model's form (log entry 19), and that a loser stays DEFERRED at an end inside the window its reading (log
entry 20). -/
def Obligations.CarrierEndReleases : Prop :=
  ∀ (s : State) (us : Int), s.node.rx.carrier = true →
    (s.node.rx.state = .off →
      exec (.carrierEnd us) s =
        .next { s with node := { s.node with rx := { s.node.rx with carrier := false } } }) ∧
    (s.node.rx.state ≠ .off →
      let n := s.node
      let kept := n.power.listen.isSome = true ∨ n.power.hunt.isSome = true ∨ n.power.linger.isSome = true
      ∃ t, exec (.carrierEnd us) s = .next t ∧ t.pending = s.pending ∧ t.node.rx.carrier = false ∧
        t.node.peers = n.peers ∧ t.node.rx.slots = n.rx.slots ∧
        (n.rx.state = .assembling →
          t.node.rx.badFrames = min 255 (n.rx.badFrames + 1) ∧ t.node.rx.assembly = none ∧
          t.node.link.rfc = min 255 (n.link.rfc + 1)) ∧
        (n.rx.state ≠ .assembling →
          t.node.rx.badFrames = n.rx.badFrames ∧ t.node.link = n.link ∧
          (n.tx.engine ≠ .window → t.node.tx.queue = n.tx.queue)) ∧
        (n.tx.engine = .deferred → n.tx.contention = none → t.node.tx.engine = .gap) ∧
        (∀ c, n.tx.engine = .deferred → n.tx.contention = some c →
          t.node.tx.engine = if us < c.edge + 3000 then .deferred else .gap) ∧
        (n.tx.engine = .backoff → t.node.tx.engine = .backoff) ∧
        (n.tx.engine = .idle → (n.rx.state ≠ .assembling ∨ n.link.rfc ≠ 127 ∨ n.link.state ≠ .linked) →
          t.node.tx.engine = .idle) ∧
        (n.RunByRole → n.tx.engine ≠ .sending → t.node.rx.state = .listening) ∧
        (n.Patrolling → n.tx.engine ≠ .sending →
          ((n.rx.state = .assembling ∨ n.rx.state = .flushing) → t.node.power.frameHold = false) ∧
          (kept → t.node.rx.state = .listening) ∧
          (n.rx.state = .flushing → ¬kept → n.tx.engine = .idle → t.node.rx.state = .off)) ∧
        (∀ c, n.tx.engine = .window → n.tx.contention = some c → n.rx.state ≠ .assembling →
          let stoodIn := fun (k : Nat) => ∃ h, c.heard = some h ∧ h < c.edge + 250 * k + 250 ∧ c.edge + 250 * k ≤ us
          let lost := ∃ k : Nat, 1 ≤ k ∧ k ≤ 11 ∧ c.code.testBit (11 - k) = false ∧ stoodIn k
          (lost →
            t.node.tx.engine = .deferred ∧ t.node.tx.losses = min 255 (n.tx.losses + 1) ∧
            t.node.tx.queue =
              n.tx.queue.map (fun e => if e.state = .contending then { e with state := .waiting } else e)) ∧
          (¬lost →
            t.node.tx.engine = .window ∧ t.node.tx.contention = some { c with heard := none } ∧
            t.node.tx.losses = n.tx.losses ∧ t.node.tx.queue = n.tx.queue)))

/-- A found sync pattern starts assembly, bad and foreign frames are counted, and only bad ones reach link
health. -/
def Obligations.AssemblyStartsAndBadFramesCount : Prop :=
  (∀ (s : State) (level : BitVec 7), s.node.rx.state = .syncHunt → s.node.power.oscillator = .running →
     ((s.node.Patrolling ∧ s.node.tx.engine = .idle) ∨ (s.node.RunByRole ∧ s.node.tx.engine ≠ .sending)) →
     ∃ t, exec (.syncFound level) s = .next t ∧ t.pending = s.pending ∧ t.node.rx.state = .assembling ∧
       t.node.rx.assembly = some level.toNat ∧ t.node.rx.slots = s.node.rx.slots ∧
       t.node.peers = s.node.peers ∧ t.node.statistics = s.node.statistics ∧ t.node.relay = s.node.relay ∧
       (s.node.Patrolling → t.node.power.hunt = none ∧ t.node.power.frameHold = true)) ∧
  ∀ (s : State) (c : Instr) (judged : Judgement), s.node.rx.state = .assembling →
    ((∃ len : Byte, c = .badLength len ∧ 12 < len.toNat ∧ judged = .bad) ∨
      (∃ bytes level, c = .frameEnd bytes ∧ s.node.rx.assembly = some level ∧
        judged = judgeFrame s.node.cfg.networkId bytes ∧ ∀ f, judged ≠ .good f)) →
    ∃ t, exec c s = .next t ∧ t.pending = s.pending ∧ t.node.rx.assembly = none ∧
      t.node.rx.slots = s.node.rx.slots ∧ t.node.peers = s.node.peers ∧
      t.node.relay.seen.map (fun e => (e.origin, e.seq, e.cls, e.firstHeard, e.copies)) =
        s.node.relay.seen.map (fun e => (e.origin, e.seq, e.cls, e.firstHeard, e.copies)) ∧
      t.node.sensing.skipped = s.node.sensing.skipped ∧ t.node.tx.losses = s.node.tx.losses ∧
      t.node.rx.overruns = s.node.rx.overruns ∧
      (judged ≠ .foreign →
        t.node.rx.badFrames = min 255 (s.node.rx.badFrames + 1) ∧
        t.node.link.rfc = min 255 (s.node.link.rfc + 1) ∧ t.node.rx.foreign = s.node.rx.foreign) ∧
      (judged = .foreign →
        t.node.rx.badFrames = s.node.rx.badFrames ∧ t.node.link = s.node.link ∧
        t.node.rx.foreign = min 255 (s.node.rx.foreign + 1)) ∧
      ((judged = .foreign ∨ s.node.link.rfc ≠ 127 ∨ s.node.link.state ≠ .linked) →
        t.node.relay = s.node.relay ∧ t.node.tx.queue = s.node.tx.queue ∧ t.node.tx.drops = s.node.tx.drops) ∧
      ((∃ len, c = .badLength len) → s.node.tx.engine ≠ .sending →
        (s.node.RunByRole ∨ (s.node.Patrolling ∧ s.node.power.frameHold = true)) →
        t.node.rx.state = .flushing) ∧
      ((∃ bytes, c = .frameEnd bytes) → s.node.tx.engine ≠ .sending → s.node.RunByRole →
        t.node.rx.state = if s.node.rx.carrier then .syncHunt else .listening) ∧
      ((∃ bytes, c = .frameEnd bytes) → s.node.Patrolling → judged ≠ .bad →
        t.node.power.linger = some (later s.node.clock 1024))

/-- A good frame refreshes its sender's entry, or admits a newcomer to an entry or counts it untracked. -/
def Obligations.GoodFrameRefreshesItsSender : Prop :=
  ∀ (s : State) (bytes : List Byte) (level : Nat) (f : Frame) (i : Nat), s.node.rx.state = .assembling →
    s.node.rx.assembly = some level → judgeFrame s.node.cfg.networkId bytes = .good f →
    f.hdr.sender ≠ 0 → f.hdr.sender ≠ 255 → f.hdr.sender ≠ s.node.cfg.address →
    f.hdr.sender ∉ s.node.peers.lostSubjects →
    ∃ t, exec (.frameEnd bytes) s = .next t ∧ t.pending = s.pending ∧
      let entries := s.node.peers.entries
      let zone := s.node.cfg.zone
      let heard := fun (level : Nat) => (∃ q, t.node.peers.entries[i]? = some (some q) ∧ q.state = .fresh ∧
          q.heard = true ∧ q.missed = 0 ∧ q.heardAt = s.node.clock ∧ q.address = f.hdr.sender ∧
          q.level = level) ∧
        i ∉ t.node.peers.lossOrder ∧ (∀ j, j ≠ i → t.node.peers.entries[j]? = entries[j]?) ∧
        t.node.peers.untracked = s.node.peers.untracked
      let untracked := t.node.peers.entries = entries ∧ t.node.peers.lossOrder = s.node.peers.lossOrder ∧
        t.node.peers.untracked = min 255 (s.node.peers.untracked + 1)
      let weakest := fun (group : Peer → Prop) (p : Peer) => entries[i]? = some (some p) ∧ group p ∧
        ∀ (j : Nat) (q : Peer), entries[j]? = some (some q) → group q →
          p.level < q.level ∨ (p.level = q.level ∧ i ≤ j)
      let ours := fun p : Peer => p.zone = some zone
      let comesHome := f.hdr.sender = f.hdr.origin ∧ f.hdr.zone = zone ∧ f.hdr.zone ≠ 0
      (∀ p, entries[i]? = some (some p) → p.address = f.hdr.sender →
        (∀ (j : Nat) (q : Peer), j < i → entries[j]? = some (some q) → q.address ≠ f.hdr.sender) →
        heard ((3 * p.level + level) / 4)) ∧
      ((∀ p, some p ∈ entries → p.address ≠ f.hdr.sender) →
        (entries[i]? = some none → (∀ j < i, entries[j]? ≠ some none) → heard level) ∧
        ((∀ e ∈ entries, e ≠ none) →
          (∀ more, s.node.peers.lossOrder = i :: more → i < entries.length → heard level) ∧
          (s.node.peers.lossOrder = [] →
            (∀ p, weakest (fun q => ¬ours q) p →
              ((comesHome ∨ p.level + 6 ≤ level) → heard level) ∧
              (¬comesHome → level < p.level + 6 → untracked)) ∧
            ((∀ p, some p ∈ entries → ours p) →
              (¬comesHome → untracked) ∧
              (∀ p, weakest ours p → comesHome →
                (p.level + 6 ≤ level → heard level) ∧ (level < p.level + 6 → untracked))))))

/-- A good frame writes its content into its sender's entry, ends the loss of a lost subject, and shows an
address conflict. That an EVIDENCE which refreshes a LOST entry writes the alarm state is the model's choice
between R50 and R51 (log entry 40). -/
def Obligations.FramesWriteTheirSendersEntry : Prop :=
  ∀ (s : State) (bytes : List Byte) (level : Nat) (f : Frame), s.node.rx.state = .assembling →
    s.node.rx.assembly = some level → judgeFrame s.node.cfg.networkId bytes = .good f →
    f.hdr.sender ≠ 0 → f.hdr.sender ≠ 255 →
    let a := s.node.peers
    let sender := f.hdr.sender
    let own := s.node.cfg.address
    let conflictItem := NoticeItem.mk .addressConflict (some own)
    let lostItem := NoticeItem.mk .peerLost (some sender)
    let zone := if f.hdr.zone = 0 then none else some f.hdr.zone
    let role : Option Role :=
      match f.hdr.role.toNat with
      | 0 => some .detector
      | 1 => some .repeater
      | 2 => some .panelAttached
      | _ => none
    ∃ t, exec (.frameEnd bytes) s = .next t ∧ t.pending = s.pending ∧
      let b := t.node.peers
      (sender = own →
        b = { a with conflictHeard := true, quietCount := 0, conflictRaised := true } ∧
        (a.conflictRaised = false → s.node.active = true → conflictItem ∈ t.node.alarm.notices) ∧
        (a.conflictRaised = true → (conflictItem ∈ t.node.alarm.notices ↔ conflictItem ∈ s.node.alarm.notices))) ∧
      (sender ≠ own →
        b.conflictRaised = a.conflictRaised ∧ b.conflictHeard = a.conflictHeard ∧ b.quietCount = a.quietCount ∧
        (b.listed = true ↔ a.listed = true ∨ ∃ status lv heard, f.body = .beacon status lv heard ∧ own ∈ heard) ∧
        b.lostSubjects = a.lostSubjects.filter (fun x => x ≠ sender) ∧
        (sender ∈ a.lostSubjects → s.node.active = true →
          lostItem ∉ t.node.alarm.notices ∧ t.node.alarm.lastEvent = some s.node.clock) ∧
        (sender ∉ a.lostSubjects → (lostItem ∈ t.node.alarm.notices ↔ lostItem ∈ s.node.alarm.notices)) ∧
        let itself := sender = f.hdr.origin
        let written := fun (q p : Peer) =>
          (∀ status lv heard, itself → f.body = .beacon status lv heard →
            q.zone = zone ∧ q.role = role ∧ q.pv = some ⟨lv, s.node.clock⟩ ∧ (q.twoWay = true ↔ own ∈ heard) ∧
            q.alarm = some (match status.toNat / 64 with
              | 0 => .quiet | 1 => .watch | 2 => .confirming | _ => .alarm)) ∧
          (∀ lv state, itself → f.body = .evidence lv state →
            q.zone = p.zone ∧ q.role = p.role ∧ q.twoWay = p.twoWay ∧ q.alarm = some state ∧
            q.pv = some ⟨lv, s.node.clock⟩) ∧
          ((¬itself ∨ (f.cls ≠ .beacon ∧ f.cls ≠ .evidence)) →
            q.zone = p.zone ∧ q.role = p.role ∧ q.twoWay = p.twoWay ∧ q.alarm = p.alarm ∧ q.pv = p.pv)
        (∀ (i : Nat) (p : Peer), a.entries[i]? = some (some p) → p.address = sender →
          (∀ (j : Nat) (q : Peer), j < i → a.entries[j]? = some (some q) → q.address ≠ sender) →
          ∃ q, b.entries[i]? = some (some q) ∧ written q p) ∧
        ((∀ p, some p ∈ a.entries → p.address ≠ sender) →
          ∀ q, some q ∈ b.entries → q.address = sender → ∀ p : Peer,
            p.zone = (if itself then zone else none) → p.role = (if itself then role else none) →
            p.twoWay = false → p.alarm = none → p.pv = none → written q p))

/-- An accepted frame takes the lowest FREE slot; with none an ALARM displaces the newest of the lowest rank. -/
def Obligations.AcceptedFramesTakeSlots : Prop :=
  ∀ (s : State) (bytes : List Byte) (level : Nat) (f : Frame), s.node.rx.state = .assembling →
    s.node.rx.assembly = some level → judgeFrame s.node.cfg.networkId bytes = .good f →
    ∃ t, exec (.frameEnd bytes) s = .next t ∧ t.pending = s.pending ∧
      let r := s.node.rx
      let u := t.node.rx
      let stays := u.slots = r.slots ∧ u.order = r.order ∧ u.service = r.service ∧ u.overruns = r.overruns ∧
        u.capture = r.capture
      ((∀ x ∈ s.node.cfg.filters, (f.key ^^^ x.key) &&& x.mask ≠ 0) → stays) ∧
      (∀ before flt after, s.node.cfg.filters = before ++ flt :: after →
        (∀ x ∈ before, (f.key ^^^ x.key) &&& x.mask ≠ 0) → (f.key ^^^ flt.key) &&& flt.mask = 0 →
        (flt.relay = false → flt.use = false → stays) ∧
        ((flt.relay = true ∨ flt.use = true) →
          (r.slots = [none, none, none, none] → r.order = [] → r.service = none →
            (f.cls.relayable = true →
              u.slots = [some ⟨f, flt.relay, flt.use, s.node.clock, true⟩, none, none, none] ∧
              u.order = [0] ∧ u.service = some ⟨0, .seenCheck⟩) ∧
            (f.cls.relayable = false → flt.use = true →
              u.slots = [some ⟨f, flt.relay, flt.use, s.node.clock, true⟩, none, none, none] ∧
              u.order = [0] ∧ u.service = some ⟨0, .useDelivery⟩) ∧
            (f.cls.relayable = false → flt.use = false →
              u.slots = r.slots ∧ u.order = [] ∧ u.service = none)) ∧
          (r.service.isSome = true →
            let arrived : Slot := ⟨f, flt.relay, flt.use, s.node.clock, false⟩
            let takes := fun (i : Nat) => u.slots[i]? = some (some arrived) ∧
              (∀ j, j ≠ i → u.slots[j]? = r.slots[j]?) ∧ u.order = r.order.filter (· ≠ i) ++ [i] ∧
              u.service = r.service
            let rankBelow := fun (i : Nat) => ∃ y : Slot, r.slots[i]? = some (some y) ∧ y.inService = false ∧
              y.frame.cls ≠ .alarm
            (∀ i : Nat, r.slots[i]? = some none → (∀ j < i, r.slots[j]? ≠ some none) →
              takes i ∧ u.overruns = r.overruns ∧ u.capture = r.capture) ∧
            (r.slots.length = 4 → (∀ y ∈ r.slots, y ≠ none) → (∀ i < 4, i ∈ r.order) →
              u.overruns = min 255 (r.overruns + 1) ∧
              ((f.cls ≠ .alarm ∨ ∀ i, ¬rankBelow i) →
                u.slots = r.slots ∧ u.order = r.order ∧ u.service = r.service ∧
                u.capture = some ⟨f.headerBytes, s.node.clock⟩) ∧
              (f.cls = .alarm → ∀ (older newer : List Nat) (i : Nat) (y : Slot), r.order = older ++ i :: newer →
                r.slots[i]? = some (some y) → y.inService = false → y.frame.cls ≠ .alarm →
                (∀ j ∈ older, ∀ z, r.slots[j]? = some (some z) → z.inService = false →
                  y.frame.cls.rank ≤ z.frame.cls.rank) →
                (∀ j ∈ newer, ∀ z, r.slots[j]? = some (some z) → z.inService = false →
                  y.frame.cls.rank < z.frame.cls.rank) →
                takes i ∧ u.capture = some ⟨y.frame.headerBytes, s.node.clock⟩)))))

/-- The seen list enters a first copy, counts a later one, which may withdraw a relay, and forgets after 90 s. -/
def Obligations.CopiesAreCountedAndSuppress : Prop :=
  (∀ (s : State) (i : Nat) (x : Slot), s.node.rx.service = some ⟨i, .seenCheck⟩ →
     s.node.rx.slots[i]? = some (some x) →
     (x.frame.hdr.origin ≠ s.node.cfg.address ∨ x.frame.hdr.sender = s.node.cfg.address) →
     let holds := fun (f : Frame) => f.hdr.origin = x.frame.hdr.origin ∧ f.hdr.seq = x.frame.hdr.seq
     ∃ t, exec .seenListCheck s = .next t ∧ t.pending = s.pending ∧ t.node.relay.watch = s.node.relay.watch ∧
       t.node.link = s.node.link ∧ t.node.peers = s.node.peers ∧ t.node.tx.drops = s.node.tx.drops ∧
       ((∀ e ∈ s.node.relay.seen, ¬(e.origin = x.frame.hdr.origin ∧ e.seq = x.frame.hdr.seq)) →
         t.node.relay.seen =
           (if s.node.relay.seen.length < 24 then s.node.relay.seen else s.node.relay.seen.drop 1) ++
             [⟨x.frame.hdr.origin, x.frame.hdr.seq, x.frame.cls, x.arrival, 1, .none⟩] ∧
         t.node.rx.service = some ⟨i, .relayOffer⟩ ∧ t.node.rx.slots = s.node.rx.slots ∧
         t.node.tx.queue = s.node.tx.queue) ∧
       (∀ a e b, s.node.relay.seen = a ++ e :: b → e.origin = x.frame.hdr.origin →
         e.seq = x.frame.hdr.seq →
         (∀ y ∈ a, ¬(y.origin = x.frame.hdr.origin ∧ y.seq = x.frame.hdr.seq)) →
         let copies := min 15 (e.copies + 1)
         let suppressed := e.status = .pending ∧ e.cls ≠ .alarm ∧ s.node.cfg.suppress ≠ 0 ∧
           s.node.cfg.suppress ≤ copies
         t.node.rx.slots[i]? = some none ∧
         (¬suppressed → t.node.relay.seen = a ++ { e with copies := copies } :: b ∧
           t.node.tx.queue = s.node.tx.queue) ∧
         (suppressed →
           ((∀ q ∈ s.node.tx.queue, ¬holds q.frame) →
             t.node.relay.seen = a ++ { e with copies := copies, status := .cancelled } :: b ∧
             t.node.tx.queue = s.node.tx.queue) ∧
           (∀ c q d, s.node.tx.queue = c ++ q :: d → holds q.frame → (∀ y ∈ c, ¬holds y.frame) →
             ((q.state = .waiting ∨ q.state = .holdoff) →
               t.node.relay.seen = a ++ { e with copies := copies, status := .cancelled } :: b ∧
               t.node.tx.queue = c ++ d) ∧
             ((q.state = .contending ∨ q.state = .sending) →
               t.node.relay.seen = a ++ { e with copies := copies } :: b ∧
               t.node.tx.queue = s.node.tx.queue))))) ∧
  (∀ (s : State) (a b : List SeenEntry) (e : SeenEntry), s.node.relay.seen = a ++ e :: b →
     reached s.node.clock (later e.firstHeard 92160) = true →
     (∀ x ∈ a, reached s.node.clock (later x.firstHeard 92160) = false) →
     exec .seenEntryExpiry s =
       .next { s with node := { s.node with relay := { s.node.relay with seen := a ++ b } } })

/-- An echo closes the watch with a success, and a late one withdraws the retry. -/
def Obligations.EchoClosesWatch : Prop :=
  (∀ (s : State) (i : Nat) (x : Slot),
     s.node.rx.service = some ⟨i, .seenCheck⟩ → s.node.rx.slots[i]? = some (some x) →
     x.frame.hdr.origin = s.node.cfg.address → x.frame.hdr.sender ≠ s.node.cfg.address →
     let holds := fun (q : TxEntry) => q.frame.hdr.origin = s.node.cfg.address ∧ q.frame.hdr.seq = x.frame.hdr.seq
     ∃ t, exec .seenListCheck s = .next t ∧ t.pending = s.pending ∧ t.node.rx.slots[i]? = some none ∧
       let same := t.node.relay.watch = s.node.relay.watch ∧ t.node.link = s.node.link ∧
         t.node.tx.queue = s.node.tx.queue
       let success := t.node.link = { s.node.link with efc := s.node.link.efc - 1 }
       ((∀ y ∈ s.node.relay.watch, y.frame.hdr.seq ≠ x.frame.hdr.seq) → same) ∧
       (∀ a w b, s.node.relay.watch = a ++ w :: b → w.frame.hdr.seq = x.frame.hdr.seq →
         (∀ y ∈ a, y.frame.hdr.seq ≠ x.frame.hdr.seq) →
         (w.state = .echoed → same) ∧
         (s.node.link.efc ≤ 127 →
           ((∃ time, w.state = .window time ∨ w.state = .resendWait time) →
             t.node.relay.watch = a ++ b ∧ success ∧ t.node.tx.queue = s.node.tx.queue) ∧
           (w.state = .retryQueued →
             ((∀ q ∈ s.node.tx.queue, ¬holds q) →
               t.node.relay.watch = a ++ b ∧ success ∧ t.node.tx.queue = s.node.tx.queue) ∧
             (∀ c q d, s.node.tx.queue = c ++ q :: d → holds q → (∀ y ∈ c, ¬holds y) →
               ((q.state = .waiting ∨ q.state = .holdoff) →
                 t.node.relay.watch = a ++ b ∧ success ∧ t.node.tx.queue = c ++ d) ∧
               ((q.state = .contending ∨ q.state = .sending) →
                 t.node.relay.watch = a ++ { w with state := .echoed } :: b ∧ success ∧
                 t.node.tx.queue = s.node.tx.queue)))))) ∧
  (∀ (s : State) (older rest : List TxEntry) (e : TxEntry) (a b : List WatchEntry) (w : WatchEntry),
     s.node.tx.engine = .sending → s.node.tx.queue = older ++ e :: rest → e.state = .sending →
     (∀ y ∈ older, y.state ≠ .sending) → e.own = true → e.frame.cls.relayable = true →
     s.node.relay.watch = a ++ w :: b → w.frame.hdr.seq = e.frame.hdr.seq → w.state = .echoed →
     (∀ y ∈ a, y.frame.hdr.seq ≠ e.frame.hdr.seq) → s.node.tx.radioFault = false →
     ∃ t, exec .sendComplete s = .next t ∧ t.node.relay = { s.node.relay with watch := a ++ b } ∧
       t.node.tx.queue = older ++ rest ∧ t.node.link = s.node.link)

/-- A change of link state acts in its event: relays are withdrawn, and LINK_STRAINED is raised or cleared. That
an expired window's miss is counted before the link state is read, so that an ALARM whose own miss isolates
the node waits in RESEND_WAIT, is the model's choice (log entry 15). -/
def Obligations.LinkStateChangesActAtOnce : Prop :=
  (∀ (s : State) (a b : List WatchEntry) (w : WatchEntry) (expiry : Stamp), s.node.active = true →
     s.node.relay.watch = a ++ w :: b → w.state = .window expiry → reached s.node.clock expiry = true →
     w.frame.cls = .alarm → 248 ≤ s.node.link.efc → s.node.link.efc ≤ 255 →
     (∀ y ∈ a, y.frame.hdr.seq ≠ w.frame.hdr.seq ∧ due s.node.clock y.windowEnd = false) →
     let withdrawn := fun (q : TxEntry) => q.own = false ∧ (q.state = .waiting ∨ q.state = .holdoff)
     let relays := fun (y : SeenEntry) => ∃ q ∈ s.node.tx.queue, withdrawn q ∧
       q.frame.hdr.origin = y.origin ∧ q.frame.hdr.seq = y.seq
     ∃ t, exec .echoWindowExpiry s = .next t ∧ t.pending = s.pending ∧
       t.node.link = { s.node.link with efc := s.node.link.efc + 8 } ∧
       t.node.tx.queue = s.node.tx.queue.filter (fun q => q.own || (q.state != .waiting && q.state != .holdoff)) ∧
       t.node.tx.drops = s.node.tx.drops ∧ t.node.relay.seen.length = s.node.relay.seen.length ∧
       (∀ (i : Nat) (y : SeenEntry), s.node.relay.seen[i]? = some y →
         (¬relays y → t.node.relay.seen[i]? = some y) ∧
         (relays y → y.status = .pending →
           (∀ (j : Nat) (z : SeenEntry), s.node.relay.seen[j]? = some z → z.origin = y.origin → z.seq = y.seq →
             j = i) →
           t.node.relay.seen[i]? = some { y with status := .cancelled })) ∧
       t.node.relay.watch = a ++ { w with state := .resendWait (later expiry 30720) } :: b ∧
       t.node.out.amber.pattern = .isolated) ∧
  (∀ (s : State) (len : Byte), s.node.rx.state = .assembling → 12 < len.toNat → s.node.active = true →
     s.node.link.state = .linked →
     ∃ t, exec (.badLength len) s = .next t ∧
       (s.node.link.rfc = 127 →
         t.node.link.rfc = 128 ∧ (NoticeItem.mk .linkStrained none) ∈ t.node.alarm.notices) ∧
       (s.node.link.rfc < 127 → t.node.alarm.notices = s.node.alarm.notices)) ∧
  (∀ (s : State) (i : Nat) (x : Slot) (a b : List WatchEntry) (w : WatchEntry) (expiry : Stamp),
     s.node.rx.service = some ⟨i, .seenCheck⟩ → s.node.rx.slots[i]? = some (some x) →
     x.frame.hdr.origin = s.node.cfg.address → x.frame.hdr.sender ≠ s.node.cfg.address →
     s.node.relay.watch = a ++ w :: b → w.frame.hdr.seq = x.frame.hdr.seq → w.state = .window expiry →
     (∀ y ∈ a, y.frame.hdr.seq ≠ x.frame.hdr.seq) → s.node.active = true →
     let after : Link :=
       { s.node.link with efc := if 256 ≤ s.node.link.efc then 200 else s.node.link.efc - 1 }
     ∃ t, exec .seenListCheck s = .next t ∧
       ((s.node.link.state = .linked ∨ after.state ≠ .linked) →
         t.node.link = after ∧ t.node.alarm.notices = s.node.alarm.notices) ∧
       (s.node.link.state ≠ .linked → after.state = .linked → s.node.tx.queue = [] →
         (NoticeItem.mk .linkStrained none) ∉ t.node.alarm.notices))

/-- A relay offer queues a copy with one hop less, or marks the entry NOT_RELAYING. -/
def Obligations.RelayOfferQueuesOneHopLess : Prop :=
  ∀ (s : State) (i : Nat) (x : Slot) (a b : List SeenEntry) (e : SeenEntry),
    s.node.rx.service = some ⟨i, .relayOffer⟩ → s.node.rx.slots[i]? = some (some x) →
    s.node.active = true → s.node.tx.queue.length < 8 → x.frame.cls.relayable = true →
    (∀ q ∈ s.node.tx.queue,
      ¬(q.frame.hdr.origin = x.frame.hdr.origin ∧ q.frame.hdr.seq = x.frame.hdr.seq)) →
    s.node.relay.seen = a ++ e :: b → e.origin = x.frame.hdr.origin → e.seq = x.frame.hdr.seq →
    (∀ y ∈ a, ¬(y.origin = x.frame.hdr.origin ∧ y.seq = x.frame.hdr.seq)) →
    let relays := x.relay = true ∧ x.frame.hdr.origin ≠ s.node.cfg.address ∧ x.frame.hdr.hop ≠ 0 ∧
      s.node.link.state ≠ .isolated ∧ (s.node.power.battery ≠ .critical ∨ x.frame.cls = .alarm)
    let base := if x.frame.cls = .alarm then 0 else if x.frame.cls = .control then 40 else 200
    let delay := (base + (rngDraw s.node.tx.rng).toNat % 16 * 8) * 1024 / 1000
    ∃ t, exec .relayOffer s = .next t ∧ t.pending = s.pending ∧ t.node.relay.watch = s.node.relay.watch ∧
      t.node.link = s.node.link ∧
      (relays →
        (∃ q, t.node.tx.queue = s.node.tx.queue ++ [q] ∧ q.own = false ∧ q.frame.body = x.frame.body ∧
          q.frame.hdr = { x.frame.hdr with sender := s.node.cfg.address, hop := x.frame.hdr.hop - 1 } ∧
          q.earliest = later s.node.clock delay ∧ q.state = if delay = 0 then .waiting else .holdoff) ∧
        t.node.tx.rng = rngDraw s.node.tx.rng ∧
        t.node.relay.seen = a ++ { e with status := .pending } :: b) ∧
      (¬relays → t.node.tx.queue = s.node.tx.queue ∧ t.node.tx.rng = s.node.tx.rng ∧
        t.node.relay.seen = a ++ { e with status := .notRelaying } :: b) ∧
      (x.use = true → (x.frame.cls ≠ .notice ∨ s.node.onPanel = true) →
        t.node.rx.service = some ⟨i, .useDelivery⟩) ∧
      ((x.use = false ∨ (x.frame.cls = .notice ∧ s.node.onPanel = false)) → t.node.rx.slots[i]? = some none)

/-- A delivered ALARM holds RUN for 300 s and joins or updates the origin list, or is ignored or only a test.
That a listed origin takes the delivery's stamp is the model's reading (log entry 22). -/
def Obligations.DeliveredAlarmIsTaken : Prop :=
  ∀ (s : State) (i : Nat) (x : Slot) (cause : Cause) (lv q hx : Byte),
    s.node.rx.service = some ⟨i, .useDelivery⟩ → s.node.rx.slots[i]? = some (some x) →
    x.frame.body = .alarm cause lv q hx →
    let a := s.node.alarm
    let origin := x.frame.hdr.origin
    let own := s.node.cfg.address
    ∃ t, exec .useDelivery s = .next t ∧ t.pending = s.pending ∧
      t.node.power.runHold = some (later s.node.clock 307200) ∧
      (s.node.active = true → t.node.power.phase = .run) ∧ t.node.rx.slots[i]? = some none ∧
      t.node.evidence = s.node.evidence ∧
      let b := t.node.alarm
      let rests := b.state = a.state ∧ b.confirmCount = a.confirmCount ∧ b.hysteresis = a.hysteresis ∧
        b.limit = a.limit ∧ b.notices = a.notices ∧ b.lastEvent = a.lastEvent ∧ b.walkTest = a.walkTest ∧
        b.testSound = a.testSound ∧ t.node.tx.queue = s.node.tx.queue
      let flagsStay := b.silenced = a.silenced ∧ b.remote = a.remote
      ((origin = own ∨ x.frame.hdr.test = true) → rests ∧ flagsStay ∧ b.origins = a.origins) ∧
      (origin = own → s.node.serial.tx ≠ .idle → t.node.serial.panel = s.node.serial.panel) ∧
      (origin ≠ own → x.frame.hdr.test = false →
        (∀ before o after, a.origins = before ++ o :: after → o.address = origin →
          (∀ y ∈ before, y.address ≠ origin) →
          rests ∧ flagsStay ∧
            b.origins = before ++ { o with cause := cause, stamp := s.node.clock } :: after) ∧
        ((∀ o ∈ a.origins, o.address ≠ origin) →
          b.silenced = false ∧ b.remote = true ∧
          (8 ≤ a.origins.length → rests ∧ b.origins = a.origins) ∧
          (a.origins.length < 8 →
            (x.frame.hdr.zone ≠ s.node.cfg.zone ∨ a.state ≠ .confirming ∨ a.confirmCount ≠ s.node.cfg.confirm) →
            rests ∧ b.origins = a.origins ++ [⟨origin, x.frame.hdr.zone, cause, s.node.clock⟩])))

/-- An arrival that can change the partner count decides a confirmation that waits at N by the corroboration
test. -/
def Obligations.ArrivalsReevaluateTheConfirmation : Prop :=
  ∀ (s : State) (c : Instr) (f : Frame), s.node.alarm.state = .confirming →
    let cfg := s.node.cfg
    let zoned := f.hdr.zone = cfg.zone ∧ f.hdr.zone ≠ 0
    let matched := fun (i : Nat) (p : Peer) => s.node.peers.entries[i]? = some (some p) ∧ p.address = f.hdr.sender ∧
      ∀ (j : Nat) (q : Peer), j < i → s.node.peers.entries[j]? = some (some q) → q.address ≠ f.hdr.sender
    let newcomer := ∀ p, some p ∈ s.node.peers.entries → p.address ≠ f.hdr.sender
    let framed := (∃ (bytes : List Byte) (level : Nat), c = .frameEnd bytes ∧ s.node.rx.state = .assembling ∧
        s.node.rx.assembly = some level ∧ judgeFrame cfg.networkId bytes = .good f) ∧
      f.hdr.sender = f.hdr.origin ∧ f.hdr.sender ≠ 0 ∧ f.hdr.sender ≠ 255 ∧ f.hdr.sender ≠ cfg.address ∧
      ((f.cls = .evidence ∧ ∃ i p, matched i p ∧ p.zone = some cfg.zone) ∨
        (f.cls = .beacon ∧ zoned ∧ ∃ i p, matched i p) ∨
        ((f.cls = .evidence ∨ f.cls = .beacon) ∧ zoned ∧ newcomer))
    let delivered := c = .useDelivery ∧ (∃ (i : Nat) (x : Slot) (cause : Cause) (lv q hx : Byte), f = x.frame ∧
        s.node.rx.service = some ⟨i, .useDelivery⟩ ∧ s.node.rx.slots[i]? = some (some x) ∧
        f.body = .alarm cause lv q hx) ∧ f.hdr.test = false ∧ f.hdr.origin ≠ cfg.address ∧
      f.hdr.zone = cfg.zone ∧ (∀ o ∈ s.node.alarm.origins, o.address ≠ f.hdr.origin) ∧
      s.node.alarm.origins.length < 8
    (framed ∨ delivered) →
    ∃ t, exec c s = .next t ∧ t.pending = s.pending ∧ t.node.evidence = s.node.evidence ∧
      let partners := cfg.partners ≤ Set.ncard {a : Byte |
        (∃ p : Peer, some p ∈ t.node.peers.entries ∧ p.address = a ∧ p.zone = some cfg.zone ∧ p.state ≠ .lost ∧
          (p.alarm = some .alarm ∨
            ∃ v, p.pv = some v ∧ elapsed s.node.clock v.stamp ≤ 20480 ∧ cfg.watch ≤ v.value.toNat)) ∨
        (∃ o ∈ s.node.alarm.origins, o.address = a ∧ o.zone = cfg.zone ∧ a ≠ cfg.address) ∨
        (delivered ∧ a = f.hdr.origin)}
      let heat := cfg.heatCorr ≤ s.node.evidence.hx
      let passes :=
        match cfg.mode with
        | .none => True
        | .partner => partners
        | .heat => heat
        | .either => partners ∨ heat
        | .both => partners ∧ heat
      let waits := t.node.alarm.state = .confirming ∧ t.node.alarm.confirmCount = s.node.alarm.confirmCount ∧
        t.node.alarm.limit = s.node.alarm.limit
      let admitted := framed → ∃ q, some q ∈ t.node.peers.entries ∧ q.address = f.hdr.sender
      (s.node.alarm.confirmCount = cfg.confirm → admitted → passes →
        (s.node.alarm.walkTest = none →
          t.node.alarm.state = .alarm ∧ t.node.alarm.limit = none ∧ t.node.alarm.silenced = false ∧
          ∃ others cause, t.node.alarm.origins = others ++ [⟨cfg.address, cfg.zone, cause, s.node.clock⟩]) ∧
        (s.node.alarm.walkTest.isSome = true →
          t.node.alarm.state = .quiet ∧ t.node.alarm.confirmCount = 0 ∧
          t.node.alarm.testSound = some (later s.node.clock 10240))) ∧
      ((s.node.alarm.confirmCount < cfg.confirm ∨ ¬passes ∨ ¬admitted) → waits)

/-- A delivered CONTROL for zone 0 or the node's own zone is applied. -/
def Obligations.DeliveredControlIsApplied : Prop :=
  ∀ (s : State) (i : Nat) (x : Slot) (cmd : Command) (zone : ZoneCode),
    s.node.rx.service = some ⟨i, .useDelivery⟩ → s.node.rx.slots[i]? = some (some x) →
    x.frame.body = .control cmd zone →
    ∃ t, exec .useDelivery s = .next t ∧ t.node.power.runHold = some (later s.node.clock 307200) ∧
      t.node.rx.slots[i]? = some none ∧ t.node.evidence = s.node.evidence ∧ t.node.peers = s.node.peers ∧
      let applied := zone = 0 ∨ zone = s.node.cfg.zone
      let same := t.node.alarm.state = s.node.alarm.state ∧
        t.node.alarm.confirmCount = s.node.alarm.confirmCount ∧
        t.node.alarm.hysteresis = s.node.alarm.hysteresis ∧ t.node.alarm.limit = s.node.alarm.limit ∧
        t.node.alarm.origins = s.node.alarm.origins ∧ t.node.alarm.remote = s.node.alarm.remote ∧
        t.node.alarm.notices = s.node.alarm.notices
      (¬applied → same ∧ t.node.alarm.silenced = s.node.alarm.silenced ∧
        t.node.alarm.walkTest = s.node.alarm.walkTest) ∧
      (applied → cmd = .silence → same ∧ t.node.alarm.silenced = true ∧
        t.node.alarm.walkTest = s.node.alarm.walkTest) ∧
      (applied → cmd = .reset → t.node.alarm.state = .quiet ∧ t.node.alarm.confirmCount = 0 ∧
        t.node.alarm.hysteresis = 0 ∧ t.node.alarm.limit = none ∧ t.node.alarm.origins = [] ∧
        t.node.alarm.silenced = false ∧ t.node.alarm.remote = false ∧ t.node.alarm.testSound = none ∧
        t.node.alarm.walkTest = s.node.alarm.walkTest ∧
        (s.node.active = true → (NoticeItem.mk .preAlarm none) ∉ t.node.alarm.notices)) ∧
      (applied → cmd = .testOn → same ∧ t.node.alarm.silenced = s.node.alarm.silenced ∧
        (s.node.alarm.state ≠ .alarm → t.node.alarm.walkTest = some (later s.node.clock 1843200)) ∧
        (s.node.alarm.state = .alarm → t.node.alarm.walkTest = s.node.alarm.walkTest)) ∧
      (applied → cmd = .testOff → same ∧ t.node.alarm.silenced = s.node.alarm.silenced ∧
        t.node.alarm.walkTest = none)

/-- An unechoed window counts a miss and queues a retry; an ALARM in ISOLATED is resent after 30 s. -/
def Obligations.UnechoedFramesAreRetried : Prop :=
  (∀ (s : State) (a b : List WatchEntry) (w : WatchEntry) (expiry : Stamp), s.node.active = true →
     s.node.tx.queue = [] → s.node.relay.watch = a ++ w :: b → w.state = .window expiry →
     reached s.node.clock expiry = true → w.frame.cls.relayable = true →
     (∀ y ∈ a, y.frame.hdr.seq ≠ w.frame.hdr.seq ∧ due s.node.clock y.windowEnd = false) →
     s.node.link.efc ≤ 119 → s.node.link.rfc ≤ 127 →
     ∃ t, exec .echoWindowExpiry s = .next t ∧ t.pending = s.pending ∧
       t.node.link = { s.node.link with efc := s.node.link.efc + 8 } ∧
       t.node.relay.seen = s.node.relay.seen ∧
       (w.attempt < 4 →
         t.node.tx.queue = [⟨w.frame, true, .waiting, s.node.clock, some (w.attempt + 1)⟩] ∧
         t.node.relay.watch = a ++ ⟨w.frame, w.attempt + 1, .retryQueued⟩ :: b ∧
         t.node.relay.originSeq = s.node.relay.originSeq) ∧
       (4 ≤ w.attempt → w.frame.isNoPath = false →
         t.node.relay.watch = a ++ b ∧ t.node.alarm.lastEvent = some s.node.clock ∧
         t.node.relay.originSeq = s.node.relay.originSeq + 1)) ∧
  (∀ (s : State) (a b : List WatchEntry) (w : WatchEntry), s.node.relay.watch = a ++ w :: b →
     (∀ expiry, w.state = .window expiry → reached s.node.clock expiry = true → w.frame.cls = .alarm →
       256 ≤ s.node.link.efc →
       (∀ y ∈ a, y.frame.hdr.seq ≠ w.frame.hdr.seq ∧ due s.node.clock y.windowEnd = false) →
       ∃ t, exec .echoWindowExpiry s = .next t ∧ t.node.tx.queue = s.node.tx.queue ∧
         t.node.relay = { s.node.relay with
           watch := a ++ { w with state := .resendWait (later expiry 30720) } :: b }) ∧
     (∀ time, w.state = .resendWait time → reached s.node.clock time = true → s.node.active = true →
       s.node.tx.queue = [] → w.frame.cls.relayable = true →
       (∀ y ∈ a, y.frame.hdr.seq ≠ w.frame.hdr.seq ∧ due s.node.clock y.resendAt = false) →
       ∃ t, exec .resendTime s = .next t ∧
         t.node.tx.queue = [⟨w.frame, true, .waiting, s.node.clock, some (min 255 (w.attempt + 1))⟩] ∧
         t.node.relay = { s.node.relay with
           watch := a ++ ⟨w.frame, min 255 (w.attempt + 1), .retryQueued⟩ :: b } ∧
         t.node.link = s.node.link))

/-- A channel check opens the receiver for 2 ms and hunts on carrier, and the holds end at their expiries. That
a check made while SENDING starts its listen with the receiver OFF is the model's reading (log entry 21). -/
def Obligations.ChecksListenAndHoldsEnd : Prop :=
  (∀ s : State, s.node.Patrolling → s.node.rx.state = .off →
     s.node.clock.toNat % (if s.node.power.battery = .critical then 1024 else 256) = 0 →
     ∃ t, exec .channelCheck s = .next t ∧ t.pending = s.pending ∧ t.node.power.phase = .patrol ∧
       t.node.power.listen = some (later s.node.clock 2) ∧
       (s.node.tx.engine ≠ .sending →
         t.node.rx.state = (if s.node.rx.carrier then .syncHunt else .listening) ∧
         t.node.power.hunt =
           (if s.node.rx.carrier = true ∧ s.node.power.hunt = none ∧ s.node.power.frameHold = false then
             some (later s.node.clock 307)
           else s.node.power.hunt)) ∧
       (s.node.tx.engine = .sending →
         t.node.rx.state = .off ∧ t.node.power.hunt = s.node.power.hunt) ∧
       t.node.power.oscillator ≠ .stopped ∧ t.node.tx.queue = s.node.tx.queue ∧
       t.node.statistics = s.node.statistics) ∧
  (∀ s : State, s.node.Patrolling → s.node.tx.engine = .sending → s.node.rx.state = .off →
     (∃ e ∈ s.node.tx.queue, e.state = .sending) → s.node.power.listen.isSome = true →
     s.node.rx.carrier = true →
     ∃ t, exec .sendComplete s = .next t ∧ t.node.rx.state = .syncHunt ∧ t.node.power.phase = .patrol ∧
       t.node.power.listen = s.node.power.listen ∧
       t.node.power.hunt =
         (if s.node.power.hunt = none ∧ s.node.power.frameHold = false then some (later s.node.clock 307)
         else s.node.power.hunt)) ∧
  (∀ s : State, s.node.Patrolling → ∀ (c : Instr) (p : Power),
     ((c = .listenEnd ∧ due s.node.clock s.node.power.listen = true ∧ p = { s.node.power with listen := none }) ∨
       (c = .huntExpiry ∧ due s.node.clock s.node.power.hunt = true ∧ p = { s.node.power with hunt := none }) ∨
       (c = .lingerExpiry ∧ due s.node.clock s.node.power.linger = true ∧
         p = { s.node.power with linger := none })) →
     ∃ t, exec c s = .next t ∧ t.pending = s.pending ∧ t.node.power.phase = .patrol ∧
       t.node.power.listen = p.listen ∧ t.node.power.hunt = p.hunt ∧ t.node.power.linger = p.linger ∧
       t.node.rx.slots = s.node.rx.slots ∧ t.node.statistics = s.node.statistics ∧
       t.node.link = s.node.link ∧
       (p.listen = none → p.hunt = none → p.linger = none → p.frameHold = false → s.node.tx.engine = .idle →
         s.node.rx.state ≠ .off →
         t.node.rx.state = .off ∧ t.node.rx.assembly = none ∧ t.node.tx.grid = none)) ∧
  (∀ s : State, due s.node.clock s.node.power.runHold = true → s.node.power.phase = .run →
     ∃ t, exec .runHoldExpiry s = .next t ∧ t.pending = s.pending ∧ t.node.power.runHold = none ∧
       t.node.tx.queue = s.node.tx.queue ∧ t.node.alarm.state = s.node.alarm.state ∧
       (s.node.onPanel = false → s.node.alarmSideCause = false →
         t.node.power.phase = .patrol ∧ t.node.power.linger = some (later s.node.clock 1024)) ∧
       ((s.node.onPanel = true ∨ s.node.alarmSideCause = true) → t.node.power.phase = .run))

/-- The lines are debounced, and a tamper change or a start off the base is reported or shown. That the first
sequence is the first draw after the seed is the model's reading (log entry 14). -/
def Obligations.LinesAreDebouncedAndTamperIsReported : Prop :=
  (∀ (s : State) (b : Bool),
     (s.node.out.tamperLine = b → exec (.tamperLineChange b) s = .next s) ∧
     (s.node.out.testLine = b → exec (.testInputChange b) s = .next s) ∧
     (s.node.out.tamperLine ≠ b → ∃ claims osc,
       exec (.tamperLineChange b) s =
         .next { s with node := { s.node with
           out := { s.node.out with
             tamperLine := b
             tamperDebounce := if b = s.node.out.offBase then none else some (later s.node.clock 51) }
           power := { s.node.power with claims := claims, oscillator := osc } } }) ∧
     (s.node.out.testLine ≠ b → ∃ claims osc,
       exec (.testInputChange b) s =
         .next { s with node := { s.node with
           out := { s.node.out with
             testLine := b
             testDebounce := if b = s.node.out.testPressed then none else some (later s.node.clock 51) }
           power := { s.node.power with claims := claims, oscillator := osc } } })) ∧
  (∀ s : State, due s.node.clock s.node.out.tamperDebounce = true → s.node.tx.queue = [] →
     s.node.out.offBase ≠ s.node.out.tamperLine →
     ∃ t, exec .tamperDebounceEnd s = .next t ∧ t.pending = s.pending ∧
       t.node.out.offBase = s.node.out.tamperLine ∧ t.node.out.tamperDebounce = none ∧
       t.node.evidence = s.node.evidence ∧
       (s.node.active = true → s.node.out.tamperLine = true →
         (NoticeItem.mk .tamper none) ∈ t.node.alarm.notices ∧ t.node.out.overlay = s.node.out.overlay) ∧
       (s.node.active = true → s.node.out.tamperLine = false →
         (NoticeItem.mk .tamper none) ∉ t.node.alarm.notices ∧ t.node.out.overlay = s.node.out.overlay) ∧
       (s.node.power.phase = .dormant → s.node.out.tamperLine = true →
         t.node.out.overlay = some ⟨.tamper, later s.node.clock 2048⟩ ∧ t.node.tx.queue = [] ∧
         t.node.alarm.notices = s.node.alarm.notices ∧ t.node.power.phase = .dormant) ∧
       (s.node.power.phase = .startUp →
         t.node.out.overlay = s.node.out.overlay ∧ t.node.alarm.notices = s.node.alarm.notices)) ∧
  (∀ (s : State) (r : Reading) (bs : List Byte) (noise : Byte) (img : Image) (clamps : List Nat),
     s.node.loader.read = some r → r.gap = none → s.node.power.oscillator = .running → judgeImage bs = .ok (img, clamps) →
     s.node.alarm = AlarmUnit.atReset → s.node.tx.queue = [] → s.node.out.offBase = true →
     ∃ t e, exec (.configAttempt (some bs) noise) s = .next t ∧
       t.node.alarm.notices = [⟨.tamper, none⟩] ∧ t.node.tx.queue = [e] ∧
       e.frame.body = .notice .tamper true none ∧ e.own = true ∧ e.attempt = some 1 ∧ e.state = .waiting ∧
       e.frame.hdr.seq = (rngDraw (img.address ++ noise)).setWidth 8 ∧
       t.node.relay.originSeq = (rngDraw (img.address ++ noise)).setWidth 8 + 1)

/-- A debounced press is timed, and acts once at 2 s and once at 5 s. That one reading of the node clock is "the
same event" of R83 is the model's choice (log entry 33). -/
def Obligations.TestInputIsTimed : Prop :=
  (∀ s : State, due s.node.clock s.node.out.testDebounce = true →
      s.node.out.testPressed ≠ s.node.out.testLine →
      ∃ claims osc, exec .testDebounceEnd s =
        .next { s with node := { s.node with
          out := { s.node.out with
            testPressed := s.node.out.testLine
            testDebounce := none
            hold :=
              if s.node.out.testLine = false then .none
              else if s.node.power.phase = .startUp then .startUpPress
              else .since s.node.clock false false }
          power := { s.node.power with claims := claims, oscillator := osc } } }) ∧
    ∀ (s : State) (start : Stamp) (b : Bool),
      (s.node.out.hold = .since start false b → reached s.node.clock (later start 2048) = true →
        ∃ t, exec .testHold2s s = .next t ∧ t.pending = s.pending ∧
          t.node.out.hold = .since start true b ∧ t.node.evidence = s.node.evidence ∧
          (s.node.active = true → s.node.alarm.walkTest = none → s.node.alarm.testEnded ≠ some s.node.clock →
            t.node.out.overlay = some ⟨.selfCheck, later s.node.clock 1024⟩ ∧
            t.node.alarm.notices = s.node.alarm.notices ∧ t.node.tx.queue = s.node.tx.queue ∧
            ((∀ p, s.node.out.sounder = some p → p.pattern = .faultChirp) →
              t.node.out.chirp = some (later s.node.clock 20))) ∧
          (s.node.active = true → s.node.alarm.walkTest.isSome = true → s.node.cfg.role ≠ .repeater →
            t.node.alarm.state = .quiet ∧ t.node.alarm.confirmCount = 0 ∧
            t.node.alarm.testSound = some (later s.node.clock 10240) ∧
            t.node.alarm.origins = s.node.alarm.origins ∧
            t.node.alarm.silenced = s.node.alarm.silenced ∧
            (s.node.tx.queue = [] →
              let hx := s.node.evidence.hx
              let q := s.node.evidence.q
              let cause : Cause :=
                if hx / 2 ≤ q ∧ hx < s.node.cfg.heatCorr then .smoke else if q < 16 then .heat else .combined
              ∃ e ∈ t.node.tx.queue, e.own = true ∧ e.attempt = some 1 ∧ e.state = .waiting ∧
                e.frame.hdr.test = true ∧ e.frame.hdr.sender = s.node.cfg.address ∧
                e.frame.hdr.origin = s.node.cfg.address ∧
                e.frame.hdr.hop = BitVec.ofNat 4 s.node.cfg.hopLimit ∧
                e.frame.body = .alarm cause 255 (byte q) (byte hx))) ∧
          (s.node.active = true →
            ((s.node.alarm.walkTest.isSome = true ∧ s.node.cfg.role = .repeater) ∨
              (s.node.alarm.walkTest = none ∧ s.node.alarm.testEnded = some s.node.clock)) →
            t.node.out.overlay = s.node.out.overlay ∧ t.node.alarm.state = s.node.alarm.state ∧
            t.node.alarm.testSound = s.node.alarm.testSound ∧ t.node.alarm.notices = s.node.alarm.notices ∧
            t.node.tx.queue = s.node.tx.queue) ∧
          (s.node.power.phase = .dormant →
            t.node.out.overlay = s.node.out.overlay ∧ t.node.alarm.state = s.node.alarm.state ∧
            t.node.tx.queue = s.node.tx.queue)) ∧
      (s.node.out.hold = .since start b false → reached s.node.clock (later start 5120) = true →
        ∃ t, exec .testHold5s s = .next t ∧ t.pending = s.pending ∧
          t.node.out.hold = .since start b true ∧
          (s.node.power.phase = .dormant → s.node.loader.read = none →
            t.node.loader = { s.node.loader with read := some ⟨1, none, true⟩ } ∧
            t.node.power.phase = .dormant) ∧
          (s.node.power.phase ≠ .dormant → t.node.loader = s.node.loader ∧
            t.node.out = { s.node.out with hold := .since start b true }))

/-- The sounder and the indicators go step by step through their cadences, and an overlay's end restarts the
amber pattern. That the red pattern goes on through an overlay, that the flashes of the isolated pattern lie
200 ms dark apart, and how its dark step and those of the indicators are counted, are the model's readings
(log entries 28, 10 and 26). -/
def Obligations.PatternsStep : Prop :=
  let sounds := fun (p : Sound) => match p with
    | .localAlarm => [(true, 512), (false, 512), (true, 512), (false, 512), (true, 512), (false, 2048)]
    | .remoteAlarm => [(true, 1024), (false, 1024)]
    | .test => []
    | .faultChirp => [(true, 20), (false, 40939)]
  let flashes := fun (p : RedPattern) => match p with
    | .off => []
    | .alarmFlash => [(true, 102), (false, 922)]
    | .watchBlink => [(true, 51), (false, 8141)]
  let ambers := fun (p : AmberPattern) => match p with
    | .dark => []
    | .config => [(true, 512), (false, 512)]
    | .parked => [(true, 51), (false, 16333)]
    | .isolated => [(true, 51), (false, 204), (true, 51), (false, 3790)]
    | .notice => [(true, 51), (false, 8141)]
  let next := fun (steps : List (Bool × Nat)) (step : Nat) => if step + 1 < steps.length then step + 1 else 0
  (∀ (s : State) (p : Playing Sound) (on : Bool) (len : Nat), s.node.out.sounder = some p →
     due s.node.clock p.ends = true → s.node.PatternsFollow →
     (sounds p.pattern)[next (sounds p.pattern) p.step]? = some (on, len) →
     ∃ t, exec .sounderStep s = .next t ∧ t.pending = s.pending ∧
       t.node.out.sounder =
         some ⟨p.pattern, next (sounds p.pattern) p.step, some (later s.node.clock len)⟩ ∧
       (s.node.out.chirp = none → t.node.out.tone = on)) ∧
  (∀ (o : Outputs) (p : Playing Sound), o.sounder = some p → p.pattern = .test → o.tone = true) ∧
  (∀ (s : State) (on : Bool) (len : Nat),
     let p := s.node.out.red
     let k := next (flashes p.pattern) p.step
     due s.node.clock p.ends = true → (flashes p.pattern)[k]? = some (on, len) →
     ∃ claims osc, exec (.indicatorStep .red) s =
       .next { s with node := { s.node with
         out := { s.node.out with red := ⟨p.pattern, k, some (later s.node.clock len)⟩ }
         power := { s.node.power with claims := claims, oscillator := osc } } } ∧
       (s.node.out.overlay = none →
         ({ s.node.out with red := ⟨p.pattern, k, some (later s.node.clock len)⟩ } : Outputs).redLit = on)) ∧
  (∀ (s : State) (on : Bool) (len : Nat),
     let p := s.node.out.amber
     let k := next (ambers p.pattern) p.step
     due s.node.clock p.ends = true → (ambers p.pattern)[k]? = some (on, len) →
     ∃ claims osc, exec (.indicatorStep .amber) s =
       .next { s with node := { s.node with
         out := { s.node.out with amber := ⟨p.pattern, k, some (later s.node.clock len)⟩ }
         power := { s.node.power with claims := claims, oscillator := osc } } } ∧
       (s.node.out.overlay = none →
         ({ s.node.out with amber := ⟨p.pattern, k, some (later s.node.clock len)⟩ } : Outputs).amberLit = on)) ∧
  (∀ (s : State) (v : Overlay), s.node.out.overlay = some v → reached s.node.clock v.ends = true →
     ∃ claims osc, exec .overlayEnd s =
       .next { s with node := { s.node with
         out := { s.node.out with
           overlay := none
           amber := ⟨s.node.out.amber.pattern, 0,
             (ambers s.node.out.amber.pattern).head?.map (fun x => later s.node.clock x.2)⟩ }
         power := { s.node.power with claims := claims, oscillator := osc } } }) ∧
  ∀ s : State, due s.node.clock s.node.out.chirp = true →
    ∃ t, exec .selfCheckChirpEnd s = .next t ∧ t.node.out.chirp = none ∧ Node.FollowsFrom s.node t.node

/-- After every command the patterns are those their requests call for, a new one starts at its beginning, and
one that stays goes on. -/
def Obligations.PatternsFollowTheirRequests : Prop :=
  ∀ (c : Instr) (s t : State), exec c s = .next t →
    let now := t.node.clock
    let o := s.node.out
    let u := t.node.out
    let resets := c = .powerOnReset ∨ c = .answerSent ∨ ∃ read noise, c = .configAttempt read noise
    (s.node.PatternsFollow → t.node.PatternsFollow) ∧
    (∀ p, u.sounder = some p → o.sounder.map (fun q => q.pattern) ≠ some p.pattern →
      u.tone = true ∧ p.step = 0 ∧
      p.ends = match p.pattern with
        | .localAlarm => some (later now 512)
        | .remoteAlarm => some (later now 1024)
        | .test => none
        | .faultChirp => some (later now 20)) ∧
    (u.sounder = none → u.chirp = none → u.tone = false) ∧
    (∀ p q, o.sounder = some p → u.sounder = some q → q.pattern = p.pattern → ¬resets → c ≠ .sounderStep →
      q = p) ∧
    (u.red.pattern ≠ o.red.pattern →
      (u.overlay = none → u.redLit = decide (u.red.pattern ≠ .off)) ∧ u.red.step = 0 ∧
      u.red.ends = match u.red.pattern with
        | .off => none
        | .alarmFlash => some (later now 102)
        | .watchBlink => some (later now 51)) ∧
    (u.red.pattern = o.red.pattern → ¬resets → c ≠ .indicatorStep .red → u.red = o.red) ∧
    (u.amber.pattern ≠ o.amber.pattern →
      (u.overlay = none → u.amberLit = decide (u.amber.pattern ≠ .dark)) ∧ u.amber.step = 0 ∧
      u.amber.ends = match u.amber.pattern with
        | .dark => none
        | .config => some (later now 512)
        | _ => some (later now 51)) ∧
    (u.amber.pattern = o.amber.pattern → ¬resets → c ≠ .indicatorStep .amber → c ≠ .overlayEnd →
      u.amber = o.amber)

/-- STATUS and PEERS are answered with the reply of their moment. That the notice items stand in the order they
were added is the model's choice (log entry 34). -/
def Obligations.StatusAndPeersAreAnswered : Prop :=
  (∀ s : State, s.node.power.phase ≠ .startUp → s.node.serial.answers = [] →
     let n := s.node
     let two := fun v : Nat => [byte (v / 256), byte v]
     let four := fun v : Stamp => [byte (v.toNat / 16777216), byte (v.toNat / 65536), byte (v.toNat / 256),
       byte v.toNat]
     ∃ (t : State) (power role alarm link battery outcome : Byte) (capture : List Byte),
       (power = match n.power.phase with | .patrol => 1 | .run => 2 | _ => 0) ∧
       (role = match n.loader.image with
         | none => 255
         | some img => match img.role with | .detector => 0 | .repeater => 1 | .panelAttached => 2) ∧
       (alarm = match n.alarm.state with | .quiet => 0 | .watch => 1 | .confirming => 2 | .alarm => 3) ∧
       (link = if 256 ≤ n.link.efc then 2 else if 127 < n.link.efc ∨ 127 < n.link.rfc then 1 else 0) ∧
       (battery = match n.power.battery with | .normal => 0 | .low => 1 | .critical => 2 | .external => 3) ∧
       (outcome = match n.loader.cause with
         | none => 0 | some .absent => 1 | some .check => 2 | some .version => 3 | some .field => 4) ∧
       (capture = match n.rx.capture with
         | none => List.replicate 12 0
         | some c => 1 :: (c.header ++ four c.stamp)) ∧
       exec .status s = .next t ∧ t.pending = s.pending ∧ t.node.statistics = [0, 0, 0, 0, 0, 0, 0] ∧
       let payload := [power, role, alarm, if n.alarm.walkTest.isSome then 1 else 0, link] ++ two n.link.efc ++
         [byte n.link.rfc, battery] ++ four n.clock ++
         [byte n.evidence.q, byte n.evidence.hx, byte n.evidence.lv] ++ two (n.evidence.accI / 64) ++
         two (n.evidence.accB / 64) ++
         [byte n.sensing.skipped, byte n.peers.untracked, byte n.tx.drops, byte n.tx.losses,
           byte n.rx.badFrames, byte n.rx.foreign, byte n.rx.overruns] ++
         capture ++ [outcome, byte n.loader.clamps.length] ++ n.loader.clamps.map byte ++
         [byte n.alarm.notices.length] ++
         n.alarm.notices.flatMap (fun i => [i.kind.code, i.subject.getD 0]) ++
         [byte n.alarm.origins.length] ++
         n.alarm.origins.flatMap (fun o =>
           [o.address, byte o.zone.toNat,
             match o.cause with | .smoke => 1 | .heat => 2 | .combined => 3] ++ four o.stamp)
       Node.FollowsFrom
         { n with
           sensing := { n.sensing with skipped := 0 }
           peers := { n.peers with untracked := 0 }
           tx := { n.tx with drops := 0, losses := 0 }
           rx := { n.rx with badFrames := 0, foreign := 0, overruns := 0 }
           serial := { n.serial with
             rx := none, timeout := none, answers := [⟨frameRecord 0x84 payload, .none⟩] } } t.node ∧
       ((∀ c, n.rx.capture = some c → c.header.length = 7) →
         payload.length =
           43 + n.loader.clamps.length + 2 * n.alarm.notices.length + 7 * n.alarm.origins.length)) ∧
  (∀ s : State, s.node.power.phase ≠ .startUp → s.node.serial.answers = [] →
     let entry := fun (x : Option Peer × Nat) => match x.1 with
       | none => []
       | some p =>
         [ byte x.2, match p.state with | .fresh => 0 | .stale => 1 | .lost => 2, p.address,
           match p.zone with | none => 255 | some z => byte z.toNat,
           match p.role with
           | none => 255 | some .detector => 0 | some .repeater => 1 | some .panelAttached => 2,
           byte p.level, byte p.missed, if p.twoWay then 1 else 0,
           match p.alarm with
           | none => 255 | some .quiet => 0 | some .watch => 1 | some .confirming => 2 | some .alarm => 3 ] ++
         match p.pv with
         | none => [255, 255, 255]
         | some v =>
           let age := elapsed s.node.clock v.stamp / 1024
           [v.value, byte (age / 256), byte age]
     let body := s.node.peers.entries.zipIdx.flatMap entry
     ∃ t, exec .peers s = .next t ∧ t.pending = s.pending ∧
       Node.FollowsFrom
         { s.node with serial := { s.node.serial with
           rx := none
           timeout := none
           answers := [⟨frameRecord 0x85
             (byte (s.node.peers.entries.filter Option.isSome).length :: body), .none⟩] } } t.node ∧
       body.length = 12 * (s.node.peers.entries.filter Option.isSome).length)

/-- PARK, RESTART and WAKE are answered by the phase; a panel command is a DUPLICATE while its CONTROL waits,
else accepted, applied and sent. -/
def Obligations.LineCommandsAreAnswered : Prop :=
  (∀ s : State, s.node.power.phase ≠ .startUp → s.node.serial.answers = [] →
     let owes := fun (a : Answer) => { s.node with
       serial := { s.node.serial with rx := none, timeout := none, answers := [a] } }
     let gives := fun (c : Instr) (n : Node) =>
       ∃ t, exec c s = .next t ∧ t.pending = s.pending ∧ n.FollowsFrom t.node
     (s.node.onPanel = true →
       gives .park (owes ⟨frameRecord 0x83 [0x03, 2], .none⟩) ∧
       gives .restart (owes ⟨frameRecord 0x83 [0x04, 2], .none⟩) ∧
       gives .wake (owes ⟨frameRecord 0x83 [0x05, 2], .none⟩)) ∧
     (s.node.onPanel = false →
       (s.node.active = true → gives .park (owes ⟨frameRecord 0x81 [0x03], .park⟩)) ∧
       (s.node.power.phase = .dormant → gives .park (owes ⟨frameRecord 0x83 [0x03, 5], .none⟩)) ∧
       gives .restart (owes ⟨frameRecord 0x81 [0x04], .restart⟩) ∧
       (s.node.active = true → gives .wake (owes ⟨frameRecord 0x83 [0x05, 5], .none⟩)) ∧
       (s.node.power.phase = .dormant → s.node.loader.read.isSome = true →
         gives .wake (owes ⟨frameRecord 0x83 [0x05, 6], .none⟩)) ∧
       (s.node.power.phase = .dormant → s.node.loader.read = none →
         gives .wake { owes ⟨frameRecord 0x81 [0x05], .none⟩ with
           loader := { s.node.loader with read := some ⟨1, none, true⟩ } }))) ∧
  (∀ (s : State) (zone : Byte) (c : Instr) (cmd : Command) (type : Byte),
     ((c = .silence zone ∧ cmd = .silence ∧ type = 0x11) ∨ (c = .reset zone ∧ cmd = .reset ∧ type = 0x12) ∨
       (c = .testOn zone ∧ cmd = .testOn ∧ type = 0x13) ∨ (c = .testOff zone ∧ cmd = .testOff ∧ type = 0x14)) →
     s.node.onPanel = true → s.node.active = true → s.node.serial.answers = [] → zone.toNat ≤ 63 →
     ∃ t, exec c s = .next t ∧ t.pending = s.pending ∧ t.node.serial.rx = none ∧
       t.node.evidence = s.node.evidence ∧ t.node.peers = s.node.peers ∧
       ((∃ e ∈ s.node.tx.queue, (e.state = .waiting ∨ e.state = .holdoff) ∧
           e.frame.body = .control cmd (zone.setWidth 6)) →
         Node.FollowsFrom
           { s.node with serial := { s.node.serial with
             rx := none, timeout := none, answers := [⟨frameRecord 0x82 [type], .none⟩] } } t.node) ∧
       ((∀ e ∈ s.node.tx.queue, (e.state = .waiting ∨ e.state = .holdoff) →
           e.frame.body ≠ .control cmd (zone.setWidth 6)) →
         t.node.serial.answers = [⟨frameRecord 0x81 [type], .none⟩] ∧
         (s.node.tx.queue = [] → (NoticeItem.mk .preAlarm none) ∉ s.node.alarm.notices →
           (∃ e, t.node.tx.queue = [e] ∧ e.own = true ∧ e.attempt = some 1 ∧ e.state = .waiting ∧
             e.frame.body = .control cmd (zone.setWidth 6) ∧
             e.frame.hdr.seq = s.node.relay.originSeq ∧ e.frame.hdr.sender = s.node.cfg.address) ∧
           t.node.relay.originSeq = s.node.relay.originSeq + 1) ∧
         ((zone = 0 ∨ (zone.setWidth 6 : ZoneCode) = s.node.cfg.zone) →
           (cmd = .silence → t.node.alarm.silenced = true) ∧
           (cmd = .reset → t.node.alarm.state = .quiet ∧ t.node.alarm.origins = [] ∧
             t.node.alarm.silenced = false ∧ t.node.alarm.remote = false) ∧
           (cmd = .testOn → s.node.alarm.state ≠ .alarm →
             t.node.alarm.walkTest = some (later s.node.clock 1843200)) ∧
           (cmd = .testOff → t.node.alarm.walkTest = none))))

/-- A complete record is rejected by the first test it fails, or taken as the command of its type. That BUSY is
answered whatever the sum, behind the answers owed, is the model's reading (log entry 24). -/
def Obligations.CompleteRecordsAreJudged : Prop :=
  ∀ (s : State) (type : Byte) (payload : List Byte) (sum : Byte),
    let owes := fun (a : Answer) => { s.node with
      serial := { s.node.serial with rx := none, timeout := none, answers := s.node.serial.answers ++ [a] } }
    let rejects := fun (code : Byte) =>
      ∃ t, exec (.rejectedSerialRecord type payload sum) s = .next t ∧ t.pending = s.pending ∧
        (owes ⟨frameRecord 0x83 [type, code], .none⟩).FollowsFrom t.node
    let total := type + byte payload.length + byteSum payload + sum
    (s.node.power.phase = .startUp → rejects 5) ∧
    (s.node.power.phase ≠ .startUp → s.node.serial.answers ≠ [] → rejects 6) ∧
    (s.node.power.phase ≠ .startUp → s.node.serial.answers = [] →
      (total ≠ 0 → rejects 1) ∧
      (total = 0 →
        type.toNat ∉ [0x01, 0x02, 0x03, 0x04, 0x05, 0x11, 0x12, 0x13, 0x14] → rejects 2) ∧
      (total = 0 → type.toNat ∈ [0x03, 0x04, 0x05] → s.node.onPanel = true → rejects 2) ∧
      (total = 0 → type.toNat ∈ [0x11, 0x12, 0x13, 0x14] → s.node.onPanel = false → rejects 2) ∧
      (total = 0 → type.toNat ∈ [0x01, 0x02] → payload ≠ [] → rejects 3) ∧
      (total = 0 → type.toNat ∈ [0x03, 0x04, 0x05] → s.node.onPanel = false → payload ≠ [] → rejects 3) ∧
      (total = 0 → type.toNat ∈ [0x11, 0x12, 0x13, 0x14] → s.node.onPanel = true → payload.length ≠ 1 →
        rejects 3) ∧
      (total = 0 → s.node.onPanel = true → type.toNat ∈ [0x11, 0x12, 0x13, 0x14] →
        ∀ z, payload = [z] → 63 < z.toNat → rejects 4)) ∧
    (total = 0 →
      let run := exec (.rejectedSerialRecord type payload sum) s
      (payload = [] →
        (type = 0x01 → run = exec .status s) ∧ (type = 0x02 → run = exec .peers s) ∧
        (type = 0x03 → run = exec .park s) ∧ (type = 0x04 → run = exec .restart s) ∧
        (type = 0x05 → run = exec .wake s)) ∧
      (∀ z, payload = [z] →
        (type = 0x11 → run = exec (.silence z) s) ∧ (type = 0x12 → run = exec (.reset z) s) ∧
        (type = 0x13 → run = exec (.testOn z) s) ∧ (type = 0x14 → run = exec (.testOff z) s)))

/-- Bytes after a start byte make a record, and 20 ms without one abandon it. That the FRAMING answer is owed
behind the answers already owed, and that 20 ms is 20 ticks, is the model's reading (log entry 24). -/
def Obligations.SerialBytesMakeRecords : Prop :=
  ∀ (s : State) (b : Byte),
    (s.node.serial.rx = none → b ≠ 0x7E → ∃ claims osc,
      exec (.serialByte b) s =
        .next { s with node := { s.node with
          power := { s.node.power with claims := claims, oscillator := osc } } }) ∧
    (s.node.serial.rx = none → b = 0x7E →
      ∃ t, exec (.serialByte b) s = .next t ∧ t.pending = s.pending ∧
        Node.FollowsFrom
          { s.node with serial := { s.node.serial with
            rx := some [], timeout := some (later s.node.clock 20) } } t.node) ∧
    (∀ bs, s.node.serial.rx = some bs → bs.length < 2 →
      exec (.serialByte b) s =
        .next { s with node := { s.node with serial := { s.node.serial with
          rx := some (bs ++ [b]), timeout := some (later s.node.clock 20) } } }) ∧
    (∀ type len payload, s.node.serial.rx = some (type :: len :: payload) →
      (payload.length < len.toNat →
        exec (.serialByte b) s =
          .next { s with node := { s.node with serial := { s.node.serial with
            rx := some (type :: len :: payload ++ [b]), timeout := some (later s.node.clock 20) } } }) ∧
      (payload.length = len.toNat →
        exec (.serialByte b) s = exec (.rejectedSerialRecord type payload b) s)) ∧
    (∀ bs, s.node.serial.rx = some bs → due s.node.clock s.node.serial.timeout = true →
      ∃ t a, exec .serialRecordTimeout s = .next t ∧ t.node.serial.rx = none ∧
        t.node.serial.timeout = none ∧ t.node.serial.answers = s.node.serial.answers ++ [a] ∧
        ∀ type rest, bs = type :: rest → a = ⟨frameRecord 0x83 [type, 7], .none⟩)

/-- The end of an answer takes the PARK or RESTART it accepted. -/
def Obligations.AnswerSentTakesItsReset : Prop :=
  ∀ (s : State) (a : Answer) (rest : List Answer), s.node.serial.tx = .answer →
    s.node.serial.answers = a :: rest →
    ∃ t, exec .answerSent s = .next t ∧ t.pending = s.pending ∧
      (a.action = .none →
        Node.FollowsFrom { s.node with serial := { s.node.serial with answers := rest, tx := .idle } } t.node) ∧
      (a.action ≠ .none →
        t.node.clock = s.node.clock ∧ t.node.evidence.accI = s.node.evidence.accI ∧
        t.node.evidence.accB = s.node.evidence.accB ∧
        t.node.evidence.seedPending = s.node.evidence.seedPending ∧ t.node.evidence.settling = 8 ∧
        t.node.rx.state = .off ∧ t.node.rx.carrier = s.node.rx.carrier ∧ t.node.tx.queue = [] ∧
        t.node.tx.engine = .idle ∧ t.node.alarm = AlarmUnit.atReset ∧
        t.node.peers = PeerTable.empty ∧ t.node.relay.seen = [] ∧ t.node.relay.watch = [] ∧
        t.node.link = ⟨0, 0⟩ ∧ t.node.timer.running = false ∧ t.node.serial = Serial.empty ∧
        t.node.out.offBase = s.node.out.offBase ∧ t.node.out.testPressed = s.node.out.testPressed ∧
        t.node.out.overlay = none ∧ t.node.out.hold = .none) ∧
      (a.action = .park →
        t.node.power.phase = .dormant ∧ t.node.power.parked = true ∧
        t.node.loader = { s.node.loader with read := none } ∧ t.node.out.amber.pattern = .parked ∧
        t.node.tx.oneHop = s.node.tx.oneHop) ∧
      (a.action = .restart →
        t.node.power.phase = .startUp ∧ t.node.loader.read = some ⟨1, none, false⟩ ∧
        t.node.out.amber.pattern = .dark ∧ t.node.tx.oneHop = 0)

/-- EVENT records leave the panel queue as they are sent, and a full queue makes room. -/
def Obligations.EventRecordSentLeavesTheQueue : Prop :=
  (∀ (s : State) (r : EventRecord) (rest : List EventRecord), s.node.serial.tx = .event →
     s.node.serial.panel = r :: rest → s.node.power.phase = .run → s.node.onPanel = true →
     ∃ t, exec .eventRecordSent s = .next t ∧ t.pending = s.pending ∧
       t.node.serial.answers = s.node.serial.answers ∧ t.node.tx.queue = s.node.tx.queue ∧
       t.node.alarm.notices = s.node.alarm.notices ∧
       (s.node.serial.answers ≠ [] → t.node.serial.tx = .answer ∧ t.node.serial.panel = rest) ∧
       (s.node.serial.answers = [] → rest = [] → t.node.serial.tx = .idle ∧ t.node.serial.panel = []) ∧
       (∀ r' more, s.node.serial.answers = [] → rest = r' :: more →
         t.node.serial.tx = .event ∧ t.node.serial.panel = { r' with lost := s.node.serial.lost } :: more ∧
         t.node.serial.lost = false ∧
         t.node.serial.sending = some (frameRecord 0x90
           [ match r'.kind with
             | .alarm => 1 | .testAlarm => 2 | .notice => 3 | .controlApplied => 4 | .ownNotice => 5 | .ownEvent => 6,
             r'.origin, byte r'.zone.toNat, r'.code, if r'.sense then 1 else 0, r'.subject.getD 0, r'.q, r'.hx,
             r'.lv, byte (r'.stamp.toNat / 16777216), byte (r'.stamp.toNat / 65536), byte (r'.stamp.toNat / 256),
             byte r'.stamp.toNat, if s.node.serial.lost then 1 else 0 ]))) ∧
  (∀ (s : State) (i : Nat) (x : Slot) (record : EventRecord), s.node.rx.service = some ⟨i, .useDelivery⟩ →
     s.node.rx.slots[i]? = some (some x) → s.node.onPanel = true → s.node.serial.tx ≠ .idle →
     ((∃ kind set subject, x.frame.body = .notice kind set subject ∧
         record = ⟨.notice, x.frame.hdr.origin, x.frame.hdr.zone, kind.code, set, subject, 0, 0, 0, s.node.clock,
           false⟩) ∨
       (∃ cause lv q hx, x.frame.body = .alarm cause lv q hx ∧ x.frame.hdr.test = true ∧
         x.frame.hdr.origin ≠ s.node.cfg.address ∧
         record = ⟨.testAlarm, x.frame.hdr.origin, x.frame.hdr.zone, cause.code, false, none, q, hx, lv,
           s.node.clock, false⟩)) →
     let plain := fun r : EventRecord => r.kind ≠ .alarm ∧ r.kind ≠ .testAlarm
     ∃ t, exec .useDelivery s = .next t ∧ t.pending = s.pending ∧
       t.node.alarm.state = s.node.alarm.state ∧ t.node.alarm.origins = s.node.alarm.origins ∧
       t.node.tx.queue = s.node.tx.queue ∧ t.node.serial.answers = s.node.serial.answers ∧
       (s.node.serial.panel.length < 32 →
         t.node.serial.panel = s.node.serial.panel ++ [record] ∧ t.node.serial.lost = s.node.serial.lost) ∧
       (32 ≤ s.node.serial.panel.length → ∀ begun waiting, s.node.serial.panel = begun ++ waiting →
         begun.length = (if s.node.serial.tx = .event then 1 else 0) →
         t.node.serial.lost = true ∧
         (∀ a old b, waiting = a ++ old :: b → plain old → (∀ y ∈ a, ¬plain y) →
           t.node.serial.panel = begun ++ a ++ b ++ [record]) ∧
         ((∀ y ∈ waiting, ¬plain y) →
           (record.kind = .testAlarm → t.node.serial.panel = begun ++ waiting.drop 1 ++ [record]) ∧
           (record.kind = .notice → t.node.serial.panel = s.node.serial.panel))))

/-- On the panel node a remote ALARM, an applied CONTROL, an own ALARM, test ALARM, notice change or event each
forms its EVENT record. That a PRE_ALARM record stands before the ALARM, TEST ALARM or CONTROL APPLIED
record of its event is the model's choice (log entry 15). -/
def Obligations.OwnReportsFormRecords : Prop :=
  ∀ s : State, s.node.onPanel = true → s.node.active = true → s.node.serial.tx ≠ .idle →
    s.node.serial.panel.length ≤ 24 → s.node.tx.queue = [] →
    let n := s.node
    let cfg := s.node.cfg
    let own := fun (kind : EventKind) (code : Byte) (sense : Bool) (subject : Option Byte) =>
      (⟨kind, cfg.address, cfg.zone, code, sense, subject, 0, 0, 0, n.clock, false⟩ : EventRecord)
    let forms := fun (c : Instr) (records : List EventRecord) => ∃ t, exec c s = .next t ∧
      t.node.serial.panel = n.serial.panel ++ records ∧ t.node.serial.lost = n.serial.lost
    let cleared := if NoticeItem.mk .preAlarm none ∈ n.alarm.notices then [own .ownNotice 12 false none] else []
    let causeOf := fun q hx : Nat =>
      (if hx / 2 ≤ q ∧ hx < cfg.heatCorr then 1 else if q < 16 then 2 else 3 : Byte)
    (∀ (i : Nat) (x : Slot), n.rx.service = some ⟨i, .useDelivery⟩ → n.rx.slots[i]? = some (some x) →
      (∀ cause lv q hx, x.frame.body = .alarm cause lv q hx → x.frame.hdr.test = false →
        x.frame.hdr.origin ≠ cfg.address → (x.frame.hdr.zone ≠ cfg.zone ∨ n.alarm.state ≠ .confirming) →
        forms .useDelivery [⟨.alarm, x.frame.hdr.origin, x.frame.hdr.zone, cause.code, false, none, q, hx, lv,
          n.clock, false⟩]) ∧
      (∀ cmd zone, x.frame.body = .control cmd zone →
        let applies := (zone = 0 ∨ zone = cfg.zone) ∧ ¬(cmd = .testOn ∧ n.alarm.state = .alarm)
        (applies → forms .useDelivery ((if cmd = .reset then cleared else []) ++
          [⟨.controlApplied, x.frame.hdr.origin, x.frame.hdr.zone, cmd.code, false, none, 0, 0, 0, n.clock,
            false⟩])) ∧
        (¬applies → forms .useDelivery []))) ∧
    (due n.clock n.out.tamperDebounce = true → n.out.offBase ≠ n.out.tamperLine →
      (NoticeItem.mk .tamper none ∈ n.alarm.notices ↔ n.out.tamperLine = false) →
      forms .tamperDebounceEnd [own .ownNotice 6 n.out.tamperLine none]) ∧
    (due n.clock n.alarm.limit = true → n.alarm.state = .confirming →
      forms .confirmingLimit (own .ownEvent 13 true none :: cleared)) ∧
    (∀ r, n.evidence.inHand = some r → n.evidence.settling = 0 → (r.opticalValid = true ∨ r.heatValid = true) →
      n.alarm.state = .confirming → n.alarm.walkTest = none → cfg.confirm ≤ n.alarm.confirmCount + 1 →
      cfg.mode = .none →
      ∃ t, exec .evidencePublication s = .next t ∧
        let e := t.node.evidence
        (cfg.alarm ≤ e.lv →
          ∃ before, (∀ y ∈ before, y.kind = .ownNotice) ∧ t.node.serial.panel = n.serial.panel ++ before ++ cleared ++
            [⟨.alarm, cfg.address, cfg.zone, causeOf e.q e.hx, false, none, byte e.q, byte e.hx, byte e.lv, n.clock,
              false⟩])) ∧
    (∀ start b, n.out.hold = .since start false b → reached n.clock (later start 2048) = true →
      n.alarm.walkTest.isSome = true →
      forms .testHold2s (cleared ++ [⟨.testAlarm, cfg.address, cfg.zone, causeOf n.evidence.q n.evidence.hx, false,
        none, byte n.evidence.q, byte n.evidence.hx, 255, n.clock, false⟩])) ∧
    (∀ (bytes : List Byte) (level : Nat) (f : Frame), n.rx.state = .assembling → n.rx.assembly = some level →
      judgeFrame cfg.networkId bytes = .good f → f.hdr.sender ≠ 0 → f.hdr.sender ≠ 255 →
      f.hdr.sender ≠ cfg.address → f.hdr.sender ∈ n.peers.lostSubjects →
      NoticeItem.mk .peerLost (some f.hdr.sender) ∈ n.alarm.notices → n.alarm.state ≠ .confirming →
      n.link.rfc ≤ 127 →
      forms (.frameEnd bytes)
        [own .ownNotice 7 false (some f.hdr.sender), own .ownEvent 8 true (some f.hdr.sender)])

/-- A well-formed frame read back from its bytes on the air is itself. -/
def Obligations.FramesReadBack : Prop :=
  ∀ f : Frame, f.body.wellFormed = true → judgeFrame f.hdr.networkId f.wire = .good f

/-- The random generator never becomes 0, the queue's active entry agrees with the engine, and the oscillator
serves its work. -/
def Obligations.GeneratorActiveEntryAndOscillatorAreKept : Prop :=
  (∀ s t : State, s.node.tx.rng ≠ 0 → step s = .next t → t.node.tx.rng ≠ 0) ∧
  (∀ s t : State, s.node.tx.activeAgrees → step s = .next t → t.node.tx.activeAgrees) ∧
  (∀ s t : State, s.node.OscillatorServes → step s = .next t → t.node.OscillatorServes)

/-- Every list and count stays within the manual's bound. -/
def Obligations.ListsStayBounded : Prop :=
  ∀ s t : State, s.node.Bounded → step s = .next t → t.node.Bounded

/-- Outside PATROL and RUN nothing is queued, sent or received. -/
def Obligations.SilentOutsidePatrolAndRun : Prop :=
  ∀ s t : State, s.node.Silent → step s = .next t → t.node.Silent

/-- Each block's state, the lines, the carrier, the generator and the answers owed are changed by their own
commands only. -/
def Obligations.BlocksAreChangedByTheirOwnCommands : Prop :=
  ∀ (c : Instr) (s t : State), exec c s = .next t →
    (c.changesSensing = false → t.node.sensing = s.node.sensing) ∧
    (c.changesEvidence = false → t.node.evidence = s.node.evidence) ∧
    (c.changesPeers = false → t.node.peers = s.node.peers) ∧
    (c.changesLoader = false → t.node.loader = s.node.loader) ∧
    (c.changesSlots = false → t.node.rx.slots = s.node.rx.slots ∧ t.node.rx.order = s.node.rx.order ∧
      t.node.rx.service = s.node.rx.service) ∧
    (c.changesAlarm = false → t.node.alarm.state = s.node.alarm.state ∧
      t.node.alarm.origins = s.node.alarm.origins ∧ t.node.alarm.silenced = s.node.alarm.silenced ∧
      t.node.alarm.remote = s.node.alarm.remote) ∧
    (c.changesLines = false → t.node.out.tamperLine = s.node.out.tamperLine ∧
      t.node.out.offBase = s.node.out.offBase ∧ t.node.out.tamperDebounce = s.node.out.tamperDebounce ∧
      t.node.out.testLine = s.node.out.testLine ∧ t.node.out.testPressed = s.node.out.testPressed ∧
      t.node.out.testDebounce = s.node.out.testDebounce) ∧
    (c.changesCarrier = false → t.node.rx.carrier = s.node.rx.carrier) ∧
    (c.changesBattery = false → t.node.power.battery = s.node.power.battery) ∧
    (c.changesGenerator = false → t.node.tx.rng = s.node.tx.rng) ∧
    (c.changesAnswers = false → t.node.serial.answers = s.node.serial.answers)
end

