-- ==== Sys2Proof/Laws/Deliver.lean ====
section
/-! SUPPORT. What a report between blocks can do, said once: every task, and all that follows from it, touches only
what `Node.ReportedFrom` leaves open. -/

namespace Sys2Proof.Machine

/-- No report, no change. -/
theorem Node.ReportedFrom.refl (n : Node) : n.ReportedFrom n := by constructor <;> rfl

/-- One report after another. -/
theorem Node.ReportedFrom.trans {a b c : Node} (h : a.ReportedFrom b) (k : b.ReportedFrom c) :
    a.ReportedFrom c where
  clock := k.clock.trans h.clock
  timer := k.timer.trans h.timer
  sensing := k.sensing.trans h.sensing
  evidence := k.evidence.trans h.evidence
  peers := k.peers.trans h.peers
  alarmState := k.alarmState.trans h.alarmState
  alarmConfirmCount := k.alarmConfirmCount.trans h.alarmConfirmCount
  alarmHysteresis := k.alarmHysteresis.trans h.alarmHysteresis
  alarmLimit := k.alarmLimit.trans h.alarmLimit
  alarmOrigins := k.alarmOrigins.trans h.alarmOrigins
  alarmSilenced := k.alarmSilenced.trans h.alarmSilenced
  alarmRemote := k.alarmRemote.trans h.alarmRemote
  alarmWalkTest := k.alarmWalkTest.trans h.alarmWalkTest
  alarmTestEnded := k.alarmTestEnded.trans h.alarmTestEnded
  alarmTestSound := k.alarmTestSound.trans h.alarmTestSound
  alarmWantFast := k.alarmWantFast.trans h.alarmWantFast
  txContention := k.txContention.trans h.txContention
  txGrid := k.txGrid.trans h.txGrid
  txRadioFault := k.txRadioFault.trans h.txRadioFault
  txBackoff := k.txBackoff.trans h.txBackoff
  txOnAir := k.txOnAir.trans h.txOnAir
  txBeaconDue := k.txBeaconDue.trans h.txBeaconDue
  txHalfDue := k.txHalfDue.trans h.txHalfDue
  txHalfMark := k.txHalfMark.trans h.txHalfMark
  txRng := k.txRng.trans h.txRng
  txLosses := k.txLosses.trans h.txLosses
  rx := k.rx.trans h.rx
  power := k.power.trans h.power
  out := k.out.trans h.out
  loader := k.loader.trans h.loader
  serialRx := k.serialRx.trans h.serialRx
  serialTimeout := k.serialTimeout.trans h.serialTimeout
  serialAnswers := k.serialAnswers.trans h.serialAnswers
  serialTx := k.serialTx.trans h.serialTx
  untypedRejects := k.untypedRejects.trans h.untypedRejects

/-- What the transmitter keeps through an offer. -/
structure Transmitter.Kept (t u : Transmitter) : Prop where
  contention : u.contention = t.contention
  grid : u.grid = t.grid
  radioFault : u.radioFault = t.radioFault
  backoff : u.backoff = t.backoff
  onAir : u.onAir = t.onAir
  beaconDue : u.beaconDue = t.beaconDue
  halfDue : u.halfDue = t.halfDue
  halfMark : u.halfMark = t.halfMark
  rng : u.rng = t.rng
  losses : u.losses = t.losses

theorem Transmitter.Kept.refl (t : Transmitter) : t.Kept t := by constructor <;> rfl

theorem Transmitter.Kept.trans {a b c : Transmitter} (h : a.Kept b) (k : b.Kept c) : a.Kept c where
  contention := k.contention.trans h.contention
  grid := k.grid.trans h.grid
  radioFault := k.radioFault.trans h.radioFault
  backoff := k.backoff.trans h.backoff
  onAir := k.onAir.trans h.onAir
  beaconDue := k.beaconDue.trans h.beaconDue
  halfDue := k.halfDue.trans h.halfDue
  halfMark := k.halfMark.trans h.halfMark
  rng := k.rng.trans h.rng
  losses := k.losses.trans h.losses

theorem Transmitter.leaveIdle_kept (t : Transmitter) : t.Kept t.leaveIdle := by
  unfold Transmitter.leaveIdle
  split
  · constructor <;> rfl
  · exact .refl t

theorem Transmitter.accept_kept (t : Transmitter) (now : Stamp) (f : Frame) (own : Bool) (earliest : Stamp)
    (attempt : Option Nat) : t.Kept (t.accept now f own earliest attempt) := by
  unfold Transmitter.accept
  simp only []
  split
  · exact Transmitter.Kept.trans (by constructor <;> rfl) (Transmitter.leaveIdle_kept _)
  · exact Transmitter.Kept.trans (by constructor <;> rfl) (Transmitter.leaveIdle_kept _)

theorem Transmitter.seat_kept (t : Transmitter) (now : Stamp) (f : Frame) (own : Bool) (earliest : Stamp)
    (attempt : Option Nat) : t.Kept (t.seat now f own earliest attempt).1 := by
  unfold Transmitter.seat
  split
  · exact Transmitter.accept_kept ..
  · split
    · constructor <;> rfl
    · exact Transmitter.Kept.trans (by constructor <;> rfl) (Transmitter.accept_kept ..)

theorem Transmitter.identify_kept (t u : Transmitter) (f : Frame) (own : Bool) (h : t.identify f own = some u) :
    t.Kept u := by
  unfold Transmitter.identify at h
  split at h
  · cases h; exact .refl t
  · split at h
    · cases h; exact .refl t
    · split at h
      · cases h; constructor <;> rfl
      · cases h

theorem Transmitter.offer_kept (t : Transmitter) (now : Stamp) (f : Frame) (own : Bool) (earliest : Stamp)
    (attempt : Option Nat) : t.Kept (t.offer now f own earliest attempt).1 := by
  unfold Transmitter.offer
  split
  · split
    · constructor <;> rfl
    · next u hu => exact (Transmitter.identify_kept t u f own hu).trans (Transmitter.seat_kept ..)
  · split
    · exact Transmitter.Kept.trans (by constructor <;> rfl) (Transmitter.accept_kept ..)
    · exact Transmitter.seat_kept ..

theorem Serial.push_kept (s : Serial) (r : EventRecord) :
    (s.push r).rx = s.rx ∧ (s.push r).timeout = s.timeout ∧ (s.push r).answers = s.answers ∧
      (s.push r).tx = s.tx := by
  unfold Serial.push
  split
  · exact ⟨rfl, rfl, rfl, rfl⟩
  · simp only []
    split
    · exact ⟨rfl, rfl, rfl, rfl⟩
    · split <;> exact ⟨rfl, rfl, rfl, rfl⟩

/-- Forming an event record touches the panel record queue only (R183). -/
theorem Node.record_reported (n : Node) (r : EventRecord) : n.ReportedFrom (n.record r) := by
  unfold Node.record
  split
  · have h := Serial.push_kept n.serial r
    constructor <;> first | rfl | exact h.1 | exact h.2.1 | exact h.2.2.1 | exact h.2.2.2
  · exact .refl n

theorem Node.noticeTasks_reported (n : Node) (k : NoticeKind) (b : Bool) (s : Option Byte) :
    n.ReportedFrom (n.noticeTasks k b s).1 := by
  unfold Node.noticeTasks
  split
  · exact .refl n
  · constructor <;> rfl

theorem Node.raise_reported (n : Node) (k : NoticeKind) (s : Option Byte) : n.ReportedFrom (n.raise k s).1 := by
  unfold Node.raise
  split
  · exact .refl n
  · exact Node.ReportedFrom.trans
      (Node.ReportedFrom.trans (by constructor <;> rfl) (Node.record_reported _ _)) (Node.noticeTasks_reported ..)

theorem Node.dropNotice_reported (n : Node) (k : NoticeKind) (s : Option Byte) :
    n.ReportedFrom (n.dropNotice k s) := by
  unfold Node.dropNotice
  split
  · exact Node.ReportedFrom.trans (by constructor <;> rfl) (Node.record_reported _ _)
  · exact .refl n

theorem Node.clear_reported (n : Node) (k : NoticeKind) (s : Option Byte) : n.ReportedFrom (n.clear k s).1 := by
  unfold Node.clear
  split
  · exact .refl n
  · exact (Node.dropNotice_reported n k s).trans (Node.noticeTasks_reported ..)

theorem Node.event_reported (n : Node) (k : NoticeKind) (s : Option Byte) : n.ReportedFrom (n.event k s).1 := by
  unfold Node.event
  split
  · exact .refl n
  · exact Node.ReportedFrom.trans
      (Node.ReportedFrom.trans (by constructor <;> rfl) (Node.record_reported _ _)) (Node.noticeTasks_reported ..)

theorem Node.afterOffer_reported (n : Node) (f : Frame) (own : Bool) (a : OfferAnswer) (ev : Option TxEntry) :
    n.ReportedFrom (n.afterOffer f own a ev).1 := by
  unfold Node.afterOffer
  simp only []
  split
  · exact .refl n
  · split
    · exact .refl n
    · constructor <;> rfl

theorem Node.offer_reported (n : Node) (f : Frame) (own : Bool) (earliest : Stamp) (attempt : Option Nat) :
    n.ReportedFrom (n.offer f own earliest attempt).1 := by
  unfold Node.offer
  split
  · exact .refl n
  · have k := Transmitter.offer_kept n.tx n.clock f own earliest attempt
    refine Node.ReportedFrom.trans (b := { n with tx := (n.tx.offer n.clock f own earliest attempt).1 }) ?_
      (Node.afterOffer_reported ..)
    exact ⟨rfl, rfl, rfl, rfl, rfl, rfl, rfl, rfl, rfl, rfl, rfl, rfl, rfl, rfl, rfl, rfl, k.contention, k.grid,
      k.radioFault, k.backoff, k.onAir, k.beaconDue, k.halfDue, k.halfMark, k.rng, k.losses, rfl, rfl, rfl, rfl,
      rfl, rfl, rfl, rfl, rfl⟩

theorem Node.isolate_reported (n : Node) : n.ReportedFrom n.isolate := by constructor <;> rfl

theorem Node.setLink_reported (n : Node) (l : Link) : n.ReportedFrom (n.setLink l).1 := by
  unfold Node.setLink
  simp only []
  split
  · exact Node.ReportedFrom.trans (by constructor <;> rfl) (Node.isolate_reported _)
  · constructor <;> rfl

theorem Node.ownEvicted_reported (n : Node) (seq : Byte) : n.ReportedFrom (n.ownEvicted seq).1 := by
  unfold Node.ownEvicted
  split
  · exact .refl n
  · simp only []
    split <;> first | exact .refl n | (constructor <;> rfl)

/-- One task touches only what a report may touch. -/
theorem Task.run_reported (n : Node) (t : Task) : n.ReportedFrom (t.run n).1 := by
  cases t with
  | raise k s => exact Node.raise_reported n k s
  | clear k s => exact Node.clear_reported n k s
  | event k s => exact Node.event_reported n k s
  | offer f a => exact Node.offer_reported n f true n.clock a
  | echo b => exact Node.setLink_reported n _
  | frame b => exact Node.setLink_reported n _
  | ownEvicted q => exact Node.ownEvicted_reported n q

/-- A run of reports, one after another. -/
theorem Node.foldl_reported (step : Node → Task → Node)
    (h : ∀ (n : Node) (t : Task), n.ReportedFrom (step n t)) (ts : List Task) :
    ∀ n : Node, n.ReportedFrom (ts.foldl step n) := by
  induction ts with
  | nil => exact fun n => .refl n
  | cons t ts ih => exact fun n => (h n t).trans (ih _)

/-- A task and all that follows from it. -/
theorem deliver_reported (d : Nat) : ∀ (t : Task) (n : Node), n.ReportedFrom (deliver d t n) := by
  induction d with
  | zero => exact fun _ n => .refl n
  | succ d ih =>
    intro t n
    exact (Task.run_reported n t).trans (Node.foldl_reported _ (fun m u => ih u m) _ _)

/-- Tasks delivered, with all that follows from them. -/
theorem Node.deliver_reported (n : Node) (ts : List Task) : n.ReportedFrom (n.deliver ts) :=
  Node.foldl_reported _ (fun m t => Machine.deliver_reported 12 t m) ts n

/-! Field by field. -/

@[simp] theorem Node.deliver_clock (n : Node) (ts : List Task) : (n.deliver ts).clock = n.clock := (n.deliver_reported ts).clock
@[simp] theorem Node.deliver_timer (n : Node) (ts : List Task) : (n.deliver ts).timer = n.timer := (n.deliver_reported ts).timer
@[simp] theorem Node.deliver_sensing (n : Node) (ts : List Task) : (n.deliver ts).sensing = n.sensing := (n.deliver_reported ts).sensing
@[simp] theorem Node.deliver_evidence (n : Node) (ts : List Task) : (n.deliver ts).evidence = n.evidence := (n.deliver_reported ts).evidence
@[simp] theorem Node.deliver_peers (n : Node) (ts : List Task) : (n.deliver ts).peers = n.peers := (n.deliver_reported ts).peers
@[simp] theorem Node.deliver_alarmState (n : Node) (ts : List Task) : (n.deliver ts).alarm.state = n.alarm.state := (n.deliver_reported ts).alarmState
@[simp] theorem Node.deliver_alarmConfirmCount (n : Node) (ts : List Task) : (n.deliver ts).alarm.confirmCount = n.alarm.confirmCount := (n.deliver_reported ts).alarmConfirmCount
@[simp] theorem Node.deliver_alarmHysteresis (n : Node) (ts : List Task) : (n.deliver ts).alarm.hysteresis = n.alarm.hysteresis := (n.deliver_reported ts).alarmHysteresis
@[simp] theorem Node.deliver_alarmLimit (n : Node) (ts : List Task) : (n.deliver ts).alarm.limit = n.alarm.limit := (n.deliver_reported ts).alarmLimit
@[simp] theorem Node.deliver_alarmOrigins (n : Node) (ts : List Task) : (n.deliver ts).alarm.origins = n.alarm.origins := (n.deliver_reported ts).alarmOrigins
@[simp] theorem Node.deliver_alarmSilenced (n : Node) (ts : List Task) : (n.deliver ts).alarm.silenced = n.alarm.silenced := (n.deliver_reported ts).alarmSilenced
@[simp] theorem Node.deliver_alarmRemote (n : Node) (ts : List Task) : (n.deliver ts).alarm.remote = n.alarm.remote := (n.deliver_reported ts).alarmRemote
@[simp] theorem Node.deliver_alarmWalkTest (n : Node) (ts : List Task) : (n.deliver ts).alarm.walkTest = n.alarm.walkTest := (n.deliver_reported ts).alarmWalkTest
@[simp] theorem Node.deliver_alarmTestEnded (n : Node) (ts : List Task) : (n.deliver ts).alarm.testEnded = n.alarm.testEnded := (n.deliver_reported ts).alarmTestEnded
@[simp] theorem Node.deliver_alarmTestSound (n : Node) (ts : List Task) : (n.deliver ts).alarm.testSound = n.alarm.testSound := (n.deliver_reported ts).alarmTestSound
@[simp] theorem Node.deliver_alarmWantFast (n : Node) (ts : List Task) : (n.deliver ts).alarm.wantFast = n.alarm.wantFast := (n.deliver_reported ts).alarmWantFast
@[simp] theorem Node.deliver_txContention (n : Node) (ts : List Task) : (n.deliver ts).tx.contention = n.tx.contention := (n.deliver_reported ts).txContention
@[simp] theorem Node.deliver_txGrid (n : Node) (ts : List Task) : (n.deliver ts).tx.grid = n.tx.grid := (n.deliver_reported ts).txGrid
@[simp] theorem Node.deliver_txRadioFault (n : Node) (ts : List Task) : (n.deliver ts).tx.radioFault = n.tx.radioFault := (n.deliver_reported ts).txRadioFault
@[simp] theorem Node.deliver_txBackoff (n : Node) (ts : List Task) : (n.deliver ts).tx.backoff = n.tx.backoff := (n.deliver_reported ts).txBackoff
@[simp] theorem Node.deliver_txOnAir (n : Node) (ts : List Task) : (n.deliver ts).tx.onAir = n.tx.onAir := (n.deliver_reported ts).txOnAir
@[simp] theorem Node.deliver_txBeaconDue (n : Node) (ts : List Task) : (n.deliver ts).tx.beaconDue = n.tx.beaconDue := (n.deliver_reported ts).txBeaconDue
@[simp] theorem Node.deliver_txHalfDue (n : Node) (ts : List Task) : (n.deliver ts).tx.halfDue = n.tx.halfDue := (n.deliver_reported ts).txHalfDue
@[simp] theorem Node.deliver_txHalfMark (n : Node) (ts : List Task) : (n.deliver ts).tx.halfMark = n.tx.halfMark := (n.deliver_reported ts).txHalfMark
@[simp] theorem Node.deliver_txRng (n : Node) (ts : List Task) : (n.deliver ts).tx.rng = n.tx.rng := (n.deliver_reported ts).txRng
@[simp] theorem Node.deliver_txLosses (n : Node) (ts : List Task) : (n.deliver ts).tx.losses = n.tx.losses := (n.deliver_reported ts).txLosses
@[simp] theorem Node.deliver_rx (n : Node) (ts : List Task) : (n.deliver ts).rx = n.rx := (n.deliver_reported ts).rx
@[simp] theorem Node.deliver_power (n : Node) (ts : List Task) : (n.deliver ts).power = n.power := (n.deliver_reported ts).power
@[simp] theorem Node.deliver_out (n : Node) (ts : List Task) : (n.deliver ts).out = n.out := (n.deliver_reported ts).out
@[simp] theorem Node.deliver_loader (n : Node) (ts : List Task) : (n.deliver ts).loader = n.loader := (n.deliver_reported ts).loader
@[simp] theorem Node.deliver_serialRx (n : Node) (ts : List Task) : (n.deliver ts).serial.rx = n.serial.rx := (n.deliver_reported ts).serialRx
@[simp] theorem Node.deliver_serialTimeout (n : Node) (ts : List Task) : (n.deliver ts).serial.timeout = n.serial.timeout := (n.deliver_reported ts).serialTimeout
@[simp] theorem Node.deliver_serialAnswers (n : Node) (ts : List Task) : (n.deliver ts).serial.answers = n.serial.answers := (n.deliver_reported ts).serialAnswers
@[simp] theorem Node.deliver_serialTx (n : Node) (ts : List Task) : (n.deliver ts).serial.tx = n.serial.tx := (n.deliver_reported ts).serialTx
@[simp] theorem Node.deliver_untypedRejects (n : Node) (ts : List Task) : (n.deliver ts).untypedRejects = n.untypedRejects := (n.deliver_reported ts).untypedRejects

end Sys2Proof.Machine
end

