-- ==== Sys2Proof/Laws/Lists.lean ====
section
/-! SUPPORT. The list operations, once each: their lengths, and what they do at the first element that passes. -/

namespace Sys2Proof.Machine

variable {α : Type}

@[simp] theorem setAt_length (xs : List α) (i : Nat) (y : α) : (setAt xs i y).length = xs.length := by
  induction xs generalizing i with
  | nil => rfl
  | cons x xs ih => cases i <;> simp [setAt, ih]

@[simp] theorem updateFirst_length (p : α → Bool) (f : α → α) (xs : List α) :
    (updateFirst p f xs).length = xs.length := by
  induction xs with
  | nil => rfl
  | cons x xs ih => simp only [updateFirst]; split <;> simp [ih]

theorem removeAt_length_le (xs : List α) (i : Nat) : (removeAt xs i).length ≤ xs.length := by
  induction xs generalizing i with
  | nil => exact Nat.le_refl _
  | cons x xs ih =>
    cases i with
    | zero => exact Nat.le_succ _
    | succ i => exact Nat.succ_le_succ (ih i)

theorem removeAt_length (xs : List α) (i : Nat) (h : i < xs.length) :
    (removeAt xs i).length + 1 = xs.length := by
  induction xs generalizing i with
  | nil => exact absurd h (Nat.not_lt_zero i)
  | cons x xs ih =>
    cases i with
    | zero => rfl
    | succ i => simp [removeAt, ih i (Nat.lt_of_succ_lt_succ h)]

theorem removeFirst_length_le (p : α → Bool) (xs : List α) : (removeFirst p xs).length ≤ xs.length := by
  induction xs with
  | nil => exact Nat.le_refl _
  | cons x xs ih => simp only [removeFirst]; split <;> simp only [List.length_cons] <;> omega

@[simp] theorem setAt_append (a b : List α) (x y : α) : setAt (a ++ x :: b) a.length y = a ++ y :: b := by
  induction a with
  | nil => rfl
  | cons z a ih => simp [setAt, ih]

@[simp] theorem removeAt_append (a b : List α) (x : α) : removeAt (a ++ x :: b) a.length = a ++ b := by
  induction a with
  | nil => rfl
  | cons z a ih => simp [removeAt, ih]

theorem setAt_getElem?_self (xs : List α) (i : Nat) (y : α) (h : i < xs.length) :
    (setAt xs i y)[i]? = some y := by
  induction xs generalizing i with
  | nil => exact absurd h (Nat.not_lt_zero i)
  | cons x xs ih =>
    cases i with
    | zero => rfl
    | succ i => simpa [setAt] using ih i (Nat.lt_of_succ_lt_succ h)

theorem setAt_getElem?_ne (xs : List α) (i j : Nat) (y : α) (h : j ≠ i) : (setAt xs i y)[j]? = xs[j]? := by
  induction xs generalizing i j with
  | nil => rfl
  | cons x xs ih =>
    cases i with
    | zero =>
      cases j with
      | zero => exact absurd rfl h
      | succ j => simp [setAt]
    | succ i =>
      cases j with
      | zero => simp [setAt]
      | succ j => simpa [setAt] using ih i j (fun e => h (congrArg Nat.succ e))

theorem updateFirst_append (p : α → Bool) (f : α → α) (a b : List α) (x : α)
    (ha : ∀ y ∈ a, p y = false) (hx : p x = true) : updateFirst p f (a ++ x :: b) = a ++ f x :: b := by
  induction a with
  | nil => simp [updateFirst, hx]
  | cons z a ih =>
    have hz : p z = false := ha z (List.mem_cons_self ..)
    simp [updateFirst, hz, ih (fun y hy => ha y (List.mem_cons_of_mem z hy))]

theorem removeFirst_append (p : α → Bool) (a b : List α) (x : α) (ha : ∀ y ∈ a, p y = false)
    (hx : p x = true) : removeFirst p (a ++ x :: b) = a ++ b := by
  induction a with
  | nil => simp [removeFirst, hx]
  | cons z a ih =>
    have hz : p z = false := ha z (List.mem_cons_self ..)
    simp [removeFirst, hz, ih (fun y hy => ha y (List.mem_cons_of_mem z hy))]

theorem updateFirst_none (p : α → Bool) (f : α → α) (xs : List α) (h : ∀ y ∈ xs, p y = false) :
    updateFirst p f xs = xs := by
  induction xs with
  | nil => rfl
  | cons z a ih =>
    have hz : p z = false := h z (List.mem_cons_self ..)
    simp [updateFirst, hz, ih (fun y hy => h y (List.mem_cons_of_mem z hy))]

theorem find?_append_first (p : α → Bool) (a b : List α) (x : α) (ha : ∀ y ∈ a, p y = false)
    (hx : p x = true) : (a ++ x :: b).find? p = some x := by
  induction a with
  | nil => simp [hx]
  | cons z a ih =>
    have hz : p z = false := ha z (List.mem_cons_self ..)
    simp only [List.cons_append, List.find?_cons, hz]
    exact ih (fun y hy => ha y (List.mem_cons_of_mem z hy))

theorem indexFrom_append (p : α → Bool) (a b : List α) (x : α) (i : Nat) (ha : ∀ y ∈ a, p y = false)
    (hx : p x = true) : indexFrom p i (a ++ x :: b) = some (i + a.length) := by
  induction a generalizing i with
  | nil => simp [indexFrom, hx]
  | cons z a ih =>
    have hz : p z = false := ha z (List.mem_cons_self ..)
    simp only [List.cons_append, indexFrom, hz]
    rw [if_neg Bool.false_ne_true, ih (i + 1) (fun y hy => ha y (List.mem_cons_of_mem z hy))]
    simp only [List.length_cons]
    congr 1
    omega

/-- The index of the first element that passes. -/
theorem indexOf_append (p : α → Bool) (a b : List α) (x : α) (ha : ∀ y ∈ a, p y = false)
    (hx : p x = true) : indexOf p (a ++ x :: b) = some a.length := by
  simpa [indexOf] using indexFrom_append p a b x 0 ha hx

theorem indexFrom_none (p : α → Bool) (xs : List α) (i : Nat) (h : ∀ y ∈ xs, p y = false) :
    indexFrom p i xs = none := by
  induction xs generalizing i with
  | nil => rfl
  | cons z a ih =>
    have hz : p z = false := h z (List.mem_cons_self ..)
    simp [indexFrom, hz, ih (i + 1) (fun y hy => h y (List.mem_cons_of_mem z hy))]

/-- No element passes, no index. -/
theorem indexOf_none (p : α → Bool) (xs : List α) (h : ∀ y ∈ xs, p y = false) : indexOf p xs = none :=
  indexFrom_none p xs 0 h

theorem indexFrom_spec (p : α → Bool) (xs : List α) (i j : Nat) (h : indexFrom p i xs = some j) :
    ∃ a x b, xs = a ++ x :: b ∧ j = i + a.length ∧ p x = true ∧ ∀ y ∈ a, p y = false := by
  induction xs generalizing i with
  | nil => cases h
  | cons z xs ih =>
    simp only [indexFrom] at h
    split at h
    · next hz => cases h; exact ⟨[], z, xs, rfl, rfl, hz, by simp⟩
    · next hz =>
      obtain ⟨a, x, b, rfl, rfl, hx, ha⟩ := ih (i + 1) h
      refine ⟨z :: a, x, b, rfl, by simp only [List.length_cons]; omega, hx, ?_⟩
      intro y hy
      rcases List.mem_cons.mp hy with rfl | hy
      · simpa using hz
      · exact ha y hy

/-- What an index found says. -/
theorem indexOf_spec (p : α → Bool) (xs : List α) (j : Nat) (h : indexOf p xs = some j) :
    ∃ a x b, xs = a ++ x :: b ∧ j = a.length ∧ p x = true ∧ ∀ y ∈ a, p y = false := by
  simpa [indexOf] using indexFrom_spec p xs 0 j h

theorem lastIndexFrom_lt (p : α → Bool) (xs : List α) (i j : Nat) (h : lastIndexFrom p i xs = some j) :
    j < i + xs.length := by
  induction xs generalizing i with
  | nil => cases h
  | cons z xs ih =>
    simp only [lastIndexFrom] at h
    split at h
    · next k hk => cases h; have := ih (i + 1) hk; simp only [List.length_cons]; omega
    · split at h
      · cases h; simp only [List.length_cons]; omega
      · cases h

/-- The index of the last element that passes is one of the list's. -/
theorem lastIndexOf_lt (p : α → Bool) (xs : List α) (j : Nat) (h : lastIndexOf p xs = some j) :
    j < xs.length := by
  simpa using lastIndexFrom_lt p xs 0 j h

end Sys2Proof.Machine
end

