-- ==== Sys2Proof/Laws/Queue.lean ====
section
/-! SUPPORT. What the transmit queue's operations can do, said once (R107 to R111): the bound of 8 entries, and the
queue an offer and a withdrawal leave. -/

namespace Sys2Proof.Machine

@[simp] theorem Transmitter.leaveIdle_queue (t : Transmitter) : t.leaveIdle.queue = t.queue := by
  unfold Transmitter.leaveIdle; split <;> rfl

/-- An accepted frame is the newest entry; a one-hop frame under the value of the one-hop count. -/
theorem Transmitter.accept_queue (t : Transmitter) (now : Stamp) (f : Frame) (own : Bool) (earliest : Stamp)
    (attempt : Option Nat) :
    (t.accept now f own earliest attempt).queue =
      t.queue ++ [newEntry now (if f.cls.relayable then f else f.withSeq t.oneHopValue) own earliest attempt] := by
  unfold Transmitter.accept
  simp only [leaveIdle_queue]
  split <;> rfl

theorem Transmitter.accept_length (t : Transmitter) (now : Stamp) (f : Frame) (own : Bool) (earliest : Stamp)
    (attempt : Option Nat) : (t.accept now f own earliest attempt).queue.length = t.queue.length + 1 := by
  simp [accept_queue]

theorem evictionIndex_lt (queue : List TxEntry) (rank : Nat) (own : Bool) (i : Nat)
    (h : evictionIndex queue rank own = some i) : i < queue.length := by
  unfold evictionIndex at h
  simp only [] at h
  split at h
  · split at h
    · exact lastIndexOf_lt _ _ _ h
    · cases h
  · exact lastIndexOf_lt _ _ _ h

/-- While there is room an offered frame is taken and nothing is evicted. -/
theorem Transmitter.seat_room (t : Transmitter) (now : Stamp) (f : Frame) (own : Bool) (earliest : Stamp)
    (attempt : Option Nat) (h : t.queue.length < 8) :
    t.seat now f own earliest attempt = (t.accept now f own earliest attempt, .accepted, none) := by
  unfold Transmitter.seat; rw [if_pos h]

/-- Making room keeps the bound of 8. -/
theorem Transmitter.seat_length (t : Transmitter) (now : Stamp) (f : Frame) (own : Bool) (earliest : Stamp)
    (attempt : Option Nat) (h : t.queue.length ≤ 8) :
    (t.seat now f own earliest attempt).1.queue.length ≤ 8 := by
  unfold Transmitter.seat
  split
  · next hl => simp only [accept_length]; omega
  · split
    · exact h
    · next i hi =>
      have := removeAt_length t.queue i (evictionIndex_lt _ _ _ _ hi)
      simp only [accept_length]
      omega

theorem Transmitter.identify_length (t u : Transmitter) (f : Frame) (own : Bool)
    (h : t.identify f own = some u) : u.queue.length = t.queue.length := by
  unfold Transmitter.identify at h
  split at h
  · cases h; rfl
  · split at h
    · cases h; rfl
    · split at h
      · cases h; simp [Transmitter.resequence]
      · cases h

/-- An offer keeps the bound of 8 (R106). -/
theorem Transmitter.offer_length (t : Transmitter) (now : Stamp) (f : Frame) (own : Bool) (earliest : Stamp)
    (attempt : Option Nat) (h : t.queue.length ≤ 8) :
    (t.offer now f own earliest attempt).1.queue.length ≤ 8 := by
  unfold Transmitter.offer
  split
  · split
    · exact h
    · next u hu =>
      exact Transmitter.seat_length u now f own earliest attempt
        ((Transmitter.identify_length t u f own hu).symm ▸ h)
  · split
    · next i hi =>
      have := removeAt_length t.queue i (lastIndexOf_lt _ _ _ hi)
      simp only [accept_length]
      omega
    · exact Transmitter.seat_length t now f own earliest attempt h

/-- A relayable frame whose identity no entry holds, offered while there is room, becomes the newest entry. -/
theorem Transmitter.offer_fresh (t : Transmitter) (now : Stamp) (f : Frame) (own : Bool) (earliest : Stamp)
    (attempt : Option Nat) (hr : f.cls.relayable = true) (hl : t.queue.length < 8)
    (hd : ∀ e ∈ t.queue, e.holds f.hdr.origin f.hdr.seq = false) :
    t.offer now f own earliest attempt = (t.accept now f own earliest attempt, .accepted, none) := by
  unfold Transmitter.offer Transmitter.identify
  rw [if_pos hr, indexOf_none _ _ hd]
  exact Transmitter.seat_room t now f own earliest attempt hl

/-- A withdrawal of an entry that waits removes it (R111). -/
theorem Transmitter.withdraw_waiting (t : Transmitter) (origin seq : Byte) (a b : List TxEntry) (e : TxEntry)
    (hq : t.queue = a ++ e :: b) (ha : ∀ y ∈ a, y.holds origin seq = false) (he : e.holds origin seq = true)
    (hw : e.waits = true) : t.withdraw origin seq = ({ t with queue := a ++ b }, .withdrawn) := by
  unfold Transmitter.withdraw
  rw [hq, indexOf_append _ a b e ha he]
  simp [hw]

/-- A withdrawal of an entry that is active comes too late and changes nothing (R111). -/
theorem Transmitter.withdraw_late (t : Transmitter) (origin seq : Byte) (a b : List TxEntry) (e : TxEntry)
    (hq : t.queue = a ++ e :: b) (ha : ∀ y ∈ a, y.holds origin seq = false) (he : e.holds origin seq = true)
    (hw : e.waits = false) : t.withdraw origin seq = (t, .tooLate) := by
  unfold Transmitter.withdraw
  rw [hq, indexOf_append _ a b e ha he]
  simp [hw]

theorem Transmitter.withdraw_length (t : Transmitter) (origin seq : Byte) :
    (t.withdraw origin seq).1.queue.length ≤ t.queue.length := by
  unfold Transmitter.withdraw
  split
  · exact Nat.le_refl _
  · split
    · exact Nat.le_refl _
    · split
      · exact removeAt_length_le ..
      · exact Nat.le_refl _

end Sys2Proof.Machine
end

