-- ==== Sys2Proof/Laws/Settle.lean ====
section
/-! SUPPORT. What settling a state can do, said once: each part of `Node.settle` changes only what follows from a
change of state (`Node.FollowsFrom`). -/

namespace Sys2Proof.Machine

/-- Nothing follows from no change. -/
theorem Node.FollowsFrom.refl (n : Node) : n.FollowsFrom n := by constructor <;> rfl

/-- What follows from what follows. -/
theorem Node.FollowsFrom.trans {a b c : Node} (h : a.FollowsFrom b) (k : b.FollowsFrom c) : a.FollowsFrom c where
  clock := k.clock.trans h.clock
  timerRunning := k.timerRunning.trans h.timerRunning
  sensing := k.sensing.trans h.sensing
  evidence := k.evidence.trans h.evidence
  peers := k.peers.trans h.peers
  alarmState := k.alarmState.trans h.alarmState
  alarmConfirmCount := k.alarmConfirmCount.trans h.alarmConfirmCount
  alarmHysteresis := k.alarmHysteresis.trans h.alarmHysteresis
  alarmLimit := k.alarmLimit.trans h.alarmLimit
  alarmOrigins := k.alarmOrigins.trans h.alarmOrigins
  alarmSilenced := k.alarmSilenced.trans h.alarmSilenced
  alarmRemote := k.alarmRemote.trans h.alarmRemote
  alarmWalkTest := k.alarmWalkTest.trans h.alarmWalkTest
  alarmTestEnded := k.alarmTestEnded.trans h.alarmTestEnded
  alarmTestSound := k.alarmTestSound.trans h.alarmTestSound
  alarmNotices := k.alarmNotices.trans h.alarmNotices
  alarmLastEvent := k.alarmLastEvent.trans h.alarmLastEvent
  txQueue := k.txQueue.trans h.txQueue
  txOneHop := k.txOneHop.trans h.txOneHop
  txContention := k.txContention.trans h.txContention
  txSynth := k.txSynth.trans h.txSynth
  txRadioFault := k.txRadioFault.trans h.txRadioFault
  txBackoff := k.txBackoff.trans h.txBackoff
  txOnAir := k.txOnAir.trans h.txOnAir
  txBeaconDue := k.txBeaconDue.trans h.txBeaconDue
  txHalfDue := k.txHalfDue.trans h.txHalfDue
  txHalfMark := k.txHalfMark.trans h.txHalfMark
  txRng := k.txRng.trans h.txRng
  txDrops := k.txDrops.trans h.txDrops
  txLosses := k.txLosses.trans h.txLosses
  rxCarrier := k.rxCarrier.trans h.rxCarrier
  rxSlots := k.rxSlots.trans h.rxSlots
  rxOrder := k.rxOrder.trans h.rxOrder
  rxService := k.rxService.trans h.rxService
  rxCapture := k.rxCapture.trans h.rxCapture
  rxBadFrames := k.rxBadFrames.trans h.rxBadFrames
  rxForeign := k.rxForeign.trans h.rxForeign
  rxOverruns := k.rxOverruns.trans h.rxOverruns
  relay := k.relay.trans h.relay
  link := k.link.trans h.link
  powerParked := k.powerParked.trans h.powerParked
  powerRunHold := k.powerRunHold.trans h.powerRunHold
  powerBattery := k.powerBattery.trans h.powerBattery
  outOverlay := k.outOverlay.trans h.outOverlay
  outTamperLine := k.outTamperLine.trans h.outTamperLine
  outOffBase := k.outOffBase.trans h.outOffBase
  outTamperDebounce := k.outTamperDebounce.trans h.outTamperDebounce
  outTestLine := k.outTestLine.trans h.outTestLine
  outTestPressed := k.outTestPressed.trans h.outTestPressed
  outTestDebounce := k.outTestDebounce.trans h.outTestDebounce
  outHold := k.outHold.trans h.outHold
  loader := k.loader.trans h.loader
  serialRx := k.serialRx.trans h.serialRx
  serialTimeout := k.serialTimeout.trans h.serialTimeout
  serialAnswers := k.serialAnswers.trans h.serialAnswers
  untypedRejects := k.untypedRejects.trans h.untypedRejects

/-- A FAST request keeps the count stage running or stopped. -/
@[simp] theorem SampleTimer.fast_running (t : SampleTimer) (r : Role) : (t.fast r).running = t.running := by
  unfold SampleTimer.fast; split <;> rfl

/-- A SLOW request keeps the count stage running or stopped. -/
@[simp] theorem SampleTimer.slow_running (t : SampleTimer) : t.slow.running = t.running := by
  unfold SampleTimer.slow; split <;> rfl

/-- The line transmitter's next record changes neither the receiver nor the answers owed. -/
theorem Serial.kick_keeps (s : Serial) :
    s.kick.rx = s.rx ∧ s.kick.timeout = s.timeout ∧ s.kick.answers = s.answers := by
  unfold Serial.kick
  split
  · exact ⟨rfl, rfl, rfl⟩
  · split
    · exact ⟨rfl, rfl, rfl⟩
    · split <;> exact ⟨rfl, rfl, rfl⟩

theorem Node.settleInterval_follows (n : Node) : n.FollowsFrom n.settleInterval := by
  unfold Node.settleInterval
  simp only []
  split
  · exact .refl n
  · constructor <;> first | rfl | (show SampleTimer.running (if _ then _ else _) = _; split <;> simp)

theorem Node.enterRun_follows (n : Node) : n.FollowsFrom n.enterRun := by
  unfold Node.enterRun
  constructor <;> first | rfl | (simp only []; split <;> rfl)

theorem Node.enterPatrol_follows (n : Node) : n.FollowsFrom n.enterPatrol := by
  constructor <;> rfl

theorem Node.settlePower_follows (n : Node) : n.FollowsFrom n.settlePower := by
  have h : n.FollowsFrom { n with power := { n.power with alarmCause := n.alarmSideCause } } := by
    constructor <;> rfl
  unfold Node.settlePower
  simp only []
  split
  · split
    · exact h.trans (Node.enterRun_follows _)
    · exact h
  · split
    · exact h
    · exact h.trans (Node.enterPatrol_follows _)
  · exact h

theorem Node.switchRx_follows (n : Node) : n.FollowsFrom n.switchRx := by
  unfold Node.switchRx
  split
  · split
    · constructor <;> rfl
    · exact .refl n
  · split
    · exact .refl n
    · constructor <;> rfl

theorem Node.deferToCarrier_follows (n : Node) : n.FollowsFrom n.deferToCarrier := by
  unfold Node.deferToCarrier
  split
  · constructor <;> rfl
  · exact .refl n

theorem Node.settleOutputs_follows (n : Node) : n.FollowsFrom n.settleOutputs := by
  constructor <;> rfl

theorem Node.settleSerial_follows (n : Node) : n.FollowsFrom n.settleSerial := by
  unfold Node.settleSerial
  split
  · exact .refl n
  · have k := Serial.kick_keeps n.serial
    constructor <;> first | rfl | exact k.1 | exact k.2.1 | exact k.2.2

theorem Node.settleOscillator_follows (n : Node) : n.FollowsFrom n.settleOscillator := by
  constructor <;> rfl

theorem Node.wake_follows (n : Node) : n.FollowsFrom n.wake := by
  unfold Node.wake
  split
  · constructor <;> rfl
  · exact .refl n

/-- All that settling can do. -/
theorem Node.settle_follows (n : Node) : n.FollowsFrom n.settle :=
  (n.settleInterval_follows.trans (Node.settlePower_follows _)).trans
    ((Node.switchRx_follows _).trans
      ((Node.deferToCarrier_follows _).trans
        ((Node.settleOutputs_follows _).trans
          ((Node.settleOscillator_follows _).trans (Node.settleSerial_follows _)))))

/-- All that can follow from a wake source's change of state. -/
theorem Node.settleWoken_follows (n : Node) : n.FollowsFrom n.settleWoken :=
  n.wake_follows.trans (Node.settle_follows _)

/-- All that a wake source whose change nothing follows from can do: take its event claim. -/
theorem Node.woken_eq (n : Node) :
    n.woken = { n with power := { n.power with
      claims := n.woken.power.claims, oscillator := n.woken.power.oscillator } } := by
  unfold Node.woken Node.wake
  split <;> rfl

/-- In PATROL and DORMANT a wake source starts a stopped oscillator, with the event claim standing (R169). -/
theorem Node.woken_starts (n : Node) (h : n.power.phase.sleeps = true) (k : n.power.oscillator = .stopped) :
    n.woken.power.oscillator = .starting ∧ n.woken.power.claims.event = true := by
  have h' : n.power.phase ≠ .run ∧ n.power.phase ≠ .startUp := by
    constructor <;> (intro e; rw [e] at h; exact absurd h (by decide))
  simp [Node.woken, Node.wake, Node.settleOscillator, Node.claimsNow, oscillatorAfter, Claims.any, h, k, h'.1, h'.2]

/-! A wake source's claim, field by field: it is all that `Node.wake` changes. -/

@[simp] theorem Node.wake_clock (n : Node) : n.wake.clock = n.clock := by unfold Node.wake; split <;> rfl
@[simp] theorem Node.wake_timer (n : Node) : n.wake.timer = n.timer := by unfold Node.wake; split <;> rfl
@[simp] theorem Node.wake_sensing (n : Node) : n.wake.sensing = n.sensing := by unfold Node.wake; split <;> rfl
@[simp] theorem Node.wake_evidence (n : Node) : n.wake.evidence = n.evidence := by unfold Node.wake; split <;> rfl
@[simp] theorem Node.wake_peers (n : Node) : n.wake.peers = n.peers := by unfold Node.wake; split <;> rfl
@[simp] theorem Node.wake_alarm (n : Node) : n.wake.alarm = n.alarm := by unfold Node.wake; split <;> rfl
@[simp] theorem Node.wake_tx (n : Node) : n.wake.tx = n.tx := by unfold Node.wake; split <;> rfl
@[simp] theorem Node.wake_rx (n : Node) : n.wake.rx = n.rx := by unfold Node.wake; split <;> rfl
@[simp] theorem Node.wake_relay (n : Node) : n.wake.relay = n.relay := by unfold Node.wake; split <;> rfl
@[simp] theorem Node.wake_link (n : Node) : n.wake.link = n.link := by unfold Node.wake; split <;> rfl
@[simp] theorem Node.wake_out (n : Node) : n.wake.out = n.out := by unfold Node.wake; split <;> rfl
@[simp] theorem Node.wake_loader (n : Node) : n.wake.loader = n.loader := by unfold Node.wake; split <;> rfl
@[simp] theorem Node.wake_serial (n : Node) : n.wake.serial = n.serial := by unfold Node.wake; split <;> rfl
@[simp] theorem Node.wake_untypedRejects (n : Node) : n.wake.untypedRejects = n.untypedRejects := by unfold Node.wake; split <;> rfl
@[simp] theorem Node.wake_powerPhase (n : Node) : n.wake.power.phase = n.power.phase := by unfold Node.wake; split <;> rfl
@[simp] theorem Node.wake_powerParked (n : Node) : n.wake.power.parked = n.power.parked := by unfold Node.wake; split <;> rfl
@[simp] theorem Node.wake_powerListen (n : Node) : n.wake.power.listen = n.power.listen := by unfold Node.wake; split <;> rfl
@[simp] theorem Node.wake_powerHunt (n : Node) : n.wake.power.hunt = n.power.hunt := by unfold Node.wake; split <;> rfl
@[simp] theorem Node.wake_powerFrameHold (n : Node) : n.wake.power.frameHold = n.power.frameHold := by unfold Node.wake; split <;> rfl
@[simp] theorem Node.wake_powerLinger (n : Node) : n.wake.power.linger = n.power.linger := by unfold Node.wake; split <;> rfl
@[simp] theorem Node.wake_powerAlarmCause (n : Node) : n.wake.power.alarmCause = n.power.alarmCause := by unfold Node.wake; split <;> rfl
@[simp] theorem Node.wake_powerRunHold (n : Node) : n.wake.power.runHold = n.power.runHold := by unfold Node.wake; split <;> rfl
@[simp] theorem Node.wake_powerLeftRun (n : Node) : n.wake.power.leftRun = n.power.leftRun := by unfold Node.wake; split <;> rfl
@[simp] theorem Node.wake_powerBattery (n : Node) : n.wake.power.battery = n.power.battery := by unfold Node.wake; split <;> rfl
@[simp] theorem Node.wake_powerOscillator (n : Node) : n.wake.power.oscillator = n.power.oscillator := by unfold Node.wake; split <;> rfl

/-- The hunt hold is all that carrier heard in PATROL begins (R164). -/
theorem Node.beginHunt_follows (n : Node) : n.FollowsFrom n.beginHunt := by
  unfold Node.beginHunt
  split
  · constructor <;> rfl
  · exact .refl n

/-- What a listen that outlasts a send begins (R163). -/
theorem Node.resumeListen_follows (n : Node) : n.FollowsFrom n.resumeListen := by
  unfold Node.resumeListen
  split
  · exact n.beginHunt_follows
  · exact .refl n

/-! Field by field. -/

@[simp] theorem Node.settle_clock (n : Node) : (n.settle).clock = n.clock := (n.settle_follows).clock
@[simp] theorem Node.settle_timerRunning (n : Node) : (n.settle).timer.running = n.timer.running := (n.settle_follows).timerRunning
@[simp] theorem Node.settle_sensing (n : Node) : (n.settle).sensing = n.sensing := (n.settle_follows).sensing
@[simp] theorem Node.settle_evidence (n : Node) : (n.settle).evidence = n.evidence := (n.settle_follows).evidence
@[simp] theorem Node.settle_peers (n : Node) : (n.settle).peers = n.peers := (n.settle_follows).peers
@[simp] theorem Node.settle_alarmState (n : Node) : (n.settle).alarm.state = n.alarm.state := (n.settle_follows).alarmState
@[simp] theorem Node.settle_alarmConfirmCount (n : Node) : (n.settle).alarm.confirmCount = n.alarm.confirmCount := (n.settle_follows).alarmConfirmCount
@[simp] theorem Node.settle_alarmHysteresis (n : Node) : (n.settle).alarm.hysteresis = n.alarm.hysteresis := (n.settle_follows).alarmHysteresis
@[simp] theorem Node.settle_alarmLimit (n : Node) : (n.settle).alarm.limit = n.alarm.limit := (n.settle_follows).alarmLimit
@[simp] theorem Node.settle_alarmOrigins (n : Node) : (n.settle).alarm.origins = n.alarm.origins := (n.settle_follows).alarmOrigins
@[simp] theorem Node.settle_alarmSilenced (n : Node) : (n.settle).alarm.silenced = n.alarm.silenced := (n.settle_follows).alarmSilenced
@[simp] theorem Node.settle_alarmRemote (n : Node) : (n.settle).alarm.remote = n.alarm.remote := (n.settle_follows).alarmRemote
@[simp] theorem Node.settle_alarmWalkTest (n : Node) : (n.settle).alarm.walkTest = n.alarm.walkTest := (n.settle_follows).alarmWalkTest
@[simp] theorem Node.settle_alarmTestEnded (n : Node) : (n.settle).alarm.testEnded = n.alarm.testEnded := (n.settle_follows).alarmTestEnded
@[simp] theorem Node.settle_alarmTestSound (n : Node) : (n.settle).alarm.testSound = n.alarm.testSound := (n.settle_follows).alarmTestSound
@[simp] theorem Node.settle_alarmNotices (n : Node) : (n.settle).alarm.notices = n.alarm.notices := (n.settle_follows).alarmNotices
@[simp] theorem Node.settle_alarmLastEvent (n : Node) : (n.settle).alarm.lastEvent = n.alarm.lastEvent := (n.settle_follows).alarmLastEvent
@[simp] theorem Node.settle_txQueue (n : Node) : (n.settle).tx.queue = n.tx.queue := (n.settle_follows).txQueue
@[simp] theorem Node.settle_txOneHop (n : Node) : (n.settle).tx.oneHop = n.tx.oneHop := (n.settle_follows).txOneHop
@[simp] theorem Node.settle_txContention (n : Node) : (n.settle).tx.contention = n.tx.contention := (n.settle_follows).txContention
@[simp] theorem Node.settle_txSynth (n : Node) : (n.settle).tx.synth = n.tx.synth := (n.settle_follows).txSynth
@[simp] theorem Node.settle_txRadioFault (n : Node) : (n.settle).tx.radioFault = n.tx.radioFault := (n.settle_follows).txRadioFault
@[simp] theorem Node.settle_txBackoff (n : Node) : (n.settle).tx.backoff = n.tx.backoff := (n.settle_follows).txBackoff
@[simp] theorem Node.settle_txOnAir (n : Node) : (n.settle).tx.onAir = n.tx.onAir := (n.settle_follows).txOnAir
@[simp] theorem Node.settle_txBeaconDue (n : Node) : (n.settle).tx.beaconDue = n.tx.beaconDue := (n.settle_follows).txBeaconDue
@[simp] theorem Node.settle_txHalfDue (n : Node) : (n.settle).tx.halfDue = n.tx.halfDue := (n.settle_follows).txHalfDue
@[simp] theorem Node.settle_txHalfMark (n : Node) : (n.settle).tx.halfMark = n.tx.halfMark := (n.settle_follows).txHalfMark
@[simp] theorem Node.settle_txRng (n : Node) : (n.settle).tx.rng = n.tx.rng := (n.settle_follows).txRng
@[simp] theorem Node.settle_txDrops (n : Node) : (n.settle).tx.drops = n.tx.drops := (n.settle_follows).txDrops
@[simp] theorem Node.settle_txLosses (n : Node) : (n.settle).tx.losses = n.tx.losses := (n.settle_follows).txLosses
@[simp] theorem Node.settle_rxCarrier (n : Node) : (n.settle).rx.carrier = n.rx.carrier := (n.settle_follows).rxCarrier
@[simp] theorem Node.settle_rxSlots (n : Node) : (n.settle).rx.slots = n.rx.slots := (n.settle_follows).rxSlots
@[simp] theorem Node.settle_rxOrder (n : Node) : (n.settle).rx.order = n.rx.order := (n.settle_follows).rxOrder
@[simp] theorem Node.settle_rxService (n : Node) : (n.settle).rx.service = n.rx.service := (n.settle_follows).rxService
@[simp] theorem Node.settle_rxCapture (n : Node) : (n.settle).rx.capture = n.rx.capture := (n.settle_follows).rxCapture
@[simp] theorem Node.settle_rxBadFrames (n : Node) : (n.settle).rx.badFrames = n.rx.badFrames := (n.settle_follows).rxBadFrames
@[simp] theorem Node.settle_rxForeign (n : Node) : (n.settle).rx.foreign = n.rx.foreign := (n.settle_follows).rxForeign
@[simp] theorem Node.settle_rxOverruns (n : Node) : (n.settle).rx.overruns = n.rx.overruns := (n.settle_follows).rxOverruns
@[simp] theorem Node.settle_relay (n : Node) : (n.settle).relay = n.relay := (n.settle_follows).relay
@[simp] theorem Node.settle_link (n : Node) : (n.settle).link = n.link := (n.settle_follows).link
@[simp] theorem Node.settle_powerParked (n : Node) : (n.settle).power.parked = n.power.parked := (n.settle_follows).powerParked
@[simp] theorem Node.settle_powerRunHold (n : Node) : (n.settle).power.runHold = n.power.runHold := (n.settle_follows).powerRunHold
@[simp] theorem Node.settle_powerBattery (n : Node) : (n.settle).power.battery = n.power.battery := (n.settle_follows).powerBattery
@[simp] theorem Node.settle_outOverlay (n : Node) : (n.settle).out.overlay = n.out.overlay := (n.settle_follows).outOverlay
@[simp] theorem Node.settle_outTamperLine (n : Node) : (n.settle).out.tamperLine = n.out.tamperLine := (n.settle_follows).outTamperLine
@[simp] theorem Node.settle_outOffBase (n : Node) : (n.settle).out.offBase = n.out.offBase := (n.settle_follows).outOffBase
@[simp] theorem Node.settle_outTamperDebounce (n : Node) : (n.settle).out.tamperDebounce = n.out.tamperDebounce := (n.settle_follows).outTamperDebounce
@[simp] theorem Node.settle_outTestLine (n : Node) : (n.settle).out.testLine = n.out.testLine := (n.settle_follows).outTestLine
@[simp] theorem Node.settle_outTestPressed (n : Node) : (n.settle).out.testPressed = n.out.testPressed := (n.settle_follows).outTestPressed
@[simp] theorem Node.settle_outTestDebounce (n : Node) : (n.settle).out.testDebounce = n.out.testDebounce := (n.settle_follows).outTestDebounce
@[simp] theorem Node.settle_outHold (n : Node) : (n.settle).out.hold = n.out.hold := (n.settle_follows).outHold
@[simp] theorem Node.settle_loader (n : Node) : (n.settle).loader = n.loader := (n.settle_follows).loader
@[simp] theorem Node.settle_serialRx (n : Node) : (n.settle).serial.rx = n.serial.rx := (n.settle_follows).serialRx
@[simp] theorem Node.settle_serialTimeout (n : Node) : (n.settle).serial.timeout = n.serial.timeout := (n.settle_follows).serialTimeout
@[simp] theorem Node.settle_serialAnswers (n : Node) : (n.settle).serial.answers = n.serial.answers := (n.settle_follows).serialAnswers
@[simp] theorem Node.settle_untypedRejects (n : Node) : (n.settle).untypedRejects = n.untypedRejects := (n.settle_follows).untypedRejects

end Sys2Proof.Machine
end

