-- ==== Sys2Proof/Laws/State.lean ====
section
/-! SUPPORT. One lemma per field for each named update of the state that always makes the same change; and what a boundary
and a quiet gap can do. -/

namespace Sys2Proof.Machine

/-- A command that ends in a node answers the next state with that node and the queue it was given. -/
theorem State.go_next (s : State) (n : Node) : s.go n = .next { s with node := n } := rfl

/-! ### The slow clock ticks -/

@[simp] theorem Node.ticked_clock (n : Node) : (n.ticked).clock = n.clock + 1 := rfl
@[simp] theorem Node.ticked_timer (n : Node) : (n.ticked).timer = n.timer := rfl
@[simp] theorem Node.ticked_sensing (n : Node) : (n.ticked).sensing = n.sensing := rfl
@[simp] theorem Node.ticked_evidence (n : Node) : (n.ticked).evidence = n.evidence := rfl
@[simp] theorem Node.ticked_peers (n : Node) : (n.ticked).peers = n.peers := rfl
@[simp] theorem Node.ticked_alarmState (n : Node) : (n.ticked).alarm.state = n.alarm.state := rfl
@[simp] theorem Node.ticked_alarmConfirmCount (n : Node) : (n.ticked).alarm.confirmCount = n.alarm.confirmCount := rfl
@[simp] theorem Node.ticked_alarmHysteresis (n : Node) : (n.ticked).alarm.hysteresis = n.alarm.hysteresis := rfl
@[simp] theorem Node.ticked_alarmLimit (n : Node) : (n.ticked).alarm.limit = n.alarm.limit := rfl
@[simp] theorem Node.ticked_alarmOrigins (n : Node) : (n.ticked).alarm.origins = n.alarm.origins := rfl
@[simp] theorem Node.ticked_alarmSilenced (n : Node) : (n.ticked).alarm.silenced = n.alarm.silenced := rfl
@[simp] theorem Node.ticked_alarmRemote (n : Node) : (n.ticked).alarm.remote = n.alarm.remote := rfl
@[simp] theorem Node.ticked_alarmWalkTest (n : Node) : (n.ticked).alarm.walkTest = n.alarm.walkTest := rfl
@[simp] theorem Node.ticked_alarmTestEnded (n : Node) : (n.ticked).alarm.testEnded = none := rfl
@[simp] theorem Node.ticked_alarmTestSound (n : Node) : (n.ticked).alarm.testSound = n.alarm.testSound := rfl
@[simp] theorem Node.ticked_alarmNotices (n : Node) : (n.ticked).alarm.notices = n.alarm.notices := rfl
@[simp] theorem Node.ticked_alarmLastEvent (n : Node) : (n.ticked).alarm.lastEvent = n.alarm.lastEvent := rfl
@[simp] theorem Node.ticked_alarmWantFast (n : Node) : (n.ticked).alarm.wantFast = n.alarm.wantFast := rfl
@[simp] theorem Node.ticked_tx (n : Node) : (n.ticked).tx = n.tx := rfl
@[simp] theorem Node.ticked_rx (n : Node) : (n.ticked).rx = n.rx := rfl
@[simp] theorem Node.ticked_relay (n : Node) : (n.ticked).relay = n.relay := rfl
@[simp] theorem Node.ticked_link (n : Node) : (n.ticked).link = n.link := rfl
@[simp] theorem Node.ticked_powerPhase (n : Node) : (n.ticked).power.phase = n.power.phase := rfl
@[simp] theorem Node.ticked_powerParked (n : Node) : (n.ticked).power.parked = n.power.parked := rfl
@[simp] theorem Node.ticked_powerListen (n : Node) : (n.ticked).power.listen = n.power.listen := rfl
@[simp] theorem Node.ticked_powerHunt (n : Node) : (n.ticked).power.hunt = n.power.hunt := rfl
@[simp] theorem Node.ticked_powerFrameHold (n : Node) : (n.ticked).power.frameHold = n.power.frameHold := rfl
@[simp] theorem Node.ticked_powerLinger (n : Node) : (n.ticked).power.linger = n.power.linger := rfl
@[simp] theorem Node.ticked_powerAlarmCause (n : Node) : (n.ticked).power.alarmCause = n.power.alarmCause := rfl
@[simp] theorem Node.ticked_powerRunHold (n : Node) : (n.ticked).power.runHold = n.power.runHold := rfl
@[simp] theorem Node.ticked_powerLeftRun (n : Node) : (n.ticked).power.leftRun = none := rfl
@[simp] theorem Node.ticked_powerBattery (n : Node) : (n.ticked).power.battery = n.power.battery := rfl
@[simp] theorem Node.ticked_powerClaims (n : Node) : (n.ticked).power.claims = n.power.claims := rfl
@[simp] theorem Node.ticked_powerOscillator (n : Node) : (n.ticked).power.oscillator = n.power.oscillator := rfl
@[simp] theorem Node.ticked_out (n : Node) : (n.ticked).out = n.out := rfl
@[simp] theorem Node.ticked_loader (n : Node) : (n.ticked).loader = n.loader := rfl
@[simp] theorem Node.ticked_serial (n : Node) : (n.ticked).serial = n.serial := rfl
@[simp] theorem Node.ticked_untypedRejects (n : Node) : (n.ticked).untypedRejects = n.untypedRejects := rfl

/-! ### A relayable frame is originated -/

@[simp] theorem Node.nextSeq_clock (n : Node) : (n.nextSeq).clock = n.clock := rfl
@[simp] theorem Node.nextSeq_timer (n : Node) : (n.nextSeq).timer = n.timer := rfl
@[simp] theorem Node.nextSeq_sensing (n : Node) : (n.nextSeq).sensing = n.sensing := rfl
@[simp] theorem Node.nextSeq_evidence (n : Node) : (n.nextSeq).evidence = n.evidence := rfl
@[simp] theorem Node.nextSeq_peers (n : Node) : (n.nextSeq).peers = n.peers := rfl
@[simp] theorem Node.nextSeq_alarm (n : Node) : (n.nextSeq).alarm = n.alarm := rfl
@[simp] theorem Node.nextSeq_tx (n : Node) : (n.nextSeq).tx = n.tx := rfl
@[simp] theorem Node.nextSeq_rx (n : Node) : (n.nextSeq).rx = n.rx := rfl
@[simp] theorem Node.nextSeq_relaySeen (n : Node) : (n.nextSeq).relay.seen = n.relay.seen := rfl
@[simp] theorem Node.nextSeq_relayWatch (n : Node) : (n.nextSeq).relay.watch = n.relay.watch := rfl
@[simp] theorem Node.nextSeq_relayOriginSeq (n : Node) : (n.nextSeq).relay.originSeq = n.relay.originSeq + 1 := rfl
@[simp] theorem Node.nextSeq_link (n : Node) : (n.nextSeq).link = n.link := rfl
@[simp] theorem Node.nextSeq_power (n : Node) : (n.nextSeq).power = n.power := rfl
@[simp] theorem Node.nextSeq_out (n : Node) : (n.nextSeq).out = n.out := rfl
@[simp] theorem Node.nextSeq_loader (n : Node) : (n.nextSeq).loader = n.loader := rfl
@[simp] theorem Node.nextSeq_serial (n : Node) : (n.nextSeq).serial = n.serial := rfl
@[simp] theorem Node.nextSeq_untypedRejects (n : Node) : (n.nextSeq).untypedRejects = n.untypedRejects := rfl

/-! ### A draw of the random generator -/

@[simp] theorem Node.draw_clock (n : Node) : (n.draw).clock = n.clock := rfl
@[simp] theorem Node.draw_timer (n : Node) : (n.draw).timer = n.timer := rfl
@[simp] theorem Node.draw_sensing (n : Node) : (n.draw).sensing = n.sensing := rfl
@[simp] theorem Node.draw_evidence (n : Node) : (n.draw).evidence = n.evidence := rfl
@[simp] theorem Node.draw_peers (n : Node) : (n.draw).peers = n.peers := rfl
@[simp] theorem Node.draw_alarm (n : Node) : (n.draw).alarm = n.alarm := rfl
@[simp] theorem Node.draw_txQueue (n : Node) : (n.draw).tx.queue = n.tx.queue := rfl
@[simp] theorem Node.draw_txOneHop (n : Node) : (n.draw).tx.oneHop = n.tx.oneHop := rfl
@[simp] theorem Node.draw_txEngine (n : Node) : (n.draw).tx.engine = n.tx.engine := rfl
@[simp] theorem Node.draw_txContention (n : Node) : (n.draw).tx.contention = n.tx.contention := rfl
@[simp] theorem Node.draw_txGrid (n : Node) : (n.draw).tx.grid = n.tx.grid := rfl
@[simp] theorem Node.draw_txSynth (n : Node) : (n.draw).tx.synth = n.tx.synth := rfl
@[simp] theorem Node.draw_txRadioFault (n : Node) : (n.draw).tx.radioFault = n.tx.radioFault := rfl
@[simp] theorem Node.draw_txBackoff (n : Node) : (n.draw).tx.backoff = n.tx.backoff := rfl
@[simp] theorem Node.draw_txOnAir (n : Node) : (n.draw).tx.onAir = n.tx.onAir := rfl
@[simp] theorem Node.draw_txBeaconDue (n : Node) : (n.draw).tx.beaconDue = n.tx.beaconDue := rfl
@[simp] theorem Node.draw_txHalfDue (n : Node) : (n.draw).tx.halfDue = n.tx.halfDue := rfl
@[simp] theorem Node.draw_txHalfMark (n : Node) : (n.draw).tx.halfMark = n.tx.halfMark := rfl
@[simp] theorem Node.draw_txRng (n : Node) : (n.draw).tx.rng = rngDraw n.tx.rng := rfl
@[simp] theorem Node.draw_txDrops (n : Node) : (n.draw).tx.drops = n.tx.drops := rfl
@[simp] theorem Node.draw_txLosses (n : Node) : (n.draw).tx.losses = n.tx.losses := rfl
@[simp] theorem Node.draw_rx (n : Node) : (n.draw).rx = n.rx := rfl
@[simp] theorem Node.draw_relay (n : Node) : (n.draw).relay = n.relay := rfl
@[simp] theorem Node.draw_link (n : Node) : (n.draw).link = n.link := rfl
@[simp] theorem Node.draw_power (n : Node) : (n.draw).power = n.power := rfl
@[simp] theorem Node.draw_out (n : Node) : (n.draw).out = n.out := rfl
@[simp] theorem Node.draw_loader (n : Node) : (n.draw).loader = n.loader := rfl
@[simp] theorem Node.draw_serial (n : Node) : (n.draw).serial = n.serial := rfl
@[simp] theorem Node.draw_untypedRejects (n : Node) : (n.draw).untypedRejects = n.untypedRejects := rfl

/-! ### An answer is owed -/

@[simp] theorem Node.answer_clock (n : Node) (a : Answer) : (n.answer a).clock = n.clock := rfl
@[simp] theorem Node.answer_timer (n : Node) (a : Answer) : (n.answer a).timer = n.timer := rfl
@[simp] theorem Node.answer_sensing (n : Node) (a : Answer) : (n.answer a).sensing = n.sensing := rfl
@[simp] theorem Node.answer_evidence (n : Node) (a : Answer) : (n.answer a).evidence = n.evidence := rfl
@[simp] theorem Node.answer_peers (n : Node) (a : Answer) : (n.answer a).peers = n.peers := rfl
@[simp] theorem Node.answer_alarm (n : Node) (a : Answer) : (n.answer a).alarm = n.alarm := rfl
@[simp] theorem Node.answer_tx (n : Node) (a : Answer) : (n.answer a).tx = n.tx := rfl
@[simp] theorem Node.answer_rx (n : Node) (a : Answer) : (n.answer a).rx = n.rx := rfl
@[simp] theorem Node.answer_relay (n : Node) (a : Answer) : (n.answer a).relay = n.relay := rfl
@[simp] theorem Node.answer_link (n : Node) (a : Answer) : (n.answer a).link = n.link := rfl
@[simp] theorem Node.answer_power (n : Node) (a : Answer) : (n.answer a).power = n.power := rfl
@[simp] theorem Node.answer_out (n : Node) (a : Answer) : (n.answer a).out = n.out := rfl
@[simp] theorem Node.answer_loader (n : Node) (a : Answer) : (n.answer a).loader = n.loader := rfl
@[simp] theorem Node.answer_serialRx (n : Node) (a : Answer) : (n.answer a).serial.rx = n.serial.rx := rfl
@[simp] theorem Node.answer_serialTimeout (n : Node) (a : Answer) : (n.answer a).serial.timeout = n.serial.timeout := rfl
@[simp] theorem Node.answer_serialAnswers (n : Node) (a : Answer) : (n.answer a).serial.answers = n.serial.answers ++ [a] := rfl
@[simp] theorem Node.answer_serialTx (n : Node) (a : Answer) : (n.answer a).serial.tx = n.serial.tx := rfl
@[simp] theorem Node.answer_serialPanel (n : Node) (a : Answer) : (n.answer a).serial.panel = n.serial.panel := rfl
@[simp] theorem Node.answer_serialLost (n : Node) (a : Answer) : (n.answer a).serial.lost = n.serial.lost := rfl
@[simp] theorem Node.answer_untypedRejects (n : Node) (a : Answer) : (n.answer a).untypedRejects = n.untypedRejects := rfl

/-! ### The statistics are cleared -/

@[simp] theorem Node.clearStatistics_clock (n : Node) : (n.clearStatistics).clock = n.clock := rfl
@[simp] theorem Node.clearStatistics_timer (n : Node) : (n.clearStatistics).timer = n.timer := rfl
@[simp] theorem Node.clearStatistics_sensingStage (n : Node) : (n.clearStatistics).sensing.stage = n.sensing.stage := rfl
@[simp] theorem Node.clearStatistics_sensingPendingRequest (n : Node) : (n.clearStatistics).sensing.pendingRequest = n.sensing.pendingRequest := rfl
@[simp] theorem Node.clearStatistics_sensingCycleCounter (n : Node) : (n.clearStatistics).sensing.cycleCounter = n.sensing.cycleCounter := rfl
@[simp] theorem Node.clearStatistics_sensingCycle (n : Node) : (n.clearStatistics).sensing.cycle = n.sensing.cycle := rfl
@[simp] theorem Node.clearStatistics_sensingBuffer (n : Node) : (n.clearStatistics).sensing.buffer = n.sensing.buffer := rfl
@[simp] theorem Node.clearStatistics_sensingRail (n : Node) : (n.clearStatistics).sensing.rail = n.sensing.rail := rfl
@[simp] theorem Node.clearStatistics_sensingIrEmitter (n : Node) : (n.clearStatistics).sensing.irEmitter = n.sensing.irEmitter := rfl
@[simp] theorem Node.clearStatistics_sensingBlueEmitter (n : Node) : (n.clearStatistics).sensing.blueEmitter = n.sensing.blueEmitter := rfl
@[simp] theorem Node.clearStatistics_sensingDivider (n : Node) : (n.clearStatistics).sensing.divider = n.sensing.divider := rfl
@[simp] theorem Node.clearStatistics_sensingOneShot (n : Node) : (n.clearStatistics).sensing.oneShot = n.sensing.oneShot := rfl
@[simp] theorem Node.clearStatistics_sensingConverting (n : Node) : (n.clearStatistics).sensing.converting = n.sensing.converting := rfl
@[simp] theorem Node.clearStatistics_sensingHolding (n : Node) : (n.clearStatistics).sensing.holding = n.sensing.holding := rfl
@[simp] theorem Node.clearStatistics_sensingStampWaiting (n : Node) : (n.clearStatistics).sensing.stampWaiting = n.sensing.stampWaiting := rfl
@[simp] theorem Node.clearStatistics_sensingBuffer0 (n : Node) : (n.clearStatistics).sensing.buffer0 = n.sensing.buffer0 := rfl
@[simp] theorem Node.clearStatistics_sensingBuffer1 (n : Node) : (n.clearStatistics).sensing.buffer1 = n.sensing.buffer1 := rfl
@[simp] theorem Node.clearStatistics_sensingMover (n : Node) : (n.clearStatistics).sensing.mover = n.sensing.mover := rfl
@[simp] theorem Node.clearStatistics_sensingInput (n : Node) : (n.clearStatistics).sensing.input = n.sensing.input := rfl
@[simp] theorem Node.clearStatistics_sensingSkipped (n : Node) : (n.clearStatistics).sensing.skipped = 0 := rfl
@[simp] theorem Node.clearStatistics_evidence (n : Node) : (n.clearStatistics).evidence = n.evidence := rfl
@[simp] theorem Node.clearStatistics_peersEntries (n : Node) : (n.clearStatistics).peers.entries = n.peers.entries := rfl
@[simp] theorem Node.clearStatistics_peersLossOrder (n : Node) : (n.clearStatistics).peers.lossOrder = n.peers.lossOrder := rfl
@[simp] theorem Node.clearStatistics_peersLostSubjects (n : Node) : (n.clearStatistics).peers.lostSubjects = n.peers.lostSubjects := rfl
@[simp] theorem Node.clearStatistics_peersConflictRaised (n : Node) : (n.clearStatistics).peers.conflictRaised = n.peers.conflictRaised := rfl
@[simp] theorem Node.clearStatistics_peersConflictHeard (n : Node) : (n.clearStatistics).peers.conflictHeard = n.peers.conflictHeard := rfl
@[simp] theorem Node.clearStatistics_peersQuietCount (n : Node) : (n.clearStatistics).peers.quietCount = n.peers.quietCount := rfl
@[simp] theorem Node.clearStatistics_peersListed (n : Node) : (n.clearStatistics).peers.listed = n.peers.listed := rfl
@[simp] theorem Node.clearStatistics_peersUntracked (n : Node) : (n.clearStatistics).peers.untracked = 0 := rfl
@[simp] theorem Node.clearStatistics_peersPeriodEnd (n : Node) : (n.clearStatistics).peers.periodEnd = n.peers.periodEnd := rfl
@[simp] theorem Node.clearStatistics_alarm (n : Node) : (n.clearStatistics).alarm = n.alarm := rfl
@[simp] theorem Node.clearStatistics_txQueue (n : Node) : (n.clearStatistics).tx.queue = n.tx.queue := rfl
@[simp] theorem Node.clearStatistics_txOneHop (n : Node) : (n.clearStatistics).tx.oneHop = n.tx.oneHop := rfl
@[simp] theorem Node.clearStatistics_txEngine (n : Node) : (n.clearStatistics).tx.engine = n.tx.engine := rfl
@[simp] theorem Node.clearStatistics_txContention (n : Node) : (n.clearStatistics).tx.contention = n.tx.contention := rfl
@[simp] theorem Node.clearStatistics_txGrid (n : Node) : (n.clearStatistics).tx.grid = n.tx.grid := rfl
@[simp] theorem Node.clearStatistics_txSynth (n : Node) : (n.clearStatistics).tx.synth = n.tx.synth := rfl
@[simp] theorem Node.clearStatistics_txRadioFault (n : Node) : (n.clearStatistics).tx.radioFault = n.tx.radioFault := rfl
@[simp] theorem Node.clearStatistics_txBackoff (n : Node) : (n.clearStatistics).tx.backoff = n.tx.backoff := rfl
@[simp] theorem Node.clearStatistics_txOnAir (n : Node) : (n.clearStatistics).tx.onAir = n.tx.onAir := rfl
@[simp] theorem Node.clearStatistics_txBeaconDue (n : Node) : (n.clearStatistics).tx.beaconDue = n.tx.beaconDue := rfl
@[simp] theorem Node.clearStatistics_txHalfDue (n : Node) : (n.clearStatistics).tx.halfDue = n.tx.halfDue := rfl
@[simp] theorem Node.clearStatistics_txHalfMark (n : Node) : (n.clearStatistics).tx.halfMark = n.tx.halfMark := rfl
@[simp] theorem Node.clearStatistics_txRng (n : Node) : (n.clearStatistics).tx.rng = n.tx.rng := rfl
@[simp] theorem Node.clearStatistics_txDrops (n : Node) : (n.clearStatistics).tx.drops = 0 := rfl
@[simp] theorem Node.clearStatistics_txLosses (n : Node) : (n.clearStatistics).tx.losses = 0 := rfl
@[simp] theorem Node.clearStatistics_rxState (n : Node) : (n.clearStatistics).rx.state = n.rx.state := rfl
@[simp] theorem Node.clearStatistics_rxCarrier (n : Node) : (n.clearStatistics).rx.carrier = n.rx.carrier := rfl
@[simp] theorem Node.clearStatistics_rxAssembly (n : Node) : (n.clearStatistics).rx.assembly = n.rx.assembly := rfl
@[simp] theorem Node.clearStatistics_rxSlots (n : Node) : (n.clearStatistics).rx.slots = n.rx.slots := rfl
@[simp] theorem Node.clearStatistics_rxOrder (n : Node) : (n.clearStatistics).rx.order = n.rx.order := rfl
@[simp] theorem Node.clearStatistics_rxService (n : Node) : (n.clearStatistics).rx.service = n.rx.service := rfl
@[simp] theorem Node.clearStatistics_rxCapture (n : Node) : (n.clearStatistics).rx.capture = n.rx.capture := rfl
@[simp] theorem Node.clearStatistics_rxBadFrames (n : Node) : (n.clearStatistics).rx.badFrames = 0 := rfl
@[simp] theorem Node.clearStatistics_rxForeign (n : Node) : (n.clearStatistics).rx.foreign = 0 := rfl
@[simp] theorem Node.clearStatistics_rxOverruns (n : Node) : (n.clearStatistics).rx.overruns = 0 := rfl
@[simp] theorem Node.clearStatistics_relay (n : Node) : (n.clearStatistics).relay = n.relay := rfl
@[simp] theorem Node.clearStatistics_link (n : Node) : (n.clearStatistics).link = n.link := rfl
@[simp] theorem Node.clearStatistics_power (n : Node) : (n.clearStatistics).power = n.power := rfl
@[simp] theorem Node.clearStatistics_out (n : Node) : (n.clearStatistics).out = n.out := rfl
@[simp] theorem Node.clearStatistics_loader (n : Node) : (n.clearStatistics).loader = n.loader := rfl
@[simp] theorem Node.clearStatistics_serial (n : Node) : (n.clearStatistics).serial = n.serial := rfl
@[simp] theorem Node.clearStatistics_untypedRejects (n : Node) : (n.clearStatistics).untypedRejects = n.untypedRejects := rfl

/-! ### The frame in assembly has ended -/

@[simp] theorem Node.endAssembly_clock (n : Node) : (n.endAssembly).clock = n.clock := rfl
@[simp] theorem Node.endAssembly_timer (n : Node) : (n.endAssembly).timer = n.timer := rfl
@[simp] theorem Node.endAssembly_sensing (n : Node) : (n.endAssembly).sensing = n.sensing := rfl
@[simp] theorem Node.endAssembly_evidence (n : Node) : (n.endAssembly).evidence = n.evidence := rfl
@[simp] theorem Node.endAssembly_peers (n : Node) : (n.endAssembly).peers = n.peers := rfl
@[simp] theorem Node.endAssembly_alarm (n : Node) : (n.endAssembly).alarm = n.alarm := rfl
@[simp] theorem Node.endAssembly_tx (n : Node) : (n.endAssembly).tx = n.tx := rfl
@[simp] theorem Node.endAssembly_rxState (n : Node) : (n.endAssembly).rx.state = if n.rx.carrier then .syncHunt else .listening := rfl
@[simp] theorem Node.endAssembly_rxCarrier (n : Node) : (n.endAssembly).rx.carrier = n.rx.carrier := rfl
@[simp] theorem Node.endAssembly_rxAssembly (n : Node) : (n.endAssembly).rx.assembly = none := rfl
@[simp] theorem Node.endAssembly_rxSlots (n : Node) : (n.endAssembly).rx.slots = n.rx.slots := rfl
@[simp] theorem Node.endAssembly_rxOrder (n : Node) : (n.endAssembly).rx.order = n.rx.order := rfl
@[simp] theorem Node.endAssembly_rxService (n : Node) : (n.endAssembly).rx.service = n.rx.service := rfl
@[simp] theorem Node.endAssembly_rxCapture (n : Node) : (n.endAssembly).rx.capture = n.rx.capture := rfl
@[simp] theorem Node.endAssembly_rxBadFrames (n : Node) : (n.endAssembly).rx.badFrames = n.rx.badFrames := rfl
@[simp] theorem Node.endAssembly_rxForeign (n : Node) : (n.endAssembly).rx.foreign = n.rx.foreign := rfl
@[simp] theorem Node.endAssembly_rxOverruns (n : Node) : (n.endAssembly).rx.overruns = n.rx.overruns := rfl
@[simp] theorem Node.endAssembly_relay (n : Node) : (n.endAssembly).relay = n.relay := rfl
@[simp] theorem Node.endAssembly_link (n : Node) : (n.endAssembly).link = n.link := rfl
@[simp] theorem Node.endAssembly_powerPhase (n : Node) : (n.endAssembly).power.phase = n.power.phase := rfl
@[simp] theorem Node.endAssembly_powerParked (n : Node) : (n.endAssembly).power.parked = n.power.parked := rfl
@[simp] theorem Node.endAssembly_powerListen (n : Node) : (n.endAssembly).power.listen = n.power.listen := rfl
@[simp] theorem Node.endAssembly_powerHunt (n : Node) : (n.endAssembly).power.hunt = n.power.hunt := rfl
@[simp] theorem Node.endAssembly_powerFrameHold (n : Node) : (n.endAssembly).power.frameHold = false := rfl
@[simp] theorem Node.endAssembly_powerLinger (n : Node) : (n.endAssembly).power.linger = n.power.linger := rfl
@[simp] theorem Node.endAssembly_powerAlarmCause (n : Node) : (n.endAssembly).power.alarmCause = n.power.alarmCause := rfl
@[simp] theorem Node.endAssembly_powerRunHold (n : Node) : (n.endAssembly).power.runHold = n.power.runHold := rfl
@[simp] theorem Node.endAssembly_powerLeftRun (n : Node) : (n.endAssembly).power.leftRun = n.power.leftRun := rfl
@[simp] theorem Node.endAssembly_powerBattery (n : Node) : (n.endAssembly).power.battery = n.power.battery := rfl
@[simp] theorem Node.endAssembly_powerClaims (n : Node) : (n.endAssembly).power.claims = n.power.claims := rfl
@[simp] theorem Node.endAssembly_powerOscillator (n : Node) : (n.endAssembly).power.oscillator = n.power.oscillator := rfl
@[simp] theorem Node.endAssembly_out (n : Node) : (n.endAssembly).out = n.out := rfl
@[simp] theorem Node.endAssembly_loader (n : Node) : (n.endAssembly).loader = n.loader := rfl
@[simp] theorem Node.endAssembly_serial (n : Node) : (n.endAssembly).serial = n.serial := rfl
@[simp] theorem Node.endAssembly_untypedRejects (n : Node) : (n.endAssembly).untypedRejects = n.untypedRejects := rfl

/-! ### RUN to PATROL -/

@[simp] theorem Node.enterPatrol_clock (n : Node) : (n.enterPatrol).clock = n.clock := rfl
@[simp] theorem Node.enterPatrol_timer (n : Node) : (n.enterPatrol).timer = n.timer := rfl
@[simp] theorem Node.enterPatrol_sensing (n : Node) : (n.enterPatrol).sensing = n.sensing := rfl
@[simp] theorem Node.enterPatrol_evidence (n : Node) : (n.enterPatrol).evidence = n.evidence := rfl
@[simp] theorem Node.enterPatrol_peers (n : Node) : (n.enterPatrol).peers = n.peers := rfl
@[simp] theorem Node.enterPatrol_alarm (n : Node) : (n.enterPatrol).alarm = n.alarm := rfl
@[simp] theorem Node.enterPatrol_tx (n : Node) : (n.enterPatrol).tx = n.tx := rfl
@[simp] theorem Node.enterPatrol_rx (n : Node) : (n.enterPatrol).rx = n.rx := rfl
@[simp] theorem Node.enterPatrol_relay (n : Node) : (n.enterPatrol).relay = n.relay := rfl
@[simp] theorem Node.enterPatrol_link (n : Node) : (n.enterPatrol).link = n.link := rfl
@[simp] theorem Node.enterPatrol_powerPhase (n : Node) : (n.enterPatrol).power.phase = .patrol := rfl
@[simp] theorem Node.enterPatrol_powerParked (n : Node) : (n.enterPatrol).power.parked = n.power.parked := rfl
@[simp] theorem Node.enterPatrol_powerListen (n : Node) : (n.enterPatrol).power.listen = n.power.listen := rfl
@[simp] theorem Node.enterPatrol_powerHunt (n : Node) : (n.enterPatrol).power.hunt = n.power.hunt := rfl
@[simp] theorem Node.enterPatrol_powerFrameHold (n : Node) : (n.enterPatrol).power.frameHold = n.rx.state.holdsFrame := rfl
@[simp] theorem Node.enterPatrol_powerLinger (n : Node) : (n.enterPatrol).power.linger = some (later n.clock 1024) := rfl
@[simp] theorem Node.enterPatrol_powerAlarmCause (n : Node) : (n.enterPatrol).power.alarmCause = n.power.alarmCause := rfl
@[simp] theorem Node.enterPatrol_powerRunHold (n : Node) : (n.enterPatrol).power.runHold = n.power.runHold := rfl
@[simp] theorem Node.enterPatrol_powerLeftRun (n : Node) : (n.enterPatrol).power.leftRun = some n.clock := rfl
@[simp] theorem Node.enterPatrol_powerBattery (n : Node) : (n.enterPatrol).power.battery = n.power.battery := rfl
@[simp] theorem Node.enterPatrol_powerClaims (n : Node) : (n.enterPatrol).power.claims = n.power.claims := rfl
@[simp] theorem Node.enterPatrol_powerOscillator (n : Node) : (n.enterPatrol).power.oscillator = n.power.oscillator := rfl
@[simp] theorem Node.enterPatrol_out (n : Node) : (n.enterPatrol).out = n.out := rfl
@[simp] theorem Node.enterPatrol_loader (n : Node) : (n.enterPatrol).loader = n.loader := rfl
@[simp] theorem Node.enterPatrol_serial (n : Node) : (n.enterPatrol).serial = n.serial := rfl
@[simp] theorem Node.enterPatrol_untypedRejects (n : Node) : (n.enterPatrol).untypedRejects = n.untypedRejects := rfl

/-! ### A sample request -/

@[simp] theorem Node.request_clock (n : Node) : (n.request).clock = n.clock := rfl
@[simp] theorem Node.request_timer (n : Node) : (n.request).timer = n.timer := rfl
@[simp] theorem Node.request_sensing (n : Node) : (n.request).sensing = n.sensing.request n.cfg.role := rfl
@[simp] theorem Node.request_evidence (n : Node) : (n.request).evidence = n.evidence := rfl
@[simp] theorem Node.request_peers (n : Node) : (n.request).peers = n.peers := rfl
@[simp] theorem Node.request_alarm (n : Node) : (n.request).alarm = n.alarm := rfl
@[simp] theorem Node.request_tx (n : Node) : (n.request).tx = n.tx := rfl
@[simp] theorem Node.request_rx (n : Node) : (n.request).rx = n.rx := rfl
@[simp] theorem Node.request_relay (n : Node) : (n.request).relay = n.relay := rfl
@[simp] theorem Node.request_link (n : Node) : (n.request).link = n.link := rfl
@[simp] theorem Node.request_power (n : Node) : (n.request).power = n.power := rfl
@[simp] theorem Node.request_out (n : Node) : (n.request).out = n.out := rfl
@[simp] theorem Node.request_loader (n : Node) : (n.request).loader = n.loader := rfl
@[simp] theorem Node.request_serial (n : Node) : (n.request).serial = n.serial := rfl
@[simp] theorem Node.request_untypedRejects (n : Node) : (n.request).untypedRejects = n.untypedRejects := rfl

/-! ### A period schedules its beacons -/

@[simp] theorem Node.scheduleBeacons_clock (n : Node) : (n.scheduleBeacons).clock = n.clock := rfl
@[simp] theorem Node.scheduleBeacons_timer (n : Node) : (n.scheduleBeacons).timer = n.timer := rfl
@[simp] theorem Node.scheduleBeacons_sensing (n : Node) : (n.scheduleBeacons).sensing = n.sensing := rfl
@[simp] theorem Node.scheduleBeacons_evidence (n : Node) : (n.scheduleBeacons).evidence = n.evidence := rfl
@[simp] theorem Node.scheduleBeacons_peers (n : Node) : (n.scheduleBeacons).peers = n.peers := rfl
@[simp] theorem Node.scheduleBeacons_alarm (n : Node) : (n.scheduleBeacons).alarm = n.alarm := rfl
@[simp] theorem Node.scheduleBeacons_txQueue (n : Node) : (n.scheduleBeacons).tx.queue = n.tx.queue := rfl
@[simp] theorem Node.scheduleBeacons_txOneHop (n : Node) : (n.scheduleBeacons).tx.oneHop = n.tx.oneHop := rfl
@[simp] theorem Node.scheduleBeacons_txEngine (n : Node) : (n.scheduleBeacons).tx.engine = n.tx.engine := rfl
@[simp] theorem Node.scheduleBeacons_txContention (n : Node) : (n.scheduleBeacons).tx.contention = n.tx.contention := rfl
@[simp] theorem Node.scheduleBeacons_txGrid (n : Node) : (n.scheduleBeacons).tx.grid = n.tx.grid := rfl
@[simp] theorem Node.scheduleBeacons_txSynth (n : Node) : (n.scheduleBeacons).tx.synth = n.tx.synth := rfl
@[simp] theorem Node.scheduleBeacons_txRadioFault (n : Node) : (n.scheduleBeacons).tx.radioFault = n.tx.radioFault := rfl
@[simp] theorem Node.scheduleBeacons_txBackoff (n : Node) : (n.scheduleBeacons).tx.backoff = n.tx.backoff := rfl
@[simp] theorem Node.scheduleBeacons_txOnAir (n : Node) : (n.scheduleBeacons).tx.onAir = n.tx.onAir := rfl
@[simp] theorem Node.scheduleBeacons_txBeaconDue (n : Node) : (n.scheduleBeacons).tx.beaconDue = some (later n.clock ((rngDraw n.tx.rng).toNat % 2048)) := rfl
@[simp] theorem Node.scheduleBeacons_txHalfDue (n : Node) : (n.scheduleBeacons).tx.halfDue = n.tx.halfDue := rfl
@[simp] theorem Node.scheduleBeacons_txHalfMark (n : Node) : (n.scheduleBeacons).tx.halfMark = some (later n.clock (n.cfg.period / 2)) := rfl
@[simp] theorem Node.scheduleBeacons_txRng (n : Node) : (n.scheduleBeacons).tx.rng = rngDraw n.tx.rng := rfl
@[simp] theorem Node.scheduleBeacons_txDrops (n : Node) : (n.scheduleBeacons).tx.drops = n.tx.drops := rfl
@[simp] theorem Node.scheduleBeacons_txLosses (n : Node) : (n.scheduleBeacons).tx.losses = n.tx.losses := rfl
@[simp] theorem Node.scheduleBeacons_rx (n : Node) : (n.scheduleBeacons).rx = n.rx := rfl
@[simp] theorem Node.scheduleBeacons_relay (n : Node) : (n.scheduleBeacons).relay = n.relay := rfl
@[simp] theorem Node.scheduleBeacons_link (n : Node) : (n.scheduleBeacons).link = n.link := rfl
@[simp] theorem Node.scheduleBeacons_power (n : Node) : (n.scheduleBeacons).power = n.power := rfl
@[simp] theorem Node.scheduleBeacons_out (n : Node) : (n.scheduleBeacons).out = n.out := rfl
@[simp] theorem Node.scheduleBeacons_loader (n : Node) : (n.scheduleBeacons).loader = n.loader := rfl
@[simp] theorem Node.scheduleBeacons_serial (n : Node) : (n.scheduleBeacons).serial = n.serial := rfl
@[simp] theorem Node.scheduleBeacons_untypedRejects (n : Node) : (n.scheduleBeacons).untypedRejects = n.untypedRejects := rfl

/-! ### An exit from DORMANT -/

@[simp] theorem Node.leaveDormant_clock (n : Node) : (n.leaveDormant).clock = n.clock := rfl
@[simp] theorem Node.leaveDormant_timer (n : Node) : (n.leaveDormant).timer = n.timer := rfl
@[simp] theorem Node.leaveDormant_sensingStage (n : Node) : (n.leaveDormant).sensing.stage = n.sensing.stage := rfl
@[simp] theorem Node.leaveDormant_sensingPendingRequest (n : Node) : (n.leaveDormant).sensing.pendingRequest = n.sensing.pendingRequest := rfl
@[simp] theorem Node.leaveDormant_sensingCycleCounter (n : Node) : (n.leaveDormant).sensing.cycleCounter = 0 := rfl
@[simp] theorem Node.leaveDormant_sensingCycle (n : Node) : (n.leaveDormant).sensing.cycle = n.sensing.cycle := rfl
@[simp] theorem Node.leaveDormant_sensingBuffer (n : Node) : (n.leaveDormant).sensing.buffer = n.sensing.buffer := rfl
@[simp] theorem Node.leaveDormant_sensingRail (n : Node) : (n.leaveDormant).sensing.rail = n.sensing.rail := rfl
@[simp] theorem Node.leaveDormant_sensingIrEmitter (n : Node) : (n.leaveDormant).sensing.irEmitter = n.sensing.irEmitter := rfl
@[simp] theorem Node.leaveDormant_sensingBlueEmitter (n : Node) : (n.leaveDormant).sensing.blueEmitter = n.sensing.blueEmitter := rfl
@[simp] theorem Node.leaveDormant_sensingDivider (n : Node) : (n.leaveDormant).sensing.divider = n.sensing.divider := rfl
@[simp] theorem Node.leaveDormant_sensingOneShot (n : Node) : (n.leaveDormant).sensing.oneShot = n.sensing.oneShot := rfl
@[simp] theorem Node.leaveDormant_sensingConverting (n : Node) : (n.leaveDormant).sensing.converting = n.sensing.converting := rfl
@[simp] theorem Node.leaveDormant_sensingHolding (n : Node) : (n.leaveDormant).sensing.holding = n.sensing.holding := rfl
@[simp] theorem Node.leaveDormant_sensingStampWaiting (n : Node) : (n.leaveDormant).sensing.stampWaiting = n.sensing.stampWaiting := rfl
@[simp] theorem Node.leaveDormant_sensingBuffer0 (n : Node) : (n.leaveDormant).sensing.buffer0 = n.sensing.buffer0 := rfl
@[simp] theorem Node.leaveDormant_sensingBuffer1 (n : Node) : (n.leaveDormant).sensing.buffer1 = n.sensing.buffer1 := rfl
@[simp] theorem Node.leaveDormant_sensingMover (n : Node) : (n.leaveDormant).sensing.mover = n.sensing.mover := rfl
@[simp] theorem Node.leaveDormant_sensingInput (n : Node) : (n.leaveDormant).sensing.input = n.sensing.input := rfl
@[simp] theorem Node.leaveDormant_sensingSkipped (n : Node) : (n.leaveDormant).sensing.skipped = n.sensing.skipped := rfl
@[simp] theorem Node.leaveDormant_evidence (n : Node) : (n.leaveDormant).evidence = { n.evidence with seedPending := true, settling := 8 } := rfl
@[simp] theorem Node.leaveDormant_peers (n : Node) : (n.leaveDormant).peers = n.peers := rfl
@[simp] theorem Node.leaveDormant_alarm (n : Node) : (n.leaveDormant).alarm = n.alarm := rfl
@[simp] theorem Node.leaveDormant_txQueue (n : Node) : (n.leaveDormant).tx.queue = n.tx.queue := rfl
@[simp] theorem Node.leaveDormant_txOneHop (n : Node) : (n.leaveDormant).tx.oneHop = 0 := rfl
@[simp] theorem Node.leaveDormant_txEngine (n : Node) : (n.leaveDormant).tx.engine = n.tx.engine := rfl
@[simp] theorem Node.leaveDormant_txContention (n : Node) : (n.leaveDormant).tx.contention = n.tx.contention := rfl
@[simp] theorem Node.leaveDormant_txGrid (n : Node) : (n.leaveDormant).tx.grid = n.tx.grid := rfl
@[simp] theorem Node.leaveDormant_txSynth (n : Node) : (n.leaveDormant).tx.synth = n.tx.synth := rfl
@[simp] theorem Node.leaveDormant_txRadioFault (n : Node) : (n.leaveDormant).tx.radioFault = n.tx.radioFault := rfl
@[simp] theorem Node.leaveDormant_txBackoff (n : Node) : (n.leaveDormant).tx.backoff = n.tx.backoff := rfl
@[simp] theorem Node.leaveDormant_txOnAir (n : Node) : (n.leaveDormant).tx.onAir = n.tx.onAir := rfl
@[simp] theorem Node.leaveDormant_txBeaconDue (n : Node) : (n.leaveDormant).tx.beaconDue = n.tx.beaconDue := rfl
@[simp] theorem Node.leaveDormant_txHalfDue (n : Node) : (n.leaveDormant).tx.halfDue = n.tx.halfDue := rfl
@[simp] theorem Node.leaveDormant_txHalfMark (n : Node) : (n.leaveDormant).tx.halfMark = n.tx.halfMark := rfl
@[simp] theorem Node.leaveDormant_txRng (n : Node) : (n.leaveDormant).tx.rng = n.tx.rng := rfl
@[simp] theorem Node.leaveDormant_txDrops (n : Node) : (n.leaveDormant).tx.drops = n.tx.drops := rfl
@[simp] theorem Node.leaveDormant_txLosses (n : Node) : (n.leaveDormant).tx.losses = n.tx.losses := rfl
@[simp] theorem Node.leaveDormant_rx (n : Node) : (n.leaveDormant).rx = n.rx := rfl
@[simp] theorem Node.leaveDormant_relay (n : Node) : (n.leaveDormant).relay = n.relay := rfl
@[simp] theorem Node.leaveDormant_link (n : Node) : (n.leaveDormant).link = n.link := rfl
@[simp] theorem Node.leaveDormant_power (n : Node) : (n.leaveDormant).power = n.power := rfl
@[simp] theorem Node.leaveDormant_out (n : Node) : (n.leaveDormant).out = n.out.restarted := rfl
@[simp] theorem Node.leaveDormant_loader (n : Node) : (n.leaveDormant).loader = n.loader := rfl
@[simp] theorem Node.leaveDormant_serial (n : Node) : (n.leaveDormant).serial = n.serial := rfl
@[simp] theorem Node.leaveDormant_untypedRejects (n : Node) : (n.leaveDormant).untypedRejects = n.untypedRejects := rfl

/-! ### The generator is seeded -/

@[simp] theorem Node.seed_clock (n : Node) (address noise : Byte) : (n.seed address noise).clock = n.clock := rfl
@[simp] theorem Node.seed_timer (n : Node) (address noise : Byte) : (n.seed address noise).timer = n.timer := rfl
@[simp] theorem Node.seed_sensing (n : Node) (address noise : Byte) : (n.seed address noise).sensing = n.sensing := rfl
@[simp] theorem Node.seed_evidence (n : Node) (address noise : Byte) : (n.seed address noise).evidence = n.evidence := rfl
@[simp] theorem Node.seed_peers (n : Node) (address noise : Byte) : (n.seed address noise).peers = n.peers := rfl
@[simp] theorem Node.seed_alarm (n : Node) (address noise : Byte) : (n.seed address noise).alarm = n.alarm := rfl
@[simp] theorem Node.seed_txQueue (n : Node) (address noise : Byte) : (n.seed address noise).tx.queue = n.tx.queue := rfl
@[simp] theorem Node.seed_txOneHop (n : Node) (address noise : Byte) : (n.seed address noise).tx.oneHop = n.tx.oneHop := rfl
@[simp] theorem Node.seed_txEngine (n : Node) (address noise : Byte) : (n.seed address noise).tx.engine = n.tx.engine := rfl
@[simp] theorem Node.seed_txContention (n : Node) (address noise : Byte) : (n.seed address noise).tx.contention = n.tx.contention := rfl
@[simp] theorem Node.seed_txGrid (n : Node) (address noise : Byte) : (n.seed address noise).tx.grid = n.tx.grid := rfl
@[simp] theorem Node.seed_txSynth (n : Node) (address noise : Byte) : (n.seed address noise).tx.synth = n.tx.synth := rfl
@[simp] theorem Node.seed_txRadioFault (n : Node) (address noise : Byte) : (n.seed address noise).tx.radioFault = n.tx.radioFault := rfl
@[simp] theorem Node.seed_txBackoff (n : Node) (address noise : Byte) : (n.seed address noise).tx.backoff = n.tx.backoff := rfl
@[simp] theorem Node.seed_txOnAir (n : Node) (address noise : Byte) : (n.seed address noise).tx.onAir = n.tx.onAir := rfl
@[simp] theorem Node.seed_txBeaconDue (n : Node) (address noise : Byte) : (n.seed address noise).tx.beaconDue = n.tx.beaconDue := rfl
@[simp] theorem Node.seed_txHalfDue (n : Node) (address noise : Byte) : (n.seed address noise).tx.halfDue = n.tx.halfDue := rfl
@[simp] theorem Node.seed_txHalfMark (n : Node) (address noise : Byte) : (n.seed address noise).tx.halfMark = n.tx.halfMark := rfl
@[simp] theorem Node.seed_txRng (n : Node) (address noise : Byte) : (n.seed address noise).tx.rng = rngDraw (address ++ noise) := rfl
@[simp] theorem Node.seed_txDrops (n : Node) (address noise : Byte) : (n.seed address noise).tx.drops = n.tx.drops := rfl
@[simp] theorem Node.seed_txLosses (n : Node) (address noise : Byte) : (n.seed address noise).tx.losses = n.tx.losses := rfl
@[simp] theorem Node.seed_rx (n : Node) (address noise : Byte) : (n.seed address noise).rx = n.rx := rfl
@[simp] theorem Node.seed_relaySeen (n : Node) (address noise : Byte) : (n.seed address noise).relay.seen = n.relay.seen := rfl
@[simp] theorem Node.seed_relayWatch (n : Node) (address noise : Byte) : (n.seed address noise).relay.watch = n.relay.watch := rfl
@[simp] theorem Node.seed_relayOriginSeq (n : Node) (address noise : Byte) : (n.seed address noise).relay.originSeq = (rngDraw (address ++ noise)).setWidth 8 := rfl
@[simp] theorem Node.seed_link (n : Node) (address noise : Byte) : (n.seed address noise).link = n.link := rfl
@[simp] theorem Node.seed_power (n : Node) (address noise : Byte) : (n.seed address noise).power = n.power := rfl
@[simp] theorem Node.seed_out (n : Node) (address noise : Byte) : (n.seed address noise).out = n.out := rfl
@[simp] theorem Node.seed_loader (n : Node) (address noise : Byte) : (n.seed address noise).loader = n.loader := rfl
@[simp] theorem Node.seed_serial (n : Node) (address noise : Byte) : (n.seed address noise).serial = n.serial := rfl
@[simp] theorem Node.seed_untypedRejects (n : Node) (address noise : Byte) : (n.seed address noise).untypedRejects = n.untypedRejects := rfl

/-! ### The engine returns to IDLE -/

@[simp] theorem Transmitter.rest_queue (t : Transmitter) : (t.rest).queue = t.queue := rfl
@[simp] theorem Transmitter.rest_oneHop (t : Transmitter) : (t.rest).oneHop = t.oneHop := rfl
@[simp] theorem Transmitter.rest_engine (t : Transmitter) : (t.rest).engine = .idle := rfl
@[simp] theorem Transmitter.rest_contention (t : Transmitter) : (t.rest).contention = t.contention := rfl
@[simp] theorem Transmitter.rest_grid (t : Transmitter) : (t.rest).grid = t.grid := rfl
@[simp] theorem Transmitter.rest_synth (t : Transmitter) : (t.rest).synth = .stopped := rfl
@[simp] theorem Transmitter.rest_radioFault (t : Transmitter) : (t.rest).radioFault = t.radioFault := rfl
@[simp] theorem Transmitter.rest_backoff (t : Transmitter) : (t.rest).backoff = t.backoff := rfl
@[simp] theorem Transmitter.rest_onAir (t : Transmitter) : (t.rest).onAir = t.onAir := rfl
@[simp] theorem Transmitter.rest_beaconDue (t : Transmitter) : (t.rest).beaconDue = t.beaconDue := rfl
@[simp] theorem Transmitter.rest_halfDue (t : Transmitter) : (t.rest).halfDue = t.halfDue := rfl
@[simp] theorem Transmitter.rest_halfMark (t : Transmitter) : (t.rest).halfMark = t.halfMark := rfl
@[simp] theorem Transmitter.rest_rng (t : Transmitter) : (t.rest).rng = t.rng := rfl
@[simp] theorem Transmitter.rest_drops (t : Transmitter) : (t.rest).drops = t.drops := rfl
@[simp] theorem Transmitter.rest_losses (t : Transmitter) : (t.rest).losses = t.losses := rfl

/-! ### All relays are withdrawn -/

@[simp] theorem Transmitter.withdrawRelays_queue (t : Transmitter) : (t.withdrawRelays).queue = t.queue.filter (fun e => e.own || !e.waits) := rfl
@[simp] theorem Transmitter.withdrawRelays_oneHop (t : Transmitter) : (t.withdrawRelays).oneHop = t.oneHop := rfl
@[simp] theorem Transmitter.withdrawRelays_engine (t : Transmitter) : (t.withdrawRelays).engine = t.engine := rfl
@[simp] theorem Transmitter.withdrawRelays_contention (t : Transmitter) : (t.withdrawRelays).contention = t.contention := rfl
@[simp] theorem Transmitter.withdrawRelays_grid (t : Transmitter) : (t.withdrawRelays).grid = t.grid := rfl
@[simp] theorem Transmitter.withdrawRelays_synth (t : Transmitter) : (t.withdrawRelays).synth = t.synth := rfl
@[simp] theorem Transmitter.withdrawRelays_radioFault (t : Transmitter) : (t.withdrawRelays).radioFault = t.radioFault := rfl
@[simp] theorem Transmitter.withdrawRelays_backoff (t : Transmitter) : (t.withdrawRelays).backoff = t.backoff := rfl
@[simp] theorem Transmitter.withdrawRelays_onAir (t : Transmitter) : (t.withdrawRelays).onAir = t.onAir := rfl
@[simp] theorem Transmitter.withdrawRelays_beaconDue (t : Transmitter) : (t.withdrawRelays).beaconDue = t.beaconDue := rfl
@[simp] theorem Transmitter.withdrawRelays_halfDue (t : Transmitter) : (t.withdrawRelays).halfDue = t.halfDue := rfl
@[simp] theorem Transmitter.withdrawRelays_halfMark (t : Transmitter) : (t.withdrawRelays).halfMark = t.halfMark := rfl
@[simp] theorem Transmitter.withdrawRelays_rng (t : Transmitter) : (t.withdrawRelays).rng = t.rng := rfl
@[simp] theorem Transmitter.withdrawRelays_drops (t : Transmitter) : (t.withdrawRelays).drops = t.drops := rfl
@[simp] theorem Transmitter.withdrawRelays_losses (t : Transmitter) : (t.withdrawRelays).losses = t.losses := rfl

/-! ### A lost contention -/

@[simp] theorem Transmitter.lose_queue (t : Transmitter) (c : Contention) : (t.lose c).queue = t.queue.map (fun e => if e.state == .contending then { e with state := .waiting } else e) := rfl
@[simp] theorem Transmitter.lose_oneHop (t : Transmitter) (c : Contention) : (t.lose c).oneHop = t.oneHop := rfl
@[simp] theorem Transmitter.lose_engine (t : Transmitter) (c : Contention) : (t.lose c).engine = .deferred := rfl
@[simp] theorem Transmitter.lose_contention (t : Transmitter) (c : Contention) : (t.lose c).contention = some { c with lost := true, heard := none } := rfl
@[simp] theorem Transmitter.lose_grid (t : Transmitter) (c : Contention) : (t.lose c).grid = t.grid := rfl
@[simp] theorem Transmitter.lose_synth (t : Transmitter) (c : Contention) : (t.lose c).synth = t.synth := rfl
@[simp] theorem Transmitter.lose_radioFault (t : Transmitter) (c : Contention) : (t.lose c).radioFault = t.radioFault := rfl
@[simp] theorem Transmitter.lose_backoff (t : Transmitter) (c : Contention) : (t.lose c).backoff = t.backoff := rfl
@[simp] theorem Transmitter.lose_onAir (t : Transmitter) (c : Contention) : (t.lose c).onAir = t.onAir := rfl
@[simp] theorem Transmitter.lose_beaconDue (t : Transmitter) (c : Contention) : (t.lose c).beaconDue = t.beaconDue := rfl
@[simp] theorem Transmitter.lose_halfDue (t : Transmitter) (c : Contention) : (t.lose c).halfDue = t.halfDue := rfl
@[simp] theorem Transmitter.lose_halfMark (t : Transmitter) (c : Contention) : (t.lose c).halfMark = t.halfMark := rfl
@[simp] theorem Transmitter.lose_rng (t : Transmitter) (c : Contention) : (t.lose c).rng = t.rng := rfl
@[simp] theorem Transmitter.lose_drops (t : Transmitter) (c : Contention) : (t.lose c).drops = t.drops := rfl
@[simp] theorem Transmitter.lose_losses (t : Transmitter) (c : Contention) : (t.lose c).losses = countUp t.losses := rfl

/-! ### A window begins -/

@[simp] theorem Transmitter.enterWindow_queue (t : Transmitter) (i : Nat) (e : TxEntry) (edge : Int) (heard : Option Int) : (t.enterWindow i e edge heard).queue = setAt t.queue i { e with state := .contending } := rfl
@[simp] theorem Transmitter.enterWindow_oneHop (t : Transmitter) (i : Nat) (e : TxEntry) (edge : Int) (heard : Option Int) : (t.enterWindow i e edge heard).oneHop = t.oneHop := rfl
@[simp] theorem Transmitter.enterWindow_engine (t : Transmitter) (i : Nat) (e : TxEntry) (edge : Int) (heard : Option Int) : (t.enterWindow i e edge heard).engine = .window := rfl
@[simp] theorem Transmitter.enterWindow_contention (t : Transmitter) (i : Nat) (e : TxEntry) (edge : Int) (heard : Option Int) : (t.enterWindow i e edge heard).contention = some ⟨contentionCode e.frame.cls e.frame.hdr.sender, edge, heard, false, none⟩ := rfl
@[simp] theorem Transmitter.enterWindow_grid (t : Transmitter) (i : Nat) (e : TxEntry) (edge : Int) (heard : Option Int) : (t.enterWindow i e edge heard).grid = none := rfl
@[simp] theorem Transmitter.enterWindow_synth (t : Transmitter) (i : Nat) (e : TxEntry) (edge : Int) (heard : Option Int) : (t.enterWindow i e edge heard).synth = t.synth := rfl
@[simp] theorem Transmitter.enterWindow_radioFault (t : Transmitter) (i : Nat) (e : TxEntry) (edge : Int) (heard : Option Int) : (t.enterWindow i e edge heard).radioFault = t.radioFault := rfl
@[simp] theorem Transmitter.enterWindow_backoff (t : Transmitter) (i : Nat) (e : TxEntry) (edge : Int) (heard : Option Int) : (t.enterWindow i e edge heard).backoff = t.backoff := rfl
@[simp] theorem Transmitter.enterWindow_onAir (t : Transmitter) (i : Nat) (e : TxEntry) (edge : Int) (heard : Option Int) : (t.enterWindow i e edge heard).onAir = t.onAir := rfl
@[simp] theorem Transmitter.enterWindow_beaconDue (t : Transmitter) (i : Nat) (e : TxEntry) (edge : Int) (heard : Option Int) : (t.enterWindow i e edge heard).beaconDue = t.beaconDue := rfl
@[simp] theorem Transmitter.enterWindow_halfDue (t : Transmitter) (i : Nat) (e : TxEntry) (edge : Int) (heard : Option Int) : (t.enterWindow i e edge heard).halfDue = t.halfDue := rfl
@[simp] theorem Transmitter.enterWindow_halfMark (t : Transmitter) (i : Nat) (e : TxEntry) (edge : Int) (heard : Option Int) : (t.enterWindow i e edge heard).halfMark = t.halfMark := rfl
@[simp] theorem Transmitter.enterWindow_rng (t : Transmitter) (i : Nat) (e : TxEntry) (edge : Int) (heard : Option Int) : (t.enterWindow i e edge heard).rng = t.rng := rfl
@[simp] theorem Transmitter.enterWindow_drops (t : Transmitter) (i : Nat) (e : TxEntry) (edge : Int) (heard : Option Int) : (t.enterWindow i e edge heard).drops = t.drops := rfl
@[simp] theorem Transmitter.enterWindow_losses (t : Transmitter) (i : Nat) (e : TxEntry) (edge : Int) (heard : Option Int) : (t.enterWindow i e edge heard).losses = t.losses := rfl

/-! ### A slot is filled -/

@[simp] theorem Receiver.fill_state (r : Receiver) (i : Nat) (x : Slot) : (r.fill i x).state = r.state := rfl
@[simp] theorem Receiver.fill_carrier (r : Receiver) (i : Nat) (x : Slot) : (r.fill i x).carrier = r.carrier := rfl
@[simp] theorem Receiver.fill_assembly (r : Receiver) (i : Nat) (x : Slot) : (r.fill i x).assembly = r.assembly := rfl
@[simp] theorem Receiver.fill_slots (r : Receiver) (i : Nat) (x : Slot) : (r.fill i x).slots = setAt r.slots i (some x) := rfl
@[simp] theorem Receiver.fill_order (r : Receiver) (i : Nat) (x : Slot) : (r.fill i x).order = r.order.filter (· != i) ++ [i] := rfl
@[simp] theorem Receiver.fill_service (r : Receiver) (i : Nat) (x : Slot) : (r.fill i x).service = r.service := rfl
@[simp] theorem Receiver.fill_capture (r : Receiver) (i : Nat) (x : Slot) : (r.fill i x).capture = r.capture := rfl
@[simp] theorem Receiver.fill_badFrames (r : Receiver) (i : Nat) (x : Slot) : (r.fill i x).badFrames = r.badFrames := rfl
@[simp] theorem Receiver.fill_foreign (r : Receiver) (i : Nat) (x : Slot) : (r.fill i x).foreign = r.foreign := rfl
@[simp] theorem Receiver.fill_overruns (r : Receiver) (i : Nat) (x : Slot) : (r.fill i x).overruns = r.overruns := rfl

/-! ### A frame is lost to an overrun -/

@[simp] theorem Receiver.overrun_state (r : Receiver) (now : Stamp) (f : Frame) : (r.overrun now f).state = r.state := rfl
@[simp] theorem Receiver.overrun_carrier (r : Receiver) (now : Stamp) (f : Frame) : (r.overrun now f).carrier = r.carrier := rfl
@[simp] theorem Receiver.overrun_assembly (r : Receiver) (now : Stamp) (f : Frame) : (r.overrun now f).assembly = r.assembly := rfl
@[simp] theorem Receiver.overrun_slots (r : Receiver) (now : Stamp) (f : Frame) : (r.overrun now f).slots = r.slots := rfl
@[simp] theorem Receiver.overrun_order (r : Receiver) (now : Stamp) (f : Frame) : (r.overrun now f).order = r.order := rfl
@[simp] theorem Receiver.overrun_service (r : Receiver) (now : Stamp) (f : Frame) : (r.overrun now f).service = r.service := rfl
@[simp] theorem Receiver.overrun_capture (r : Receiver) (now : Stamp) (f : Frame) : (r.overrun now f).capture = some ⟨f.headerBytes, now⟩ := rfl
@[simp] theorem Receiver.overrun_badFrames (r : Receiver) (now : Stamp) (f : Frame) : (r.overrun now f).badFrames = r.badFrames := rfl
@[simp] theorem Receiver.overrun_foreign (r : Receiver) (now : Stamp) (f : Frame) : (r.overrun now f).foreign = r.foreign := rfl
@[simp] theorem Receiver.overrun_overruns (r : Receiver) (now : Stamp) (f : Frame) : (r.overrun now f).overruns = countUp r.overruns := rfl

/-! ### A service ends -/

@[simp] theorem Receiver.release_state (r : Receiver) (i : Nat) : (r.release i).state = r.state := rfl
@[simp] theorem Receiver.release_carrier (r : Receiver) (i : Nat) : (r.release i).carrier = r.carrier := rfl
@[simp] theorem Receiver.release_assembly (r : Receiver) (i : Nat) : (r.release i).assembly = r.assembly := rfl
@[simp] theorem Receiver.release_slots (r : Receiver) (i : Nat) : (r.release i).slots = setAt r.slots i none := rfl
@[simp] theorem Receiver.release_order (r : Receiver) (i : Nat) : (r.release i).order = r.order.filter (· != i) := rfl
@[simp] theorem Receiver.release_service (r : Receiver) (i : Nat) : (r.release i).service = none := rfl
@[simp] theorem Receiver.release_capture (r : Receiver) (i : Nat) : (r.release i).capture = r.capture := rfl
@[simp] theorem Receiver.release_badFrames (r : Receiver) (i : Nat) : (r.release i).badFrames = r.badFrames := rfl
@[simp] theorem Receiver.release_foreign (r : Receiver) (i : Nat) : (r.release i).foreign = r.foreign := rfl
@[simp] theorem Receiver.release_overruns (r : Receiver) (i : Nat) : (r.release i).overruns = r.overruns := rfl

/-! ### The dispatcher goes on to another step -/

@[simp] theorem Receiver.goTo_state (r : Receiver) (i : Nat) (st : ServiceStep) : (r.goTo i st).state = r.state := rfl
@[simp] theorem Receiver.goTo_carrier (r : Receiver) (i : Nat) (st : ServiceStep) : (r.goTo i st).carrier = r.carrier := rfl
@[simp] theorem Receiver.goTo_assembly (r : Receiver) (i : Nat) (st : ServiceStep) : (r.goTo i st).assembly = r.assembly := rfl
@[simp] theorem Receiver.goTo_slots (r : Receiver) (i : Nat) (st : ServiceStep) : (r.goTo i st).slots = r.slots := rfl
@[simp] theorem Receiver.goTo_order (r : Receiver) (i : Nat) (st : ServiceStep) : (r.goTo i st).order = r.order := rfl
@[simp] theorem Receiver.goTo_service (r : Receiver) (i : Nat) (st : ServiceStep) : (r.goTo i st).service = some ⟨i, st⟩ := rfl
@[simp] theorem Receiver.goTo_capture (r : Receiver) (i : Nat) (st : ServiceStep) : (r.goTo i st).capture = r.capture := rfl
@[simp] theorem Receiver.goTo_badFrames (r : Receiver) (i : Nat) (st : ServiceStep) : (r.goTo i st).badFrames = r.badFrames := rfl
@[simp] theorem Receiver.goTo_foreign (r : Receiver) (i : Nat) (st : ServiceStep) : (r.goTo i st).foreign = r.foreign := rfl
@[simp] theorem Receiver.goTo_overruns (r : Receiver) (i : Nat) (st : ServiceStep) : (r.goTo i st).overruns = r.overruns := rfl

/-! ### A relay status is set -/

@[simp] theorem RelayEngine.mark_seen (r : RelayEngine) (o q : Byte) (st : RelayStatus) : (r.mark o q st).seen = updateFirst (SeenEntry.holds o q) (fun e => { e with status := st }) r.seen := rfl
@[simp] theorem RelayEngine.mark_watch (r : RelayEngine) (o q : Byte) (st : RelayStatus) : (r.mark o q st).watch = r.watch := rfl
@[simp] theorem RelayEngine.mark_originSeq (r : RelayEngine) (o q : Byte) (st : RelayStatus) : (r.mark o q st).originSeq = r.originSeq := rfl

/-! ### A queue report is applied -/

@[simp] theorem RelayEngine.report_seen (r : RelayEngine) (o q : Byte) (st : RelayStatus) : (r.report o q st).seen = updateFirst (fun e => e.origin == o && e.seq == q && e.status == .pending) (fun e => { e with status := st }) r.seen := rfl
@[simp] theorem RelayEngine.report_watch (r : RelayEngine) (o q : Byte) (st : RelayStatus) : (r.report o q st).watch = r.watch := rfl
@[simp] theorem RelayEngine.report_originSeq (r : RelayEngine) (o q : Byte) (st : RelayStatus) : (r.report o q st).originSeq = r.originSeq := rfl

/-! ### A seen-list entry is created -/

@[simp] theorem RelayEngine.enter_seen (r : RelayEngine) (e : SeenEntry) : (r.enter e).seen = (if 24 ≤ r.seen.length then r.seen.drop 1 else r.seen) ++ [e] := rfl
@[simp] theorem RelayEngine.enter_watch (r : RelayEngine) (e : SeenEntry) : (r.enter e).watch = r.watch := rfl
@[simp] theorem RelayEngine.enter_originSeq (r : RelayEngine) (e : SeenEntry) : (r.enter e).originSeq = r.originSeq := rfl

/-! ### A watch entry is closed -/

@[simp] theorem RelayEngine.unwatch_seen (r : RelayEngine) (q : Byte) : (r.unwatch q).seen = r.seen := rfl
@[simp] theorem RelayEngine.unwatch_watch (r : RelayEngine) (q : Byte) : (r.unwatch q).watch = removeFirst (WatchEntry.hasSeq q) r.watch := rfl
@[simp] theorem RelayEngine.unwatch_originSeq (r : RelayEngine) (q : Byte) : (r.unwatch q).originSeq = r.originSeq := rfl

/-! ### A watch entry is changed -/

@[simp] theorem RelayEngine.rewatch_seen (r : RelayEngine) (q : Byte) (f : WatchEntry → WatchEntry) : (r.rewatch q f).seen = r.seen := rfl
@[simp] theorem RelayEngine.rewatch_watch (r : RelayEngine) (q : Byte) (f : WatchEntry → WatchEntry) : (r.rewatch q f).watch = updateFirst (WatchEntry.hasSeq q) f r.watch := rfl
@[simp] theorem RelayEngine.rewatch_originSeq (r : RelayEngine) (q : Byte) (f : WatchEntry → WatchEntry) : (r.rewatch q f).originSeq = r.originSeq := rfl

/-! ### WATCH is entered -/

@[simp] theorem AlarmUnit.toWatch_state (a : AlarmUnit) : (a.toWatch).state = .watch := rfl
@[simp] theorem AlarmUnit.toWatch_confirmCount (a : AlarmUnit) : (a.toWatch).confirmCount = 0 := rfl
@[simp] theorem AlarmUnit.toWatch_hysteresis (a : AlarmUnit) : (a.toWatch).hysteresis = 4 := rfl
@[simp] theorem AlarmUnit.toWatch_limit (a : AlarmUnit) : (a.toWatch).limit = none := rfl
@[simp] theorem AlarmUnit.toWatch_origins (a : AlarmUnit) : (a.toWatch).origins = a.origins := rfl
@[simp] theorem AlarmUnit.toWatch_silenced (a : AlarmUnit) : (a.toWatch).silenced = a.silenced := rfl
@[simp] theorem AlarmUnit.toWatch_remote (a : AlarmUnit) : (a.toWatch).remote = a.remote := rfl
@[simp] theorem AlarmUnit.toWatch_walkTest (a : AlarmUnit) : (a.toWatch).walkTest = a.walkTest := rfl
@[simp] theorem AlarmUnit.toWatch_testEnded (a : AlarmUnit) : (a.toWatch).testEnded = a.testEnded := rfl
@[simp] theorem AlarmUnit.toWatch_testSound (a : AlarmUnit) : (a.toWatch).testSound = a.testSound := rfl
@[simp] theorem AlarmUnit.toWatch_notices (a : AlarmUnit) : (a.toWatch).notices = a.notices := rfl
@[simp] theorem AlarmUnit.toWatch_lastEvent (a : AlarmUnit) : (a.toWatch).lastEvent = a.lastEvent := rfl
@[simp] theorem AlarmUnit.toWatch_wantFast (a : AlarmUnit) : (a.toWatch).wantFast = a.wantFast := rfl

/-! ### The own address joins the origin list -/

@[simp] theorem AlarmUnit.addOwnOrigin_state (a : AlarmUnit) (o : OriginEntry) : (a.addOwnOrigin o).state = a.state := rfl
@[simp] theorem AlarmUnit.addOwnOrigin_confirmCount (a : AlarmUnit) (o : OriginEntry) : (a.addOwnOrigin o).confirmCount = a.confirmCount := rfl
@[simp] theorem AlarmUnit.addOwnOrigin_hysteresis (a : AlarmUnit) (o : OriginEntry) : (a.addOwnOrigin o).hysteresis = a.hysteresis := rfl
@[simp] theorem AlarmUnit.addOwnOrigin_limit (a : AlarmUnit) (o : OriginEntry) : (a.addOwnOrigin o).limit = a.limit := rfl
@[simp] theorem AlarmUnit.addOwnOrigin_silenced (a : AlarmUnit) (o : OriginEntry) : (a.addOwnOrigin o).silenced = a.silenced := rfl
@[simp] theorem AlarmUnit.addOwnOrigin_remote (a : AlarmUnit) (o : OriginEntry) : (a.addOwnOrigin o).remote = a.remote := rfl
@[simp] theorem AlarmUnit.addOwnOrigin_walkTest (a : AlarmUnit) (o : OriginEntry) : (a.addOwnOrigin o).walkTest = a.walkTest := rfl
@[simp] theorem AlarmUnit.addOwnOrigin_testEnded (a : AlarmUnit) (o : OriginEntry) : (a.addOwnOrigin o).testEnded = a.testEnded := rfl
@[simp] theorem AlarmUnit.addOwnOrigin_testSound (a : AlarmUnit) (o : OriginEntry) : (a.addOwnOrigin o).testSound = a.testSound := rfl
@[simp] theorem AlarmUnit.addOwnOrigin_notices (a : AlarmUnit) (o : OriginEntry) : (a.addOwnOrigin o).notices = a.notices := rfl
@[simp] theorem AlarmUnit.addOwnOrigin_lastEvent (a : AlarmUnit) (o : OriginEntry) : (a.addOwnOrigin o).lastEvent = a.lastEvent := rfl
@[simp] theorem AlarmUnit.addOwnOrigin_wantFast (a : AlarmUnit) (o : OriginEntry) : (a.addOwnOrigin o).wantFast = a.wantFast := rfl

/-! ### Walk test ends -/

@[simp] theorem AlarmUnit.endTest_state (a : AlarmUnit) (now : Stamp) : (a.endTest now).state = a.state := rfl
@[simp] theorem AlarmUnit.endTest_confirmCount (a : AlarmUnit) (now : Stamp) : (a.endTest now).confirmCount = a.confirmCount := rfl
@[simp] theorem AlarmUnit.endTest_hysteresis (a : AlarmUnit) (now : Stamp) : (a.endTest now).hysteresis = a.hysteresis := rfl
@[simp] theorem AlarmUnit.endTest_limit (a : AlarmUnit) (now : Stamp) : (a.endTest now).limit = a.limit := rfl
@[simp] theorem AlarmUnit.endTest_origins (a : AlarmUnit) (now : Stamp) : (a.endTest now).origins = a.origins := rfl
@[simp] theorem AlarmUnit.endTest_silenced (a : AlarmUnit) (now : Stamp) : (a.endTest now).silenced = a.silenced := rfl
@[simp] theorem AlarmUnit.endTest_remote (a : AlarmUnit) (now : Stamp) : (a.endTest now).remote = a.remote := rfl
@[simp] theorem AlarmUnit.endTest_walkTest (a : AlarmUnit) (now : Stamp) : (a.endTest now).walkTest = none := rfl
@[simp] theorem AlarmUnit.endTest_testEnded (a : AlarmUnit) (now : Stamp) : (a.endTest now).testEnded = if a.walkTest.isSome then some now else a.testEnded := rfl
@[simp] theorem AlarmUnit.endTest_testSound (a : AlarmUnit) (now : Stamp) : (a.endTest now).testSound = a.testSound := rfl
@[simp] theorem AlarmUnit.endTest_notices (a : AlarmUnit) (now : Stamp) : (a.endTest now).notices = a.notices := rfl
@[simp] theorem AlarmUnit.endTest_lastEvent (a : AlarmUnit) (now : Stamp) : (a.endTest now).lastEvent = a.lastEvent := rfl
@[simp] theorem AlarmUnit.endTest_wantFast (a : AlarmUnit) (now : Stamp) : (a.endTest now).wantFast = a.wantFast := rfl

/-! ### The line receiver hunts -/

@[simp] theorem Serial.hunt_rx (s : Serial) : (s.hunt).rx = none := rfl
@[simp] theorem Serial.hunt_timeout (s : Serial) : (s.hunt).timeout = none := rfl
@[simp] theorem Serial.hunt_answers (s : Serial) : (s.hunt).answers = s.answers := rfl
@[simp] theorem Serial.hunt_tx (s : Serial) : (s.hunt).tx = s.tx := rfl
@[simp] theorem Serial.hunt_panel (s : Serial) : (s.hunt).panel = s.panel := rfl
@[simp] theorem Serial.hunt_lost (s : Serial) : (s.hunt).lost = s.lost := rfl

/-! ### The record timeout restarts -/

@[simp] theorem Serial.await_rx (s : Serial) (bs : List Byte) (now : Stamp) : (s.await bs now).rx = some bs := rfl
@[simp] theorem Serial.await_timeout (s : Serial) (bs : List Byte) (now : Stamp) : (s.await bs now).timeout = some (later now (ticksOfMs 20)) := rfl
@[simp] theorem Serial.await_answers (s : Serial) (bs : List Byte) (now : Stamp) : (s.await bs now).answers = s.answers := rfl
@[simp] theorem Serial.await_tx (s : Serial) (bs : List Byte) (now : Stamp) : (s.await bs now).tx = s.tx := rfl
@[simp] theorem Serial.await_panel (s : Serial) (bs : List Byte) (now : Stamp) : (s.await bs now).panel = s.panel := rfl
@[simp] theorem Serial.await_lost (s : Serial) (bs : List Byte) (now : Stamp) : (s.await bs now).lost = s.lost := rfl

/-! ### A boundary and a quiet gap -/

/-- A boundary ends in rest without a candidate, in a window with a locked synthesiser, else in the radio fault. -/
theorem Node.boundary_cases (n : Node) (edge : Int) (heard : Option Int) :
    ((candidateIndex n.tx.queue).bind (n.tx.queue[·]?) = none ∧ n.boundary edge heard = { n with tx := n.tx.rest }) ∨
      ∃ i e, candidateIndex n.tx.queue = some i ∧ n.tx.queue[i]? = some e ∧
        ((n.tx.synth = .locked ∧ n.boundary edge heard = { n with tx := n.tx.enterWindow i e edge heard }) ∨
          (n.tx.synth ≠ .locked ∧ n.boundary edge heard = n.faultRadio)) := by
  unfold Node.boundary
  cases hc : candidateIndex n.tx.queue with
  | none => simp
  | some i =>
    cases he : n.tx.queue[i]? with
    | none => simp [he]
    | some e => by_cases hs : n.tx.synth = .locked <;> simp [he, hs]

/-- A quiet gap is a boundary for an engine that comes to one, unless a lost window holds it; it forms the grid. -/
theorem Node.quietGap_cases (n : Node) :
    (n.tx.engine.comesToBoundary = true ∧ n.tx.heldByWindow = false ∧ n.quietGap = n.atBoundary) ∨
      ((n.tx.engine.comesToBoundary = false ∨ n.tx.heldByWindow = true) ∧
        n.quietGap = { n with tx := { n.tx with grid := some n.clock } }) := by
  unfold Node.quietGap
  cases h : n.tx.engine.comesToBoundary <;> cases k : n.tx.heldByWindow <;> simp

end Sys2Proof.Machine
end

