-- ==== Sys2Proof/WellFormed.lean ====
section
/-! DEFINITION. Which commands can arrive: the operands the spec lets the outside world give. -/

namespace Sys2Proof

/-- The operands a command may carry. Each check cites the rule that limits the operand. -/
def Instr.wellFormed : Instr → Bool
  -- R178: a complete attempt has read the 48 bytes.
  | .configAttempt (some bs) _ => bs.length == 48
  -- R125: a bad length is a body length above 12.
  | .badLength len => decide (12 < len.toNat)
  -- R94, R125: 7 header bytes, 0..12 body bytes as header byte 6 says, 2 CRC bytes.
  | .frameEnd bytes => decide (bytes.length ≤ 21) && bytes.length == 9 + (bytes.getD 6 0).toNat
  -- R180: the length byte gives the payload's length, 0..255.
  | .rejectedSerialRecord _ payload _ => decide (payload.length ≤ 255)
  | _ => true

end Sys2Proof
end

