-- ==== Sys2Proof/Tests/Slice0.lean ====
section
/-! SUPPORT. Tests of the model against the manual's own examples and tables, a refusal for each check of
WellFormed, and a witness for the hypotheses of every statement. Each test names its source. -/

namespace Sys2Proof.Tests

open Sys2Proof.Machine

/-! ## WellFormed refuses what the outside world cannot send -/

/-- R178: an image is 48 bytes. -/
theorem test_wf_short_image : (Instr.configAttempt (some [3, 1]) 0).wellFormed = false := by decide

/-- R125: a body length of 12 is no bad length. -/
theorem test_wf_length_12 : (Instr.badLength 12).wellFormed = false := by decide

/-- R125: a body length of 13 is a bad length. -/
theorem test_wf_length_13 : (Instr.badLength 13).wellFormed = true := by decide

/-- R94: header byte 6 counts the body bytes that follow; here one is missing. -/
theorem test_wf_frame_length : (Instr.frameEnd [0x2C, 0xA0, 1, 1, 4, 0, 1, 9, 9]).wellFormed = false := by decide

/-- R125: a frame has at most 12 body bytes. -/
theorem test_wf_frame_too_long :
    (Instr.frameEnd ([0, 0, 0, 0, 0, 0, 13] ++ List.replicate 15 0)).wellFormed = false := by decide

/-- R180: a payload is at most 255 bytes. -/
theorem test_wf_payload : (Instr.rejectedSerialRecord 1 (List.replicate 256 0) 0).wellFormed = false := by
  decide +kernel

/-! ## The CRC, the generator and the timers -/

/-- R105's check of the CRC. -/
theorem test_crc_check : crc [0x31, 0x32, 0x33, 0x34, 0x35, 0x36, 0x37, 0x38, 0x39] = 0x29B1 := by
  decide +kernel

/-- R141: a holdoff of 72 ms is 73 units, and one of 320 ms is 327. -/
theorem test_holdoff_units : ticksOfMs 72 = 73 ∧ ticksOfMs 320 = 327 := by decide

/-- R160: 2 ms is 2 ticks, 50 ms is 51 and 300 ms is 307. -/
theorem test_ticks : ticksOfMs 2 = 2 ∧ ticksOfMs 50 = 51 ∧ ticksOfMs 300 = 307 := by decide

/-- R35: an oldest stamp of 4294966273 and a newest of 3073 give Δt = 4096. -/
theorem test_span_across_wrap : elapsed 3073 4294966273 = 4096 := by decide

/-! ## Evidence arithmetic -/

/-- Table 2-2, IR baseline learning with a carried remainder. -/
theorem test_table_2_2 :
    learn 158 9620 = 9628 ∧ learn 190 9628 = 9644 ∧ learn 190 9644 = 9660 ∧ learn 190 9660 = 9676 ∧
      baseline 9676 = 151 := by decide

/-- Table 2-3, record 2: Si = 140 and Sb = 112 seed the accumulators, and the excess is 0. -/
theorem test_table_2_3 :
    scatter 176 36 = 140 ∧ stageBaseline true true 140 0 = 8960 ∧ stageBaseline true true 112 0 = 7168 ∧
      excess 140 8960 = 0 := by decide

/-- Table 2-4, colour adjustment. -/
theorem test_table_2_4 :
    smokeIndex 32 100 (colourRatio 100 60) = 25 ∧ smokeIndex 32 100 (colourRatio 100 160) = 62 ∧
      smokeIndex 32 5 (colourRatio 5 80) = 2 := by decide

/-- Table 2-3 and Table 2-8, stage 6. -/
theorem test_temperature : temperature 540 = 34 ∧ temperature 700 = 60 := by decide

/-- Table 2-7, the rates as slow entries leave the ring, and Table 2-6's own. -/
theorem test_table_2_7 :
    rateOfRise [⟨56, 200705⟩, ⟨59, 232449⟩] = 5 ∧ rateOfRise [⟨56, 208897⟩, ⟨59, 233473⟩] = 7 ∧
      rateOfRise [⟨57, 225281⟩, ⟨60, 235521⟩] = 18 ∧ rateOfRise [⟨58, 229377⟩, ⟨60, 236545⟩] = 17 := by decide

/-- R35: a fall of 1 over 8192 units gives −7. -/
theorem test_falling_rate : rateOfRise [⟨1, 0⟩, ⟨0, 8192⟩] = -7 := by decide

/-- Table 2-8: Hx = 136 and Lv = 159. -/
theorem test_table_2_8 :
    excess 270 9620 = 120 ∧ colourRatio 120 108 = 14 ∧ smokeIndex 32 120 14 = 60 ∧ heatIndex 80 60 17 = 136 ∧
      localEvidence 60 136 = 159 := by decide

/-- The worked sequence of chapter 4 at 1.0 s: Q = 61 and Hx = 140 give Lv = 164; at 3.4 s the cause is
COMBINED. -/
theorem test_confirmation_numbers : localEvidence 61 140 = 164 ∧ alarmCauseOf 96 62 144 = .combined := by decide

/-! ## Frames -/

/-- Node 40's ALARM of Table 5-4. -/
def alarm40 : Frame :=
  ⟨⟨0x2C, 6, false, 40, 40, 7, 0, 0x93⟩, .alarm .combined 168 62 144⟩

/-- Table 5-4 in the layout of Table 5-2: class 5 and hop budget 6 make byte 1 10101100, zone 7 and DETECTOR make
byte 4 00011100. -/
theorem test_table_5_4 :
    alarm40.bytes = [0x2C, 0b10101100, 40, 40, 0b00011100, 0x93, 4, 3, 168, 62, 144] := by decide

/-- Table 5-4: node 17's copy has sender 17 and hop budget 5, and keeps the rest. -/
theorem test_relayed_copy : (alarm40.relayed 17).hdr = ⟨0x2C, 5, false, 17, 40, 7, 0, 0x93⟩ := by decide

/-- Node 40's ALARM on the air is a good frame to its network, and foreign to another. -/
theorem test_alarm_is_good :
    judgeFrame 0x2C alarm40.wire = .good alarm40 ∧ judgeFrame 0x2D alarm40.wire = .foreign := by
  decide +kernel

/-- R104: the codes of node 40's ALARM, node 17's relay of it and node 200's relayed NOTICE. -/
theorem test_contention_codes :
    contentionCode .alarm 40 = 1320 ∧ contentionCode .alarm 17 = 1297 ∧ contentionCode .notice 200 = 968 := by
  decide

/-- Table 6-3: node 200 listens in slot 1, node 17 in slot 6, where node 40 sends. -/
theorem test_table_6_3 :
    listens 968 1 = true ∧ listens 1320 1 = false ∧ listens 1297 6 = true ∧ listens 1320 6 = false := by decide

/-- The filters of chapter 7's worked case. -/
def toolFilters : List Filter :=
  [⟨2560, 3584, true, true⟩, ⟨2048, 3584, true, true⟩, ⟨1536, 3584, true, false⟩, ⟨1080, 4088, false, true⟩]

/-- R128's four frames: their filters' actions. -/
theorem test_filters :
    decideFilter 1634 toolFilters = some (true, false) ∧ decideFilter 2584 toolFilters = some (true, true) ∧
      decideFilter 1048 toolFilters = none ∧ decideFilter 568 toolFilters = none := by decide

/-- R128: the key of a NOTICE of origin zone 12 with hop budget 5 is 1634. -/
theorem test_key :
    (Frame.key ⟨⟨0x2C, 5, false, 1, 1, 12, 0, 0⟩, .notice .chamberDirty true none⟩) = 1634 := by decide

/-- R102's BEACON: status 0x01, Lv 21, six heard addresses. -/
theorem test_beacon_body :
    (Body.beacon (AlarmState.quiet.code ++ LinkState.linked.code ++ Battery.normal.code ++ Phase.patrol.code) 21
      [55, 12, 30, 7, 44, 3]).bytes = [0x01, 21, 6, 55, 12, 30, 7, 44, 3] := by decide

/-- R103: an event kind's clear is not well formed. -/
theorem test_event_clear_is_malformed : parseBody .notice [10, 0] = none := by decide

/-! ## The battery (R170) -/

/-- The rows of R170's table at their limits. -/
theorem test_battery_rows :
    (batteryAfter .normal 681).1 = .critical ∧ (batteryAfter .normal 682).1 = .low ∧
      (batteryAfter .normal 739).1 = .normal ∧ (batteryAfter .low 758).1 = .low ∧
      (batteryAfter .low 759).1 = .normal ∧ (batteryAfter .critical 702).1 = .low := by decide

/-! ## The serial line (Table 11-3, Table 11-4) -/

/-- A STATUS record's sum byte: 1 + 0 + 255 is 256. -/
theorem test_sum_byte : sumByte 0x01 [] = 255 := by decide

/-- ACCEPT of a PARK: 0x81, one byte, 0x03; 0x81 + 1 + 3 + 0x7B is 256. -/
theorem test_accept_record : frameRecord 0x81 [0x03] = [0x7E, 0x81, 1, 3, 0x7B] := by decide

/-! ## Small states for the tests and witnesses -/

/-- The image of a node 40 of zone 7, with the tuning of chapter 4's worked sequence but for the mode, NONE, and the
confirm count, 2. -/
def image (role : Role) : Image where
  networkId := 0x2C
  address := 40
  zone := 7
  role := role
  channel := 5
  periodCode := 0
  gain := 32
  heatFloor := 80
  watch := 64
  alarm := 128
  solo := 200
  confirm := 2
  mode := .none
  partners := 1
  heatCorr := 96
  suppress := 2
  hopLimit := 6
  filters := toolFilters

/-- The 48 bytes of that image (Table 11-2), for a role's code; the last byte makes the sum 0. -/
def imageBytes (role : Byte) : List Byte :=
  [3, 0x2C, 40, 7, role, 5, 0, 32, 80, 64, 128, 200, 2, 0, 1, 96, 2, 6,
    0x0A, 0, 0x0E, 0, 3, 8, 0, 0x0E, 0, 3, 6, 0, 0x0E, 0, 1, 4, 0x38, 0x0F, 0xF8, 2,
    0, 0, 0, 0, 0, 0, 0, 0, 0, 172 - role]

/-- A started node in a phase, settled in QUIET. -/
def node (role : Role) (phase : Phase) : Node :=
  { Node.powerOn with
    clock := 1024
    loader := ⟨some (image role), [], none, none⟩
    timer := .started
    evidence := { Evidence.powerOn with seedPending := false, settling := 0 }
    tx := { Transmitter.powerOn with rng := 0x2C05 }
    power := { Power.powerOn with
      phase := phase, oscillator := if phase == .run then .running else .stopped
      battery := startBattery role } }

/-- A state with nothing waiting. -/
def idleState (n : Node) : State := ⟨n, []⟩

/-- The node after a command. -/
def after (c : Instr) (n : Node) : Node :=
  match exec c (idleState n) with
  | .next t => t.node
  | .fault _ => n
  | .refused _ => n

/-- A detector in PATROL, and one in DORMANT. -/
def detector : Node := node .detector .patrol

/-- A DETECTOR's record: D = 40, Li = 310, Lb = 268, H = 700 (Table 2-8). -/
def record28 : SampleRecord := ⟨236545, 40, 310, 268, 700, none, true, true⟩

/-- A frame of another node of the network. -/
def frameFrom (sender origin seq : Byte) (b : Body) : Frame :=
  ⟨⟨0x2C, if b.cls.relayable then 4 else 0, false, sender, origin, 9, 0, seq⟩, b⟩

/-- A node with a frame in a receive slot, and its service at a step. -/
def serving (n : Node) (step : ServiceStep) (f : Frame) : Node :=
  { n with rx := { n.rx with
      slots := [some ⟨f, true, true, 1000, true⟩, none, none, none], order := [0], service := some ⟨0, step⟩ } }

/-- A node with an own ALARM in its queue, in a state of the queue, and the engine in a state. -/
def queueing (n : Node) (st : TxState) (e : Engine) : Node :=
  { n with
    tx := { n.tx with queue := [⟨alarm40, true, st, 1024, some 1⟩], engine := e, synth := .locked } }

/-- A node whose receiver is in a state, with carrier on the channel or not. -/
def receiving (n : Node) (st : RxState) (carrier : Bool) : Node :=
  { n with rx := { n.rx with state := st, carrier := carrier } }

/-- A node that watches for the echo of its ALARM. -/
def watching (n : Node) (attempt : Nat) (st : WatchState) : Node :=
  { n with relay := { n.relay with watch := [⟨alarm40, attempt, st⟩] } }

/-! ## Tests of the commands -/

/-- R178: the image of Table 11-2's layout is accepted with no clamps. -/
theorem test_image_accepted : judgeImage (imageBytes 0) = .ok (image .detector, []) := by decide +kernel

/-- R178: a changed byte fails the check; another version or zone 0, with the sum kept at 0, fails its own test. -/
theorem test_image_refused :
    judgeImage ((imageBytes 0).set 7 33) = .error .check ∧
      judgeImage (((imageBytes 0).set 0 2).set 47 173) = .error .version ∧
      judgeImage (((imageBytes 0).set 3 0).set 47 179) = .error .field := by decide +kernel

/-- R179: an accepted image starts a DETECTOR in PATROL with the count stage at SLOW. -/
theorem test_start :
    let n := after (.configAttempt (some (imageBytes 0)) 5) Node.powerOn
    n.power.phase = .patrol ∧ n.timer = ⟨true, 1, 64⟩ ∧ n.power.linger = some 1024 := by decide +kernel

/-- R3, R9: the first underflow of a started node begins cycle 0 with the rail on. -/
theorem test_first_cycle :
    let n := after .prescalerUnderflow detector
    n.timer.count = 64 ∧ n.sensing.stage = .settle ∧ n.sensing.rail = true ∧ n.sensing.cycleCounter = 1 := by
  decide +kernel

/-- Table 2-8: the record through the stages, in WATCH, publishes Q = 60, Hx = 136 and Lv = 159, and the node moves
to CONFIRMING with PRE_ALARM. -/
theorem test_table_2_8_published :
    let n := after .evidencePublication { node .detector .run with
      alarm := { AlarmUnit.atReset with state := .watch, hysteresis := 4, wantFast := true }
      evidence := { Evidence.powerOn with
        seedPending := false, settling := 0, accI := 9620, accB := 7685, inHand := some record28
        ring := [⟨57, 225281⟩, ⟨58, 229377⟩, ⟨58, 230401⟩, ⟨58, 231425⟩, ⟨59, 232449⟩, ⟨59, 233473⟩, ⟨59, 234497⟩,
          ⟨60, 235521⟩] } }
    n.evidence.q = 60 ∧ n.evidence.hx = 136 ∧ n.evidence.lv = 159 ∧ n.alarm.state = .confirming ∧
      n.alarm.notices = [⟨.preAlarm, none⟩] ∧ n.evidence.accI = 9620 := by decide +kernel

/-- R118, R145: a completed own ALARM leaves the queue and is watched for 2 s (2048 units). -/
theorem test_send_complete :
    let n := after .sendComplete (queueing detector .sending .sending)
    n.tx.queue = [] ∧ n.tx.engine = .idle ∧ n.relay.watch = [⟨alarm40, 1, .window 3072⟩] := by decide +kernel

/-- R148, the worked sequence of section 8.5: the miss is counted and the retry carries attempt 2. -/
theorem test_miss :
    let n := after .echoWindowExpiry (watching detector 1 (.window 1024))
    n.link.efc = 8 ∧ n.tx.queue.map (fun e => (e.attempt, e.state)) = [(some 2, .waiting)] ∧
      n.relay.watch = [⟨alarm40, 2, .retryQueued⟩] := by decide +kernel

/-- R76, R165: a delivered ALARM of another zone holds RUN 300 s and joins the origin list. -/
theorem test_remote_alarm :
    let n := after .useDelivery (serving detector .useDelivery (frameFrom 17 18 5 (.alarm .smoke 1 2 3)))
    n.power.phase = .run ∧ n.power.runHold = some 308224 ∧ n.alarm.origins = [⟨18, 9, .smoke, 1024⟩] ∧
      n.alarm.remote = true ∧ n.out.sounder.map (fun p => p.pattern) = some .remoteAlarm := by decide +kernel

/-- R180: the bytes of a STATUS record, one by one, are answered; the reply's type is 0x84. R162: its sending
begins when the oscillator has started. -/
theorem test_serial_bytes :
    let n := after (.serialByte 255) (after (.serialByte 0) (after (.serialByte 1) (after (.serialByte 0x7E) detector)))
    (n.serial.answers.map (fun a => a.bytes.take 3)) = [[0x7E, 0x84, 43]] ∧ n.serial.tx = .idle ∧
      n.power.oscillator = .starting ∧ (after .oscillatorStart n).serial.tx = .answer := by
  decide +kernel

/-- R83: a forced sample that finds walk test ended at this very moment is discarded; a tick later the press makes a
self-check. -/
theorem test_forced_sample_discarded :
    let n := { detector with
      alarm := { AlarmUnit.atReset with walkTest := some 1024 }
      out := { detector.out with hold := .since (1024 - 2048) false false } }
    let ended := after .walkTestExpiry n
    (after .testHold2s ended).out.overlay = none ∧ (after .testHold2s ended).tx.queue = [] ∧
      (after .testHold2s ended.ticked).out.overlay = some ⟨.selfCheck, 2049⟩ := by decide +kernel

/-- R166: the alarm side returns a node to RUN at the moment of its exit with the frame in assembly kept; R165: a report
returns it with the receiver switched off and on. -/
theorem test_run_reentered :
    let n := { receiving detector .assembling true with
      power := { detector.power with leftRun := some 1024, frameHold := true } }
    (n.settle.rx.state = .assembling ∧ n.settle.power.phase = .patrol) ∧
      (let m := { n with alarm := { n.alarm with state := .watch } }
       m.settle.power.phase = .run ∧ m.settle.rx.state = .assembling) ∧
      (let m := n.reportUse .alarm
       m.settle.power.phase = .run ∧ m.settle.rx.state = .syncHunt) := by decide

/-- R133: on a DETECTOR the use delivery of a NOTICE is taken at once, and the slot is FREE. -/
theorem test_notice_taken_at_once :
    let n := after .relayOffer (serving detector .relayOffer (frameFrom 17 18 5 (.notice .tamper true none)))
    n.rx.slots[0]? = some none ∧ n.rx.service = none := by decide +kernel

/-- R116: two quiet milliseconds inside the winner's window, as of a CONTROL of node 1, leave the loser DEFERRED. -/
theorem test_loser_waits_out_window :
    let n := queueing { node .panelAttached .run with rx := { Receiver.powerOn with state := .listening } } .waiting .deferred
    let l := { n with tx := { n.tx with grid := none, contention := some ⟨968, 0, none, true, some 350⟩ } }
    (after .quietGap l).tx.engine = .deferred ∧ (after .windowBoundary (after .quietGap l)).tx.engine = .window := by
  decide +kernel

/-- R162: the sync pattern is not found before the oscillator has started. -/
theorem test_sync_waits :
    let n := receiving { detector with power := { detector.power with oscillator := .starting } } .syncHunt true
    (after (.syncFound 70) n).rx.state = .syncHunt ∧
      (after (.syncFound 70) (after .oscillatorStart n)).rx.state = .assembling := by decide +kernel

/-- R164: the end of a hunt hold with no other hold turns the receiver off. -/
theorem test_hunt_expiry :
    let n := after .huntExpiry
      (receiving { detector with power := { detector.power with hunt := some 1024 } } .syncHunt true)
    n.rx.state = .off ∧ n.power.hunt = none := by decide +kernel

/-! ## Witnesses: a state and operands that meet the hypotheses of each statement together -/

/-- For StepRunsFrontCommand. -/
theorem witness_StepRunsFrontCommand :
    ({ State.reset with pending := [.status, .peers] } : State).pending = .status :: [.peers] := rfl

/-- For TickFeedsPrescaler, the first clause: one tick before a multiple of 128, and at it. -/
theorem witness_TickFeedsPrescaler_tick :
    (idleState { Node.powerOn with clock := 127 }).pending = [] ∧
      (idleState { Node.powerOn with clock := 127 }).node.dueNow = [] ∧
      (idleState { Node.powerOn with clock := 128 }).node.dueNow = [] := by decide

/-- For TickFeedsPrescaler, the second clause: stopped; running with a count of 2; running with a count of 1. -/
theorem witness_TickFeedsPrescaler_underflow :
    (Node.powerOn.clock.toNat % 128 = 0 ∧ Node.powerOn.timer.running = false) ∧
      (let n := { detector with timer := ⟨true, 2, 64⟩ }
       n.clock.toNat % 128 = 0 ∧ n.timer.running = true ∧ 2 ≤ n.timer.count) ∧
      (detector.clock.toNat % 128 = 0 ∧ detector.timer.running = true ∧ detector.timer.count ≤ 1 ∧
        detector.wantsFast = detector.alarm.wantFast) := by decide

/-- For AcceptedImageStartsNode: a read after reset of a DETECTOR's image. -/
theorem witness_AcceptedImageStartsNode :
    Node.powerOn.loader.read = some ⟨1, none, false⟩ ∧
      judgeImage (imageBytes 0) = .ok (image .detector, []) ∧ (image .detector).role ≠ .panelAttached ∧
      Node.powerOn.power.oscillator = .running ∧ Node.powerOn.alarm = AlarmUnit.atReset ∧
      Node.powerOn.power.runHold = none ∧ Node.powerOn.out.offBase = false := by decide +kernel

/-- For AcceptedImageStartsNode: an exit read of a PANEL_ATTACHED node's image. -/
theorem witness_AcceptedImageStartsNode_exit :
    let n := { Node.powerOn.park with loader := ⟨none, [], some .check, some ⟨3, none, true⟩⟩ }
    n.loader.read = some ⟨3, none, true⟩ ∧ judgeImage (imageBytes 2) = .ok (image .panelAttached, []) ∧
      (image .panelAttached).role = .panelAttached ∧ n.power.oscillator = .running ∧ n.alarm = AlarmUnit.atReset ∧ n.power.runHold = none ∧
      n.out.offBase = false := by decide +kernel

/-- For ReadsFailOrAreRefused, the first clause: the third attempt fails; a changed byte fails the check. -/
theorem witness_ReadsFailOrAreRefused_refused :
    (let n := { Node.powerOn with loader := ⟨none, [], none, some ⟨3, none, false⟩⟩ }
     n.loader.read = some ⟨3, none, false⟩ ∧ 3 ≤ (⟨3, none, false⟩ : Reading).attempt ∧
       n.power.oscillator = .running) ∧
      (Node.powerOn.loader.read = some ⟨1, none, false⟩ ∧
        judgeImage ((imageBytes 0).set 7 33) = .error .check) := by decide +kernel

/-- For ReadsFailOrAreRefused, the others: the second attempt fails; a gap ends at its very tick. -/
theorem witness_ReadsFailOrAreRefused_gap :
    (let n := { Node.powerOn with loader := ⟨none, [], none, some ⟨2, none, false⟩⟩ }
     n.loader.read = some ⟨2, none, false⟩ ∧ 2 < 3 ∧ n.power.oscillator = .running) ∧
      (let n := { Node.powerOn with clock := 10, loader := ⟨none, [], none, some ⟨2, some 10, false⟩⟩ }
       n.loader.read = some ⟨2, some 10, false⟩ ∧ reached n.clock 10 = true) := by decide

/-- For SampleRequestsStartCycles: IDLE with each pair of buffer states, and RUNNING. -/
theorem witness_SampleRequestsStartCycles :
    detector.timer.running = true ∧ detector.timer.count ≤ 1 ∧ detector.wantsFast = detector.alarm.wantFast ∧
      detector.sensing.stage = .idle ∧ detector.cfg.role ≠ .repeater ∧ detector.sensing.buffer0.state = .free ∧
      (let x := { detector.sensing with buffer0 := ⟨.copying, .blank⟩ }
       x.buffer0.state ≠ .free ∧ x.buffer1.state = .free) ∧
      (let x := { detector.sensing with buffer0 := ⟨.complete, .blank⟩, buffer1 := ⟨.copying, .blank⟩ }
       x.buffer0.state = .complete ∧ x.buffer1.state = .copying) ∧
      (let x := { detector.sensing with buffer0 := ⟨.copying, .blank⟩, buffer1 := ⟨.complete, .blank⟩ }
       x.buffer0.state = .copying ∧ x.buffer1.state = .complete) ∧
      (let x := { detector.sensing with stage := .dark }; x.stage ≠ .idle) := by decide

/-- A REPEATER in PATROL. -/
def repeater : Node := node .repeater .patrol

/-- For SampleRequestsStartCycles, on a REPEATER: count 63, count 64, and the start of the battery conversion. -/
theorem witness_SampleRequestsStartCycles_repeater :
    repeater.timer.running = true ∧ repeater.timer.count ≤ 1 ∧ repeater.cfg.role = .repeater ∧
      repeater.sensing.stage = .idle ∧ ({ repeater.sensing with cycleCounter := 63 } : Sensing).cycleCounter.toNat % 64 ≠ 0 ∧
      ({ repeater.sensing with cycleCounter := 64 } : Sensing).cycleCounter.toNat % 64 = 0 ∧
      (let n := { repeater with
         sensing := { repeater.sensing with stage := .settle }
         power := { repeater.power with oscillator := .running } }
       n.cfg.role = .repeater ∧ n.power.oscillator = .running ∧ n.sensing.stage = .settle ∧
         n.sensing.mover = none ∧ n.sensing.holding = none) := by decide

/-- For StagesAndPulsesOfACycle: each stage's start, a pulse at its one-shot and at its end, and the pulses'
ends that start the divider and do not. -/
theorem witness_StagesAndPulsesOfACycle :
    let n := node .detector .run
    let at_ := fun st : Stage => { n.sensing with stage := st }
    n.power.oscillator = .running ∧ n.cfg.role ≠ .repeater ∧
      ((at_ .settle).mover = none ∧ (at_ .settle).holding = none) ∧ (at_ .dark).quiet = true ∧
      (at_ .infrared).quiet = true ∧
      (at_ .blue).quiet = true ∧
      (batteryCycle n.cfg.role (at_ .heat).cycle = true ∧ (at_ .heat).quiet = true) ∧
      ({ at_ .infrared with oneShot := true } : Sensing).oneShot = true ∧
      (let x := { at_ .blue with blueEmitter := true, cycle := 64 }
       x.oneShot = false ∧ x.blueEmitter = true ∧ n.cfg.role ≠ .panelAttached ∧ x.cycle.toNat % 64 = 0) ∧
      (let x := { at_ .blue with blueEmitter := true, cycle := 63 }
       x.oneShot = false ∧ ¬(x.cycle.toNat % 64 = 0)) := by decide

/-- For ConversionResultsAreMoved: a result while the port is held, one while it is free, and the last of a
cycle with no request pending and with one. -/
theorem witness_ConversionResultsAreMoved :
    (let x := { detector.sensing with converting := some .dark, mover := some ⟨true, [.heat]⟩ }
     x.converting = some .dark ∧ x.holding = none ∧ x.mover = some ⟨true, [.heat]⟩) ∧
      (let x := { detector.sensing with converting := some .dark }
       x.converting = some .dark ∧ x.holding = none ∧ x.mover = none ∧ x.stampWaiting = none ∧
         lastConversion detector.cfg.role x.cycle .dark = false) ∧
      (let x := { detector.sensing with converting := some .battery }
       x.converting = some .battery ∧ x.holding = none ∧ x.mover = none ∧ x.stampWaiting = none ∧
         x.pendingRequest = false ∧ (x.buf (!x.buffer)).state = .free ∧ detector.cfg.role ≠ .repeater ∧
         ({ x with pendingRequest := true } : Sensing).pendingRequest = true ∧
         lastConversion detector.cfg.role x.cycle .battery = true) := by decide

/-- For CopiedRecordsAreHandedOver: two fields left; the last field with the unit IDLE, and BUSY with a record
waiting; a record with Vb. -/
theorem witness_CopiedRecordsAreHandedOver :
    (let x := { detector.sensing with mover := some ⟨false, [.opticalValid, .heatValid]⟩ }
     x.stampWaiting = none ∧ x.holding = none ∧ x.mover = some ⟨false, .opticalValid :: .heatValid :: []⟩) ∧
      (let x := { detector.sensing with mover := some ⟨false, [.heatValid]⟩ }
       x.mover = some ⟨false, [.heatValid]⟩ ∧ detector.cfg.role ≠ .repeater ∧
         (x.buf (!false)).state ≠ .complete ∧ detector.evidence.inHand = none) ∧
      (let n := { detector with
         evidence := { detector.evidence with inHand := some record28 }
         sensing := { detector.sensing with mover := some ⟨false, [.heatValid]⟩, input := some record28 } }
       n.sensing.mover = some ⟨false, [.heatValid]⟩ ∧ n.evidence.inHand.isSome = true ∧
         n.sensing.input.isSome = true) ∧
      (let x := { detector.sensing with
         mover := some ⟨false, [.heatValid]⟩
         buffer0 := ⟨.copying, { SampleRecord.blank with battery := some 681 }⟩ }
       x.mover = some ⟨false, [.heatValid]⟩ ∧ x.stampWaiting = none ∧ x.holding = none ∧
         (x.buf false).record.battery = some 681) := by decide

/-- A detector whose mover copies buffer 1, with `left` still to copy, while the cycle of buffer 0 has a write that
waits. -/
def copyingNode (left : List RecordField) (holding : Option (Conversion × Nat)) (stamp : Option Stamp) : Node :=
  { detector with sensing := { detector.sensing with
      cycle := 1, mover := some ⟨true, left⟩, holding := holding, stampWaiting := stamp
      buffer0 := ⟨.filling, .blank⟩, buffer1 := ⟨.copying, .blank⟩ } }

/-- For CopiedRecordsAreHandedOver, its second clause: a stamp that waits; a result that waits, and the cycle's last one,
before the last field and at it; and its third: Vb at each bound, from each class. -/
theorem witness_CopiedRecordsAreHandedOver_waiting :
    (let n := copyingNode [.opticalValid, .heatValid] none (some 1000)
     n.sensing.mover = some ⟨true, [.opticalValid, .heatValid]⟩ ∧ (n.sensing.buf true).state = .copying ∧
       n.sensing.buffer = (!true) ∧ (n.sensing.buf (!true)).state = .filling ∧ n.sensing.holding = none) ∧
      (let x := (copyingNode [.heatValid] (some (.dark, 40)) none).sensing
       x.holding = some (.dark, 40) ∧ lastConversion detector.cfg.role x.cycle .dark = false) ∧
      (let x := (copyingNode [.opticalValid, .heatValid] (some (.heat, 1014)) none).sensing
       x.holding = some (.heat, 1014) ∧ lastConversion detector.cfg.role x.cycle .heat = true ∧
         x.pendingRequest = false ∧ 2 ≤ [RecordField.opticalValid, .heatValid].length) ∧
      (copyingNode [.heatValid] (some (.heat, 1014)) none).sensing.mover = some ⟨true, [.heatValid]⟩ ∧
      (let vb := fun (v : Nat) => (after .recordFieldCopy { detector with
         sensing := { detector.sensing with
           mover := some ⟨false, [.heatValid]⟩
           buffer0 := ⟨.copying, { SampleRecord.blank with battery := some v }⟩ } }).power.battery
       detector.active = true ∧ vb 681 = .critical ∧ vb 682 = .low ∧ vb 738 = .low ∧ vb 739 = .normal) := by
  decide +kernel

/-- A detector whose Evidence Unit has a record in hand. -/
def judging (r : SampleRecord) : Node :=
  { detector with evidence := { detector.evidence with accI := 9620, accB := 7685, inHand := some r } }

/-- For OpticalLane and PublicationFormsLv: a valid record, and one with neither part valid. -/
theorem witness_OpticalLane_PublicationFormsLv :
    ((judging record28).evidence.inHand = some record28 ∧ record28.opticalValid = true ∧
      record28.heatValid = true) ∧
      (let r := { record28 with opticalValid := false, heatValid := false }
       (judging r).evidence.inHand = some r ∧ r.opticalValid = false ∧ r.heatValid = false) ∧
      0 < Node.powerOn.evidence.settling := by decide

/-- For ThermalLane: the highest reading of the table, over an empty ring and after gaps of 300 s and a tick
more. -/
theorem witness_ThermalLane :
    (let r := { record28 with heat := 1023 }
     (judging r).evidence.inHand = some r ∧ r.heatValid = true ∧ r.heat ≤ 1023 ∧
       (judging r).evidence.ring = []) ∧
      elapsed record28.stamp (record28.stamp - 307200) ≤ 307200 ∧
      307200 < elapsed record28.stamp (record28.stamp - 307201) ∧
      ([⟨58, 229377⟩] : List RingEntry) = [] ++ [⟨58, 229377⟩] ∧
      elapsed record28.stamp 229377 ≠ 0 := by decide

/-- For QuietNodeEntersWatch, also in walk test, with a queue of four and with a notice due. -/
theorem witness_QuietNodeEntersWatch :
    (let n := judging record28
     n.evidence.inHand = some record28 ∧ n.evidence.settling = 0 ∧ n.alarm.state = .quiet ∧ n.active = true ∧
       (record28.opticalValid = true ∨ record28.heatValid = true) ∧ n.tx.queue = [] ∧
       evidenceTasks n.evidence (evidenceAfter n.cfg true n.evidence record28) = []) ∧
      ({ AlarmUnit.atReset with walkTest := some 9000 } : AlarmUnit).state = .quiet ∧
      (List.replicate 4 (⟨alarm40, false, .waiting, 0, none⟩ : TxEntry)).length ≤ 4 ∧
      (let r := { record28 with heatValid := false }
       let e := { (judging r).evidence with heatRun := 2 }
       evidenceTasks e (evidenceAfter (judging r).cfg true e r) ≠ []) := by decide +kernel

/-- A record whose Lv reaches W. -/
def brightRecord : SampleRecord := { record28 with infrared := 340, blue := 320 }

/-- For QuietNodeEntersWatch: that record's Lv stays below W, and a brighter one's reaches it. -/
theorem witness_QuietNodeEntersWatch_levels :
    (after .evidencePublication (judging record28)).evidence.lv < (judging record28).cfg.watch ∧
      (judging brightRecord).cfg.watch ≤ (after .evidencePublication (judging brightRecord)).evidence.lv := by decide +kernel

/-- A record whose Lv reaches A, and not S on its own. -/
def alarmRecord : SampleRecord := { record28 with infrared := 560, blue := 540 }

/-- A detector at the second of two samples of that record, with an image. -/
def confirming (img : Image) (count : Nat) (walkTest : Option Stamp) : Node :=
  { judging alarmRecord with
    loader := ⟨some img, [], none, none⟩
    alarm := { AlarmUnit.atReset with
      state := .confirming, confirmCount := count, walkTest := walkTest, wantFast := true } }

/-- For ConfirmedSampleEntersAlarm: the second of two samples at A or above and below S, under the mode NONE, under
HEAT with too little of it, and above an S at A's value; with the queue empty; and a WATCH unit where N is 1. -/
theorem witness_ConfirmedSampleEntersAlarm :
    let n := confirming (image .detector) 1 none
    let lv := (after .evidencePublication n).evidence.lv
    n.evidence.inHand = some alarmRecord ∧ n.evidence.settling = 0 ∧ n.alarm.state = .confirming ∧
      n.alarm.walkTest = none ∧ alarmRecord.opticalValid = true ∧ n.cfg.confirm ≤ n.alarm.confirmCount + 1 ∧
      n.cfg.alarm ≤ lv ∧ lv < n.cfg.solo ∧ n.cfg.mode = .none ∧ n.active = true ∧ n.tx.queue = [] ∧
      ({ image .detector with mode := .heat } : Image).mode = .heat ∧
      (after .evidencePublication n).evidence.hx < n.cfg.heatCorr ∧
      ({ image .detector with solo := 128 } : Image).solo ≤ lv ∧
      (let m := confirming { image .detector with confirm := 1 } 0 none
       let w := { m with alarm := { m.alarm with state := .watch } }
       w.alarm.state = .watch ∧ w.cfg.confirm = 1 ∧ w.cfg.alarm ≤ (after .evidencePublication w).evidence.lv) := by
  decide +kernel

/-- For AlarmTimersExpire: each timer at its very expiry. -/
theorem witness_AlarmTimersExpire :
    (let n := { detector with alarm := { AlarmUnit.atReset with state := .confirming, limit := some 1024 } }
     due n.clock n.alarm.limit = true ∧ n.alarm.state = .confirming ∧ n.active = true) ∧
      due detector.clock ({ AlarmUnit.atReset with walkTest := some 1024 } : AlarmUnit).walkTest = true ∧
      due detector.clock ({ AlarmUnit.atReset with testSound := some 1024 } : AlarmUnit).testSound = true ∧
      (let n := { detector with clock := 62464, alarm := { AlarmUnit.atReset with lastEvent := some 1024 } }
       n.alarm.lastEvent = some 1024 ∧ reached n.clock (later 1024 61440) = true) := by decide

/-- For RunCauseFollowsAlarmSide: a node in RUN under a RUN hold, and a step that keeps it there. -/
theorem witness_RunCauseFollowsAlarmSide :
    let n := { node .detector .run with power := { (node .detector .run).power with runHold := some 9000 } }
    n.power.alarmCause = (n.alarm.state != .quiet || n.alarm.walkTest.isSome) ∧ n.power.phase = .run ∧
      ∃ t, step (idleState n) = .next t ∧ t.node.power.runHold.isSome = true :=
  ⟨rfl, rfl, _, rfl, by decide⟩

/-- A peer entry. -/
def peer (address : Byte) (st : PeerState) (missed : Nat) (heard : Bool) : Peer :=
  ⟨st, address, some 9, some .detector, 60, 500, missed, heard, true, some .quiet, some ⟨12, 500⟩⟩

/-- A table with an entry for every case of R57. -/
def peerCases : List (Option Peer) :=
  [some (peer 17 .fresh 0 true), some (peer 18 .stale 1 false), some (peer 19 .stale 2 false),
    some (peer 20 .lost 3 false)] ++ List.replicate 12 none

/-- For PeriodEndSupervisesPeers: a period that ends at this very tick, an entry of each case, and an empty table. -/
theorem witness_PeriodEndSupervisesPeers :
    (let n := { detector with peers := { PeerTable.empty with periodEnd := some 1024, entries := peerCases } }
     due n.clock n.peers.periodEnd = true ∧ n.peers.entries[0]? = some (some (peer 17 .fresh 0 true)) ∧
       n.peers.entries[1]? = some (some (peer 18 .stale 1 false)) ∧
       n.peers.entries[2]? = some (some (peer 19 .stale 2 false)) ∧
       n.peers.entries[3]? = some (some (peer 20 .lost 3 false))) ∧
      (let n := { detector with peers := { PeerTable.empty with periodEnd := some 1024 } }
       due n.clock n.peers.periodEnd = true ∧ n.peers.entries = List.replicate 16 none ∧
         n.peers.conflictRaised = false ∧ n.tx.queue = [] ∧ n.peers.listed = false ∧
         ({ n.peers with listed := true } : PeerTable).listed = true) := by decide

/-- For BeaconsAreScheduledAndBuilt: a mark reached on a STRAINED node and on a LINKED one, and each due time
reached. -/
theorem witness_BeaconsAreScheduledAndBuilt :
    (let n := { detector with tx := { detector.tx with halfMark := some 1024 }, link := ⟨128, 0⟩ }
     n.tx.halfMark = some 1024 ∧ reached n.clock 1024 = true ∧ n.link.state = .strained) ∧
      detector.link.state ≠ .strained ∧
      (let n := { detector with tx := { detector.tx with beaconDue := some 1024 } }
       due n.clock n.tx.beaconDue = true ∧ n.active = true ∧ n.tx.queue.length < 8 ∧
         ∀ e ∈ n.tx.queue, e.frame.cls = .beacon → e.state ≠ .waiting) ∧
      (let t := { detector.tx with halfDue := some 1024 }
       due detector.clock t.beaconDue = false ∧ due detector.clock t.halfDue = true) := by decide

/-- A node in RUN by its role, with its receiver listening and the oscillator running. -/
def panelNode : Node := receiving (node .panelAttached .run) .listening false

/-- For BoundariesStartWindows: a quiet gap in GAP and in WAIT and a boundary in WAIT, with a candidate and a locked
synthesiser, with one not locked, and with no candidate; a loser whose silence began 1000 µs after its slot-0 edge, one
whose silence began 1 µs earlier, and one at a boundary of the grid; and a quiet gap on an idle engine. -/
theorem witness_BoundariesStartWindows :
    ((queueing panelNode .waiting .gap).hearsQuiet = true ∧ (queueing panelNode .waiting .gap).tx.engine = .gap ∧
      (∃ e ∈ (queueing panelNode .waiting .gap).tx.queue, e.state = .waiting) ∧
      (queueing panelNode .waiting .gap).tx.synth = .locked ∧ (queueing panelNode .waiting .gap).active = true) ∧
      ((queueing panelNode .waiting .wait).hearsQuiet = true ∧ (queueing panelNode .waiting .wait).tx.engine = .wait) ∧
      (let t := { (queueing panelNode .waiting .wait).tx with grid := some 1020, synth := .starting }
       t.grid.isSome = true ∧ panelNode.power.oscillator = .running ∧ t.engine = .wait ∧ t.synth ≠ .locked ∧
         ∃ e ∈ t.queue, e.state = .waiting) ∧
      (∀ e ∈ ({ panelNode.tx with engine := .gap } : Transmitter).queue, e.state ≠ .waiting) ∧
      (let loser := fun (q : Int) (grid : Option Stamp) =>
         let n := queueing panelNode .waiting .deferred
         { n with tx := { n.tx with contention := some ⟨968, 0, none, true, some q⟩, grid := grid } }
       (loser 1000 none).hearsQuiet = true ∧ ¬((1000 : Int) + 2000 < 0 + 3000) ∧
         (loser 999 none).hearsQuiet = true ∧ (loser 999 none).tx.grid = none ∧ (999 : Int) + 2000 < 0 + 3000 ∧
         (loser 999 (some 5)).tx.grid.isSome = true ∧ (loser 999 (some 5)).power.oscillator = .running) ∧
      (panelNode.RunByRole ∧ panelNode.hearsQuiet = true ∧ panelNode.tx.engine = .idle) :=
  ⟨by decide, by decide, by decide, by decide, by decide, ⟨rfl, rfl⟩, by decide, by decide⟩

/-- For WindowWonSends: no carrier; carrier from the last microsecond of listening slot 10 of node 40's ALARM, and
carrier from slot 11's end on. -/
theorem witness_WindowWonSends :
    let n := queueing panelNode .contending .window
    let t := { n.tx with contention := some ⟨1320, 0, none, false, none⟩ }
    let e : TxEntry := ⟨alarm40, true, .contending, 1024, some 1⟩
    (t.engine = .window ∧ t.contention = some ⟨1320, 0, none, false, none⟩ ∧ t.queue = [] ++ e :: [] ∧
      e.state = .contending ∧ ∀ x ∈ ([] : List TxEntry), x.state ≠ .contending) ∧
      ((1320 : Nat).testBit (11 - 10) = false ∧ (2749 : Int) < 0 + 250 * 10 + 250) ∧
      ∀ k ≤ 11, ¬((3000 : Int) < 0 + 250 * k + 250) :=
  ⟨by decide, by decide, by intro k hk; omega⟩

/-- For SendCompleteHandsOn: an own relayable frame; an own one-hop frame; a relay whose entry is PENDING. -/
theorem witness_SendCompleteHandsOn :
    let n := queueing detector .sending .sending
    let e : TxEntry := ⟨alarm40, true, .sending, 1024, some 1⟩
    let seen : SeenEntry := ⟨18, 5, .notice, 900, 1, .pending⟩
    let relayed := frameFrom 40 18 5 (.notice .tamper true none)
    n.tx.engine = .sending ∧ n.tx.queue = [] ++ e :: [] ∧ e.state = .sending ∧
      (∀ x ∈ ([] : List TxEntry), x.state ≠ .sending) ∧ (∀ x ∈ ([] : List TxEntry) ++ [], x.state ≠ .waiting) ∧
      (e.own = true ∧ e.frame.cls.relayable = true ∧
        (∀ w ∈ n.relay.watch, w.frame.hdr.seq ≠ e.frame.hdr.seq) ∧ n.relay.watch.length < 4) ∧
      (frameFrom 40 40 1 (.evidence 0 .watch)).cls.relayable = false ∧
      ([seen] = [] ++ seen :: [] ∧ seen.origin = relayed.hdr.origin ∧ seen.seq = relayed.hdr.seq ∧
        seen.status = .pending) ∧
      (∃ x ∈ ([] : List TxEntry) ++ [⟨relayed, false, .waiting, 1024, none⟩], x.state = .waiting) := by decide

/-- For SendCompleteHandsOn, the watches: a list of four with a NOTICE in its second place, one of four ALARMs, and the
RETRY_QUEUED watch of the frame. -/
theorem witness_SendCompleteHandsOn_watches :
    let f : Byte → Body → Frame := fun seq b => ⟨⟨0x2C, 6, false, 40, 40, 7, 0, seq⟩, b⟩
    let watch := fun (x : Frame) => (⟨x, 1, .window 2000⟩ : WatchEntry)
    let a := fun seq => watch (f seq alarm40.body)
    let v := watch (f 2 (.notice .tamper true none))
    let held := [a 1, v, a 3, a 4]
    (held = [a 1] ++ v :: [a 3, a 4] ∧ v.frame.cls = .notice ∧ (∀ y ∈ [a 1], y.frame.cls ≠ .notice) ∧
      4 ≤ held.length ∧ ∀ w ∈ held, w.frame.hdr.seq ≠ alarm40.hdr.seq) ∧
      (4 ≤ [a 1, a 2, a 3, a 4].length ∧ (∀ w ∈ [a 1, a 2, a 3, a 4], w.frame.hdr.seq ≠ alarm40.hdr.seq) ∧
        ∀ w ∈ [a 1, a 2, a 3, a 4], w.frame.cls ≠ .notice) ∧
      (let n := watching (queueing detector .sending .sending) 2 .retryQueued
       n.tx.engine = .sending ∧ n.tx.queue = [] ++ ⟨alarm40, true, .sending, 1024, some 1⟩ :: [] ∧
         n.relay.watch = [] ++ ⟨alarm40, 2, .retryQueued⟩ :: [] ∧ alarm40.cls.relayable = true) := by decide

/-- A node in PATROL that listens. -/
def listeningNode : Node := receiving detector .listening false

/-- The detector patrols. -/
theorem detector_patrols : detector.Patrolling := ⟨rfl, rfl, rfl, rfl⟩

/-- For CarrierOnsetIsHeard: the receiver off; RUN with the engine in GAP; PATROL with no hold. -/
theorem witness_CarrierOnsetIsHeard :
    (detector.rx.carrier = false ∧ detector.rx.state = .off) ∧
      (let n := queueing panelNode .waiting .gap
       n.rx.carrier = false ∧ n.RunByRole ∧ n.rx.state = .listening ∧ n.tx.engine ≠ .wait ∧
         n.tx.engine ≠ .window ∧ n.tx.engine ≠ .sending) ∧
      (listeningNode.Patrolling ∧ listeningNode.rx.state = .listening ∧ listeningNode.tx.engine = .idle ∧
        listeningNode.power.hunt = none ∧ listeningNode.power.frameHold = false) :=
  ⟨by decide, ⟨rfl, ⟨rfl, rfl⟩, rfl, by decide, by decide, by decide⟩, ⟨rfl, rfl, rfl, rfl⟩, by decide⟩

/-- For CarrierOnsetIsHeard, its second clause: node 200 at the first and last microsecond of slot 1; node 40 in its own burst of
slot 1, up to 40 µs before slot 2; and slot 11. -/
theorem witness_CarrierOnsetIsHeard_slot :
    let n := queueing panelNode .contending .window
    n.rx.carrier = false ∧ n.rx.state ≠ .off ∧ n.tx.engine = .window ∧
      (let c : Contention := ⟨968, 0, none, false, none⟩
       c.edge + 250 * 1 ≤ 250 ∧ (499 : Int) < c.edge + 250 * 1 + 250 ∧ c.code.testBit (11 - 1) = false) ∧
      (let c : Contention := ⟨1320, 0, none, false, none⟩
       (459 : Int) < c.edge + 250 * 1 + 210 ∧ c.code.testBit (11 - 1) = true ∧
         c.edge + 250 * 11 ≤ 2999 ∧ (2999 : Int) < c.edge + 250 * 11 + 250 ∧ c.code.testBit (11 - 11) = false) := by
  decide

/-- For CarrierEndReleases: off; an incomplete frame of an IDLE, a BACKOFF and a DEFERRED engine; a hunt and a flush in
RUN; a flush in PATROL with a linger and with no hold; a loser at its window's end and before it; and a WINDOW whose carrier stood into listening slot 1, at its
very edge, and one whose carrier ended before it. -/
theorem witness_CarrierEndReleases :
    (let n := receiving detector .off true; n.rx.carrier = true ∧ n.rx.state = .off) ∧
      (let n := receiving detector .assembling true
       n.rx.carrier = true ∧ n.rx.state ≠ .off ∧ n.rx.state = .assembling ∧ n.tx.engine = .idle ∧ n.link.rfc ≠ 127) ∧
      ({ panelNode.tx with engine := .backoff } : Transmitter).engine = .backoff ∧
      (let n := { receiving panelNode .assembling true with tx := { panelNode.tx with engine := .deferred } }
       n.tx.engine = .deferred ∧ n.tx.contention = none ∧ n.rx.state = .assembling) ∧
      ((receiving panelNode .syncHunt true).RunByRole ∧ (receiving panelNode .flushing true).RunByRole ∧
        panelNode.tx.engine ≠ .sending) ∧
      ((receiving { detector with power := { detector.power with linger := some 2000 } } .flushing true).Patrolling ∧
        (some (2000 : Stamp)).isSome = true) ∧
      ((receiving detector .flushing true).Patrolling ∧
        ¬(detector.power.listen.isSome = true ∨ detector.power.hunt.isSome = true ∨
          detector.power.linger.isSome = true)) ∧
      (let n := { receiving panelNode .syncHunt true with
         tx := { panelNode.tx with engine := .deferred, contention := some ⟨968, 0, none, true, none⟩ } }
       n.tx.engine = .deferred ∧ (2999 : Int) < 0 + 3000 ∧ ¬((3000 : Int) < 0 + 3000)) ∧
      (let c : Contention := ⟨968, 0, some 100, false, none⟩
       let n := { receiving panelNode .listening true with
         tx := { panelNode.tx with engine := .window, contention := some c } }
       n.rx.carrier = true ∧ n.rx.state ≠ .off ∧ n.tx.engine = .window ∧ n.tx.contention = some c ∧
         n.rx.state ≠ .assembling ∧ c.code.testBit (11 - 1) = false ∧ (100 : Int) < c.edge + 250 * 1 + 250 ∧
         c.edge + 250 * 1 ≤ 250 ∧ ¬(c.edge + 250 * 1 ≤ 249)) :=
  ⟨by decide, by decide, rfl, by decide, ⟨⟨rfl, rfl⟩, ⟨rfl, rfl⟩, by decide⟩, ⟨⟨rfl, rfl, rfl, rfl⟩, rfl⟩,
    ⟨⟨rfl, rfl, rfl, rfl⟩, by decide⟩, by decide, by decide⟩

/-- A node that assembles a frame. -/
def assembling (n : Node) : Node :=
  { n with rx := { n.rx with state := .assembling, carrier := true, assembly := some 70 } }

/-- For GoodFrameRefreshesItsSender: node 17 in entry 0, and a newcomer to an empty table. -/
theorem witness_GoodFrameRefreshesItsSender :
    let f := frameFrom 17 17 1 (.notice .tamper true none)
    let n := { assembling detector with peers := { PeerTable.empty with entries := peerCases } }
    (n.rx.state = .assembling ∧ n.rx.assembly = some 70 ∧ judgeFrame n.cfg.networkId f.wire = .good f ∧
      f.hdr.sender ≠ 0 ∧ f.hdr.sender ≠ 255 ∧ f.hdr.sender ≠ n.cfg.address ∧
      f.hdr.sender ∉ n.peers.lostSubjects ∧ n.peers.entries[0]? = some (some (peer 17 .fresh 0 true)) ∧
      (peer 17 .fresh 0 true).address = f.hdr.sender) ∧
      ((∀ p, some p ∈ (assembling detector).peers.entries → p.address ≠ f.hdr.sender) ∧
        (assembling detector).peers.entries[0]? = some none) :=
  ⟨by decide +kernel, fun p h => absurd h (by simp [assembling, detector, node, Node.powerOn, PeerTable.empty]),
    by decide⟩

/-- A full set of READY slots of one class. -/
def fullSlots (b : Body) : Receiver :=
  let x : Slot := ⟨frameFrom 17 18 5 b, true, true, 1000, false⟩
  { Receiver.powerOn with slots := [some x, some x, some x, some x], order := [0, 1, 2, 3] }

/-- For AcceptedFramesTakeSlots: the four filters' own frames and a BEACON that none matches; full slots with an
ALARM and with NOTICEs only. -/
theorem witness_AcceptedFramesTakeSlots :
    (let f := frameFrom 17 18 5 (.notice .tamper true none)
     let n := assembling detector
     n.rx.state = .assembling ∧ n.rx.assembly = some 70 ∧ judgeFrame n.cfg.networkId f.wire = .good f ∧
       n.rx.slots = [none, none, none, none] ∧ n.rx.order = [] ∧ n.rx.service = none ∧ f.cls.relayable = true ∧
       n.cfg.filters = toolFilters.take 2 ++ ⟨1536, 3584, true, false⟩ :: toolFilters.drop 3 ∧
       (∀ x ∈ toolFilters.take 2, (f.key ^^^ x.key) &&& x.mask ≠ 0) ∧ (f.key ^^^ 1536) &&& 3584 = 0) ∧
      (∀ x ∈ toolFilters, ((568 : Key) ^^^ x.key) &&& x.mask ≠ 0) ∧
      (let r := fullSlots (.notice .tamper true none)
       (∀ y ∈ r.slots, y ≠ none) ∧ r.slots.length = 4 ∧ r.order = [0, 1, 2, 3] ∧
         ∃ y, r.slots[0]? = some (some y) ∧ y.inService = false ∧ y.frame.cls ≠ .alarm) ∧
      (∀ y ∈ (fullSlots (.alarm .smoke 1 2 3)).slots, ∀ z ∈ y, z.frame.cls = .alarm) :=
  ⟨by decide +kernel, by decide, ⟨by decide, by decide, by decide, _, rfl, rfl, by decide⟩, by decide⟩

/-- For AcceptedFramesTakeSlots: the order of the full slots names them all. -/
theorem witness_AcceptedFramesTakeSlots_order (i : Nat) : i ∈ ([0, 1, 2, 3] : List Nat) ↔ i < 4 := by
  simp only [List.mem_cons, List.not_mem_nil, or_false]; omega

/-- A NOTICE of node 18 in service. -/
def notice18 : Frame := frameFrom 17 18 5 (.notice .tamper true none)

/-- The seen-list entry of that NOTICE. -/
def seen18 (copies : Nat) (st : RelayStatus) : SeenEntry := ⟨18, 5, .notice, 900, copies, st⟩

/-- For CopiesAreCountedAndSuppress, the first clause: a first copy, also over a full list, and a later one. -/
theorem witness_CopiesAreCountedAndSuppress :
    let n := serving detector .seenCheck notice18
    n.rx.service = some ⟨0, .seenCheck⟩ ∧ n.rx.slots[0]? = some (some ⟨notice18, true, true, 1000, true⟩) ∧
      notice18.hdr.origin ≠ n.cfg.address ∧
      (∀ e ∈ n.relay.seen, ¬(e.origin = notice18.hdr.origin ∧ e.seq = notice18.hdr.seq)) ∧
      n.relay.seen.length < 24 ∧
      (let full := (List.range 24).map (fun k => { seen18 1 .sent with origin := byte (k + 100) })
       24 ≤ full.length ∧ ∀ e ∈ full, ¬(e.origin = notice18.hdr.origin ∧ e.seq = notice18.hdr.seq)) ∧
      ([seen18 15 .sent] = [] ++ seen18 15 .sent :: [] ∧ (seen18 15 .sent).status ≠ .pending) := by decide

/-- For EchoClosesWatch: node 17's copy of the own ALARM. -/
theorem witness_EchoClosesWatch :
    let n := { watching (serving detector .seenCheck (alarm40.relayed 17)) 1 (.window 2000) with link := ⟨127, 0⟩ }
    n.rx.service = some ⟨0, .seenCheck⟩ ∧
      n.rx.slots[0]? = some (some ⟨alarm40.relayed 17, true, true, 1000, true⟩) ∧
      (alarm40.relayed 17).hdr.origin = n.cfg.address ∧ (alarm40.relayed 17).hdr.sender ≠ n.cfg.address ∧
      n.relay.watch = [] ++ ⟨alarm40, 1, .window 2000⟩ :: [] ∧ alarm40.hdr.seq = (alarm40.relayed 17).hdr.seq ∧
      1 ≤ n.link.efc ∧ n.link.efc ≤ 127 := by decide

/-- For RelayOfferQueuesOneHopLess: a NOTICE with hop budget 4 is relayed; with hop budget 0 it is not; with USE on a
DETECTOR and on a PANEL_ATTACHED node. -/
theorem witness_RelayOfferQueuesOneHopLess :
    let n := { serving detector .relayOffer notice18 with
      relay := { detector.relay with seen := [seen18 1 .none] } }
    let x : Slot := ⟨notice18, true, true, 1000, true⟩
    n.rx.service = some ⟨0, .relayOffer⟩ ∧ n.rx.slots[0]? = some (some x) ∧ n.active = true ∧
      n.tx.queue.length < 8 ∧ x.frame.cls.relayable = true ∧
      (∀ q ∈ n.tx.queue, ¬(q.frame.hdr.origin = x.frame.hdr.origin ∧ q.frame.hdr.seq = x.frame.hdr.seq)) ∧
      n.relay.seen = [] ++ seen18 1 .none :: [] ∧ (seen18 1 .none).origin = x.frame.hdr.origin ∧
      (seen18 1 .none).seq = x.frame.hdr.seq ∧
      (x.relay = true ∧ x.frame.hdr.origin ≠ n.cfg.address ∧ x.frame.hdr.hop ≠ 0 ∧ n.link.state ≠ .isolated ∧
        n.power.battery ≠ .critical) ∧
      ({ notice18.hdr with hop := 0 } : Header).hop = 0 ∧
      (x.frame.cls = .notice ∧ n.onPanel = false) ∧ panelNode.onPanel = true := by decide

/-- For DeliveredAlarmIsTaken: an unlisted origin with room, one with the list full, and a listed one; the own zone
outside CONFIRMING and before the N-th sample; the own origin; and a test ALARM. -/
theorem witness_DeliveredAlarmIsTaken :
    let f := frameFrom 17 18 5 (.alarm .smoke 1 2 3)
    let n := serving detector .useDelivery f
    (n.rx.service = some ⟨0, .useDelivery⟩ ∧ n.rx.slots[0]? = some (some ⟨f, true, true, 1000, true⟩) ∧
      f.body = .alarm .smoke 1 2 3 ∧ f.hdr.test = false ∧ f.hdr.origin ≠ n.cfg.address ∧
      f.hdr.zone ≠ n.cfg.zone ∧ n.active = true ∧ (∀ o ∈ n.alarm.origins, o.address ≠ f.hdr.origin) ∧
      n.alarm.origins.length < 8) ∧
      (let full : List OriginEntry := [⟨1, 9, .heat, 0⟩, ⟨2, 9, .heat, 0⟩, ⟨3, 9, .heat, 0⟩, ⟨4, 9, .heat, 0⟩,
         ⟨5, 9, .heat, 0⟩, ⟨6, 9, .heat, 0⟩, ⟨7, 9, .heat, 0⟩, ⟨8, 9, .heat, 0⟩]
       8 ≤ full.length ∧ ∀ o ∈ full, o.address ≠ f.hdr.origin) ∧
      (let o : OriginEntry := ⟨18, 9, .heat, 0⟩
       let l : OriginEntry := ⟨17, 9, .heat, 0⟩
       [l, o] = [l] ++ o :: [] ∧ o.address = f.hdr.origin ∧ ∀ y ∈ [l], y.address ≠ f.hdr.origin) ∧
      (let g : Frame := { f with hdr := { f.hdr with zone := 7 } }
       g.hdr.zone = n.cfg.zone ∧ n.alarm.state ≠ .confirming ∧
         (confirming (image .detector) 1 none).alarm.confirmCount ≠ n.cfg.confirm) ∧
      (frameFrom 17 40 5 (.alarm .smoke 1 2 3)).hdr.origin = n.cfg.address ∧
      ({ f.hdr with test := true } : Header).test = true := by decide

/-- For DeliveredControlIsApplied: target zone 0, the own zone 7, and another. -/
theorem witness_DeliveredControlIsApplied :
    let f := frameFrom 17 18 5 (.control .testOn 7)
    let n := serving detector .useDelivery f
    n.rx.service = some ⟨0, .useDelivery⟩ ∧ n.rx.slots[0]? = some (some ⟨f, true, true, 1000, true⟩) ∧
      f.body = .control .testOn 7 ∧ (7 : ZoneCode) = n.cfg.zone ∧ n.alarm.state ≠ .alarm ∧ n.active = true ∧
      ¬((8 : ZoneCode) = 0 ∨ (8 : ZoneCode) = n.cfg.zone) := by decide

/-- For UnechoedFramesAreRetried: attempts 3 and 4 at the window's very end; an ALARM of an ISOLATED node; its resend
time. -/
theorem witness_UnechoedFramesAreRetried :
    (let n := { watching detector 3 (.window 1024) with link := ⟨119, 127⟩ }
     n.active = true ∧ n.tx.queue = [] ∧ n.relay.watch = [] ++ ⟨alarm40, 3, .window 1024⟩ :: [] ∧
       reached n.clock 1024 = true ∧ alarm40.cls.relayable = true ∧ n.link.efc ≤ 119 ∧ n.link.rfc ≤ 127 ∧ 3 < 4) ∧
      ((watching detector 4 (.window 1024)).relay.watch = [] ++ ⟨alarm40, 4, .window 1024⟩ :: [] ∧
        alarm40.isNoPath = false) ∧
      (let n := { watching detector 9 (.window 1024) with link := ⟨256, 0⟩ }
       n.relay.watch = [] ++ ⟨alarm40, 9, .window 1024⟩ :: [] ∧ alarm40.cls = .alarm ∧ 256 ≤ n.link.efc) ∧
      (let n := watching detector 255 (.resendWait 1024)
       n.relay.watch = [] ++ ⟨alarm40, 255, .resendWait 1024⟩ :: [] ∧ reached n.clock 1024 = true ∧
         n.active = true ∧ n.tx.queue = []) := by decide

/-- For LinesAreDebouncedAndTamperIsReported: an edge of each line; each phase,
off the base and back; and a start with the head off its base. -/
theorem witness_LinesAreDebouncedAndTamperIsReported :
    (detector.out.tamperLine ≠ true ∧ detector.out.testLine ≠ true ∧ detector.out.tamperLine = false) ∧
      (let n := { detector with out := { detector.out with tamperLine := true, tamperDebounce := some 1024 } }
     due n.clock n.out.tamperDebounce = true ∧ n.tx.queue = [] ∧ n.out.offBase ≠ n.out.tamperLine ∧
       n.active = true ∧ n.out.tamperLine = true) ∧
      (let n := { detector with out := { detector.out with offBase := true, tamperDebounce := some 1024 } }
       due n.clock n.out.tamperDebounce = true ∧ n.out.offBase ≠ n.out.tamperLine ∧ n.out.tamperLine = false) ∧
      (node .detector .dormant).power.phase = .dormant ∧ Node.powerOn.power.phase = .startUp ∧
      (let n := { Node.powerOn with out := { Outputs.powerOn with tamperLine := true, offBase := true } }
       n.loader.read = some ⟨1, none, false⟩ ∧ judgeImage (imageBytes 0) = .ok (image .detector, []) ∧
         n.power.oscillator = .running ∧ n.alarm = AlarmUnit.atReset ∧ n.tx.queue = [] ∧ n.out.offBase = true) := by decide +kernel

/-- For TestInputIsTimed: a debounce and the two points of a hold at their very ticks, in each mode. -/
theorem witness_TestInputIsTimed :
    (let n := { detector with out := { detector.out with testLine := true, testDebounce := some 1024 } }
     due n.clock n.out.testDebounce = true ∧ n.out.testPressed ≠ n.out.testLine) ∧
      (let n := { detector with clock := 3072, out := { detector.out with hold := .since 1024 false false } }
       n.out.hold = .since 1024 false false ∧ reached n.clock (later 1024 2048) = true ∧ n.active = true ∧
         n.alarm.walkTest = none ∧ n.alarm.testEnded ≠ some n.clock ∧ n.cfg.role ≠ .repeater) ∧
      (let a := ({ AlarmUnit.atReset with walkTest := some 9000 } : AlarmUnit).endTest 3072
       a.walkTest = none ∧ a.testEnded = some 3072) ∧
      ({ AlarmUnit.atReset with walkTest := some 9000 } : AlarmUnit).walkTest.isSome = true ∧
      (detector.tx.queue = [] ∧ repeater.cfg.role = .repeater ∧ repeater.active = true) ∧
      (∀ p, detector.out.sounder = some p → p.pattern = .faultChirp) ∧
      (let n := { node .detector .dormant with
         clock := 6144, out := { detector.out with hold := .since 1024 true false } }
       n.out.hold = .since 1024 true false ∧ reached n.clock (later 1024 5120) = true ∧
         n.power.phase = .dormant ∧ n.loader.read = none) :=
  ⟨by decide, by decide, by decide, by decide, by decide, fun p h => absurd h (by simp [detector, node, Node.powerOn, Outputs.powerOn]),
    by decide⟩

/-- A detector in ALARM, with the red pattern flashing and the sounder at the last step of LOCAL ALARM. -/
def alarmedNode : Node :=
  { node .detector .run with
    alarm := { AlarmUnit.atReset with state := .alarm, wantFast := true }
    out := { detector.out with
      sounder := some ⟨.localAlarm, 5, some 1024⟩, red := ⟨.alarmFlash, 1, some 1024⟩ } }

/-- Its patterns follow their requests. -/
theorem alarmedNode_follows : alarmedNode.PatternsFollow := ⟨by decide, by decide, by decide⟩

/-- For PatternsStep: the sounder at its last step; each indicator at its dark step and at its lit one; an overlay and a
chirp at their ends; and the test sound. -/
theorem witness_PatternsStep :
    alarmedNode.PatternsFollow ∧
      (alarmedNode.out.sounder = some ⟨.localAlarm, 5, some 1024⟩ ∧ due alarmedNode.clock (some 1024) = true ∧
        [(true, 512), (false, 512), (true, 512), (false, 512), (true, 512), (false, 2048)][0]? = some (true, 512)) ∧
      (due alarmedNode.clock alarmedNode.out.red.ends = true ∧
        [(true, 102), (false, 922)][0]? = some (true, 102) ∧ alarmedNode.out.overlay = none) ∧
      (let o := { detector.out with amber := ⟨.config, 0, some 1024⟩ }
       due detector.clock o.amber.ends = true ∧ [(true, 512), (false, 512)][1]? = some (false, 512)) ∧
      reached detector.clock (⟨.selfCheck, 1024⟩ : Overlay).ends = true ∧
      due detector.clock ({ detector.out with chirp := some 1024 } : Outputs).chirp = true ∧
      ({ detector.out with sounder := some ⟨.test, 0, none⟩ } : Outputs).sounder = some ⟨.test, 0, none⟩ :=
  ⟨alarmedNode_follows, by decide⟩

/-- For PatternsFollowTheirRequests: a SILENCE that makes an alarmed node's sounder silent and keeps its red pattern; a
delivered ALARM that starts REMOTE ALARM; and a miss that makes the amber pattern the isolated one. -/
theorem witness_PatternsFollowTheirRequests :
    alarmedNode.PatternsFollow ∧
      (∃ t, exec .useDelivery (idleState (serving alarmedNode .useDelivery (frameFrom 17 18 5 (.control .silence 7)))) =
          .next t ∧ t.node.out.sounder = none ∧ t.node.out.chirp = none ∧
        t.node.out.red.pattern = alarmedNode.out.red.pattern) ∧
      (∃ t, exec .useDelivery (idleState (serving detector .useDelivery (frameFrom 17 18 5 (.alarm .smoke 1 2 3)))) =
          .next t ∧ t.node.out.sounder = some ⟨.remoteAlarm, 0, some 2048⟩ ∧
        detector.out.sounder.map (fun q => q.pattern) ≠ some .remoteAlarm) ∧
      ∃ t, exec .echoWindowExpiry (idleState { watching detector 1 (.window 1024) with link := ⟨248, 0⟩ }) = .next t ∧
        t.node.out.amber.pattern ≠ detector.out.amber.pattern ∧ t.node.out.overlay = none :=
  ⟨alarmedNode_follows, ⟨_, rfl, by decide +kernel⟩, ⟨_, rfl, by decide +kernel⟩, ⟨_, rfl, by decide +kernel⟩⟩

/-- For StatusAndPeersAreAnswered: outside START-UP, with nothing owed. -/
theorem witness_StatusAndPeersAreAnswered :
    detector.power.phase ≠ .startUp ∧ detector.serial.answers = [] ∧ detector.rx.capture = none := by decide

/-- For LineCommandsAreAnswered, its first clause: the panel line, PATROL, and DORMANT with and without a read. -/
theorem witness_LineCommandsAreAnswered_commissioning :
    (panelNode.power.phase ≠ .startUp ∧ panelNode.serial.answers = [] ∧ panelNode.onPanel = true) ∧
      (detector.power.phase ≠ .startUp ∧ detector.serial.answers = [] ∧ detector.onPanel = false ∧
        detector.active = true) ∧
      (let n := node .detector .dormant
       n.power.phase = .dormant ∧ n.onPanel = false ∧ n.serial.answers = [] ∧ n.loader.read = none ∧
         ({ n.loader with read := some ⟨1, none, true⟩ } : Loader).read.isSome = true) := by decide

/-- For LineCommandsAreAnswered, the panel commands: zones 0, 7 and 63, with nothing queued and with the same CONTROL waiting. -/
theorem witness_LineCommandsAreAnswered_panel :
    (panelNode.onPanel = true ∧ panelNode.active = true ∧ panelNode.serial.answers = [] ∧ (63 : Byte).toNat ≤ 63 ∧
      panelNode.tx.queue = [] ∧ (NoticeItem.mk .preAlarm none) ∉ panelNode.alarm.notices ∧
      ((7 : Byte).setWidth 6 : ZoneCode) = panelNode.cfg.zone) ∧
      (let e : TxEntry := ⟨frameFrom 40 40 1 (.control .silence 0), true, .waiting, 1000, some 1⟩
       ∃ x ∈ [e], (x.state = .waiting ∨ x.state = .holdoff) ∧
         x.frame.body = .control .silence ((0 : Byte).setWidth 6)) := by decide

/-- For CompleteRecordsAreJudged: START-UP; an answer owed; a wrong sum; an unknown type; each line's commands on the
other; a wrong length of each kind; a panel command for zone 64; and a good record of each length. -/
theorem witness_CompleteRecordsAreJudged :
    Node.powerOn.power.phase = .startUp ∧
      ({ panelNode.serial with answers := [acceptAnswer 3 .park] } : Serial).answers ≠ [] ∧
      (panelNode.power.phase ≠ .startUp ∧ panelNode.serial.answers = [] ∧ panelNode.onPanel = true) ∧
      (0x01 : Byte) + byte 0 + byteSum [] + 0 ≠ 0 ∧
      ((0x06 : Byte) + byte 0 + byteSum [] + 250 = 0 ∧
        (0x06 : Byte).toNat ∉ [0x01, 0x02, 0x03, 0x04, 0x05, 0x11, 0x12, 0x13, 0x14]) ∧
      (detector.power.phase ≠ .startUp ∧ detector.serial.answers = [] ∧ detector.onPanel = false) ∧
      (0x03 : Byte) + byte 0 + byteSum [] + 253 = 0 ∧ (0x14 : Byte) + byte 0 + byteSum [] + 236 = 0 ∧
      ([] : List Byte).length ≠ 1 ∧ (0x05 : Byte) + byte 1 + byteSum [9] + 241 = 0 ∧
      (0x01 : Byte) + byte 1 + byteSum [9] + 245 = 0 ∧
      ((0x11 : Byte) + byte 1 + byteSum [64] + 174 = 0 ∧ 63 < (64 : Byte).toNat) ∧
      (0x01 : Byte) + byte 0 + byteSum [] + 255 = 0 ∧ (0x11 : Byte) + byte 1 + byteSum [0] + 238 = 0 := by decide

/-- For SerialBytesMakeRecords: hunting; one byte; a payload byte still to come; the sum byte; and a timeout. -/
theorem witness_SerialBytesMakeRecords :
    detector.serial.rx = none ∧ ([0x11] : List Byte).length < 2 ∧
      (([] : List Byte).length < (1 : Byte).toNat ∧ ([0] : List Byte).length = (1 : Byte).toNat) ∧
      (let v := { detector.serial with rx := some [0x11, 1, 0], timeout := some 1024 }
       v.rx = some (0x11 :: 1 :: [0]) ∧ due detector.clock v.timeout = true) := by decide

/-- For AnswerSentTakesItsReset: an answer that sets off each action. -/
theorem witness_AnswerSentTakesItsReset (action : AnswerAction) :
    let v := { detector.serial with tx := .answer, answers := [acceptAnswer 3 action] }
    v.tx = .answer ∧ v.answers = acceptAnswer 3 action :: [] ∧ (acceptAnswer 3 action).action = action :=
  ⟨rfl, rfl, rfl⟩

/-- For EventRecordSentLeavesTheQueue, the first clause: one record alone, and one with another behind it. -/
theorem witness_EventRecordSentLeavesTheQueue :
    let r := panelNode.alarmRecord false 18 9 .smoke 1 2 3
    let v := { panelNode.serial with tx := .event, panel := [r, r] }
    v.tx = .event ∧ v.panel = r :: [r] ∧ panelNode.power.phase = .run ∧ panelNode.onPanel = true ∧ v.answers = [] := by
  decide

/-- For FramesReadBack: the longest bodies. -/
theorem witness_FramesReadBack :
    alarm40.body.wellFormed = true ∧ (Body.beacon 0 0 [1, 2, 3, 4, 5, 6]).wellFormed = true ∧
      (Body.notice .peerLost false (some 9)).wellFormed = true := by decide

/-- For GeneratorActiveEntryAndOscillatorAreKept, ListsStayBounded and SilentOutsidePatrolAndRun: the reset state meets them, and
steps. -/
theorem witness_invariants :
    (State.reset.node.tx.rng ≠ 0 ∧ State.reset.node.Bounded ∧ State.reset.node.tx.activeAgrees ∧
      State.reset.node.OscillatorServes ∧ State.reset.node.Silent) ∧ ∃ t, step State.reset = .next t :=
  ⟨⟨by decide,
    ⟨by decide, by decide, by decide, by decide, by decide, by decide, by decide, by decide, by decide, by decide,
      by decide, by decide, by decide⟩,
    by unfold Transmitter.activeAgrees; decide,
    ⟨by decide, by decide, by decide, by decide, by decide, by decide, by decide⟩,
    ⟨by decide, by decide, by decide, by decide, by decide⟩⟩, _, rfl⟩

/-- For BlocksAreChangedByTheirOwnCommands: a command that completes, which changes none of these blocks. -/
theorem witness_BlocksAreChangedByTheirOwnCommands :
    (∃ t, exec .peers (idleState detector) = .next t) ∧ Instr.peers.changesSensing = false ∧
      Instr.peers.changesEvidence = false ∧ Instr.peers.changesPeers = false ∧ Instr.peers.changesLoader = false ∧
      Instr.peers.changesSlots = false ∧ Instr.peers.changesAlarm = false ∧ Instr.peers.changesLines = false ∧
      Instr.peers.changesCarrier = false ∧ Instr.peers.changesBattery = false ∧
      Instr.peers.changesGenerator = false ∧ Instr.overlayEnd.changesAnswers = false :=
  ⟨⟨_, rfl⟩, by decide⟩

/-! ## The manual's worked cases -/

/-- A queue entry of Table 6-1. -/
def entry61 (b : Body) (own : Bool) (origin seq : Byte) (st : TxState) : TxEntry :=
  ⟨⟨⟨0x2C, 4, false, 33, origin, 7, 0, seq⟩, b⟩, own, st, 0, none⟩

/-- Table 6-1, the queue of node 33 before the offers. -/
def queue61 : Transmitter :=
  { Transmitter.powerOn with
    engine := .sending
    oneHop := 0x0E
    queue := [entry61 alarm40.body false 40 0x93 .sending,
      entry61 (.notice .tamper true none) true 33 0x51 .waiting,
      entry61 (.notice .tamper true none) false 52 10 .holdoff,
      entry61 (.notice .tamper true none) false 61 200 .holdoff,
      entry61 (.beacon 0 0 []) true 33 0x0C .waiting,
      entry61 (.evidence 70 .watch) true 33 0x0D .waiting,
      entry61 (.notice .tamper true none) false 52 11 .waiting,
      entry61 (.control .silence 0) false 1 7 .holdoff] }

/-- An offer to it, and what the table shows of the result: the answer, the entry evicted, "queue drops" and the
identities in the queue. -/
def offer61 (t : Transmitter) (e : TxEntry) (earliest : Stamp) : Transmitter × OfferAnswer × Option TxEntry :=
  t.offer 1000 e.frame e.own earliest e.attempt

/-- Table 6-2's first offer: an EVIDENCE replaces the waiting one, with sequence 0x0E, in the newest place. -/
theorem test_table_6_2_evidence :
    let r := offer61 queue61 (entry61 (.evidence 90 .watch) true 33 0 .waiting) 1000
    r.2.1 = .replaced ∧ r.1.drops = 0 ∧ r.1.queue.length = 8 ∧
      (r.1.queue.getLast?.map (fun e => (e.frame.hdr.seq, e.frame.cls))) = some (0x0E, .evidence) := by decide

/-- Table 6-2's second offer: a relayed ALARM with a holdoff of 73 units evicts the BEACON and enters HOLDOFF. -/
theorem test_table_6_2_alarm :
    let r := offer61 queue61 (entry61 alarm40.body false 17 0x20 .waiting) 1073
    r.2.1 = .accepted ∧ r.1.drops = 1 ∧ (r.2.2.map (fun e => e.frame.cls)) = some .beacon ∧
      (r.1.queue.getLast?.map (fun e => (e.frame.hdr.seq, e.state))) = some (0x20, .holdoff) := by decide

/-- The worked case of chapter 7: the ALARM displaces the EVIDENCE of partner 61, and the capture holds its header. -/
theorem test_burst_displaces_evidence :
    let x := fun (f : Frame) (b : Bool) => some (Slot.mk f true true 0 b)
    let ev := frameFrom 61 61 1 (.evidence 70 .watch)
    let r : Receiver := { Receiver.powerOn with
      slots := [x (frameFrom 52 52 10 (.notice .tamper true none)) true, x ev false,
        x (frameFrom 70 70 5 (.notice .tamper true none)) false, x (frameFrom 1 1 7 (.control .silence 0)) false]
      order := [0, 1, 2, 3] }
    let r' := r.accept 500 ⟨alarm40.relayed 17, true, true, 500, false⟩
    r'.slots[1]? = some (some ⟨alarm40.relayed 17, true, true, 500, false⟩) ∧ r'.overruns = 1 ∧
      r'.capture = some ⟨ev.headerBytes, 500⟩ := by decide

/-- The table of chapter 3's worked case: partners 0 to 4, and the two weakest others at 9 and 12. -/
def table32 : PeerTable :=
  let p := fun (zone : ZoneCode) (level : Nat) => some { peer 99 .fresh 0 true with zone := some zone, level := level }
  { PeerTable.empty with
    entries := [p 7 70, p 7 52, p 7 45, p 7 90, p 7 38, p 3 30, p 3 31, p 3 32, p 3 33, p 3 22, p 3 34, p 3 35,
      (peer 98 .fresh 0 true |> fun q => some { q with zone := none, level := 22 }), p 3 36, p 3 37, p 3 38] }

/-- Table 3-2: a partner takes index 9 without a margin; a relayed newcomer at 27 is one short of 28 and is not
admitted once index 9 is a partner's. -/
theorem test_table_3_2 :
    let beacon61 : Frame := ⟨⟨0x2C, 0, false, 61, 61, 7, 0, 1⟩, .beacon 0 12 []⟩
    let r := table32.take 40 7 500 15 beacon61
    table32.place 7 15 beacon61 = some 9 ∧
      (r.1.take 40 7 500 27 (frameFrom 88 17 2 (.alarm .smoke 1 2 3))).1.untracked = 1 ∧
      r.1.place 7 31 (frameFrom 88 88 1 (.beacon 0 1 [])) = some 12 := by decide

/-- Table 3-3: peer 23 goes STALE with 1 missed, STALE with 2, then LOST with 3. -/
theorem test_table_3_3 :
    let q := (peer 23 .fresh 0 false).supervise
    (q.state, q.missed) = (.stale, 1) ∧ (q.supervise.state, q.supervise.missed) = (.stale, 2) ∧
      (q.supervise.supervise.state, q.supervise.supervise.missed) = (.lost, 3) := by decide

/-- The worked sequence of chapter 11: the first SILENCE for zone 0 is answered ACCEPT, queued and recorded. -/
theorem test_first_silence :
    let n := after (.silence 0) panelNode
    n.serial.answers.map (fun a => a.bytes) = [frameRecord 0x81 [0x11]] ∧
      n.tx.queue.map (fun e => (e.frame.hdr.seq, e.state)) = [(0, .waiting)] ∧ n.relay.originSeq = 1 ∧
      n.serial.panel.map (fun r => r.kind) = [.controlApplied] := by decide +kernel

/-- The worked sequence of chapter 10: a check at 409856 with carrier on the channel hunts until 410163. -/
theorem test_check_hears_carrier :
    let n := after .channelCheck (receiving { detector with clock := 409856 } .off true)
    n.rx.state = .syncHunt ∧ n.power.hunt = some 410163 ∧ n.power.listen = some 409858 := by decide +kernel

/-! ## Witnesses of the statements about several blocks -/

/-- A detector in walk test at its very end, with the count stage at FAST. -/
def testingNode : Node :=
  { detector with
    alarm := { AlarmUnit.atReset with walkTest := some 1024, wantFast := true }
    timer := ⟨true, 5, 8⟩ }

/-- For FastAndSlowAreSentAsTheIntervalChanges: a sample that enters WATCH sends FAST and the end of walk test sends
SLOW; a stopped stage; and the consequence that both nodes keep. -/
theorem witness_FastAndSlowAreSentAsTheIntervalChanges :
    (∃ t, exec .evidencePublication (idleState (judging brightRecord)) = .next t ∧
      (judging brightRecord).alarm.wantFast = false ∧ t.node.alarm.wantFast = true ∧
      (judging brightRecord).timer.running = true ∧ (judging brightRecord).cfg.role ≠ .repeater) ∧
      (∃ t, exec .walkTestExpiry (idleState testingNode) = .next t ∧ testingNode.alarm.wantFast = true ∧
        t.node.alarm.wantFast = false ∧ testingNode.timer.running = true) ∧
      (∃ t, exec .walkTestExpiry (idleState { testingNode with timer := .stopped }) = .next t ∧
        t.node.alarm.wantFast = false) ∧
      testingNode.wantAgrees :=
  ⟨⟨_, rfl, by decide +kernel⟩, ⟨_, rfl, by decide +kernel⟩, ⟨_, rfl, by decide +kernel⟩,
    ⟨fun _ => .inr (.inl rfl), fun _ => rfl⟩⟩

/-- For ConfirmedSampleEntersAlarm: one partner whose evidence is 20 s old, at the very unit, makes a count of 1. -/
theorem witness_ConfirmedSampleEntersAlarm_partner :
    let partner : Peer := { peer 17 .fresh 0 true with zone := some 7, pv := some ⟨64, 1024 - 20480⟩ }
    1 ≤ Set.ncard {a : Byte | ∃ p : Peer, some p ∈ some partner :: List.replicate 15 none ∧ p.address = a ∧
      p.zone = some 7 ∧ p.state ≠ .lost ∧
      (p.alarm = some .alarm ∨ ∃ v, p.pv = some v ∧ elapsed 1024 v.stamp ≤ 20480 ∧ 64 ≤ v.value.toNat)} :=
  (Set.ncard_pos (Set.toFinite _)).2
    ⟨17, _, List.mem_cons_self, rfl, rfl, by decide, .inr ⟨_, rfl, by decide, by decide⟩⟩

/-- For PublicationFormsLv, its notices: a second and a third record of a kind; an infrared baseline of 601, of 600 and
of 559. -/
theorem witness_PublicationFormsLv_notices :
    (let r := { record28 with opticalValid := false }
     (judging r).evidence.inHand = some r ∧ (judging r).active = true ∧
       r.opticalValid = ({ Evidence.powerOn with opticalRun := 1 } : Evidence).opticalRaised ∧
       ({ Evidence.powerOn with opticalRun := 1 } : Evidence).opticalRun < 2 ∧
       2 ≤ ({ Evidence.powerOn with opticalRun := 2 } : Evidence).opticalRun ∧
       r.heatValid ≠ (judging r).evidence.heatRaised ∧ (judging r).evidence.seedPending = false) ∧
      (let accI := fun acc => (after .evidencePublication
         { judging { record28 with opticalValid := false } with
           evidence := { (judging { record28 with opticalValid := false }).evidence with accI := acc } }).evidence.accI
       600 < accI 38464 / 64 ∧ accI 38400 / 64 = 600 ∧ accI 35776 / 64 < 560) := by decide +kernel

/-- A detector that judges a record in WATCH. -/
def watchful (r : SampleRecord) (hysteresis : Nat) : Node :=
  { judging r with
    alarm := { AlarmUnit.atReset with state := .watch, hysteresis := hysteresis, wantFast := true } }

/-- A record of clear air: Si is the baseline. -/
def clearRecord : SampleRecord := { record28 with infrared := 190, blue := 160, heat := 400 }

/-- For JudgedSamplesMoveTheUnit: WATCH at A, between W − 8 and A, and below W − 8 with the second and the last hysteresis
count; CONFIRMING below A, at A before the N-th sample, and at the N-th in walk test; and WATCH where N is 1. -/
theorem witness_JudgedSamplesMoveTheUnit :
    let lv := fun n : Node => (after .evidencePublication n).evidence.lv
    (let n := watchful alarmRecord 4
     n.evidence.inHand = some alarmRecord ∧ n.evidence.settling = 0 ∧ alarmRecord.opticalValid = true ∧
       n.active = true ∧ n.alarm.state = .watch ∧ n.cfg.alarm ≤ lv n ∧ 1 < n.cfg.confirm ∧ n.tx.queue = []) ∧
      (let n := watchful brightRecord 2; lv n < n.cfg.alarm ∧ n.cfg.watch ≤ lv n + 8) ∧
      (let n := watchful clearRecord 2; lv n + 8 < n.cfg.watch ∧ 1 < n.alarm.hysteresis) ∧
      (let n := watchful clearRecord 1; n.alarm.hysteresis = 1 ∧ lv n + 8 < n.cfg.watch) ∧
      (let n := { confirming (image .detector) 1 none with
         evidence := (watchful brightRecord 1).evidence }
       n.alarm.state = .confirming ∧ lv n < n.cfg.alarm) ∧
      (let n := confirming { image .detector with confirm := 3 } 1 none
       n.alarm.confirmCount + 1 < n.cfg.confirm ∧ n.cfg.alarm ≤ lv n) ∧
      (let n := confirming { image .detector with solo := 128 } 1 (some 9000)
       n.alarm.walkTest.isSome = true ∧ n.cfg.alarm ≤ lv n ∧ n.cfg.solo ≤ lv n ∧
         n.cfg.confirm ≤ n.alarm.confirmCount + 1) ∧
      (let n := confirming { image .detector with solo := 128, confirm := 1 } 0 (some 9000)
       let m := { n with alarm := { n.alarm with state := .watch } }
       m.alarm.state = .watch ∧ m.cfg.confirm = 1 ∧ m.alarm.walkTest.isSome = true ∧ m.cfg.alarm ≤ lv m ∧
         m.cfg.solo ≤ lv m) ∧
      ({ AlarmUnit.atReset with state := .alarm } : AlarmUnit).state = .alarm := by decide +kernel

/-- A frame in the queue. -/
def queued (f : Frame) (own : Bool) (st : TxState) : TxEntry := ⟨f, own, st, 1024, none⟩

/-- Node 40's own BEACON. -/
def beacon40 : Frame := ⟨⟨0x2C, 0, false, 40, 40, 7, 0, 3⟩, .beacon 0 12 []⟩

/-- Node 40's relay of a node's NOTICE. -/
def relay40 (origin : Byte) : Frame := frameFrom 40 origin 9 (.notice .tamper true none)

/-- A detector with a queue. -/
def withQueue (n : Node) (q : List TxEntry) : Node := { n with tx := { n.tx with queue := q } }

/-- For OffersReplaceEvictOrAreDropped, the one-hop offer: a BEACON waiting; and eight entries, none a BEACON. -/
theorem witness_OffersReplaceEvictOrAreDropped_oneHop :
    (let n := { withQueue detector [queued beacon40 true .waiting, queued (relay40 1) false .waiting] with
       tx := { detector.tx with
         queue := [queued beacon40 true .waiting, queued (relay40 1) false .waiting], beaconDue := some 1024 } }
     due n.clock n.tx.beaconDue = true ∧ n.active = true ∧
       n.tx.queue = [] ++ queued beacon40 true .waiting :: [queued (relay40 1) false .waiting] ∧
       beacon40.cls = .beacon ∧ (queued beacon40 true .waiting).state = .waiting ∧
       ∀ y ∈ [queued (relay40 1) false .waiting], y.frame.cls = .beacon → y.state ≠ .waiting) ∧
      (let q := (List.range 8).map (fun k => queued (relay40 (byte (k + 1))) false .waiting)
       8 ≤ q.length ∧ ∀ y ∈ q, y.frame.cls ≠ .beacon) := by decide

/-- For OffersReplaceEvictOrAreDropped, the relay offer: a duplicate; a full queue whose one lower class is an own BEACON in
its last place; and one with no lower class. -/
theorem witness_OffersReplaceEvictOrAreDropped_relay :
    let n := serving detector .relayOffer (frameFrom 17 18 5 (.notice .tamper true none))
    let x : Slot := ⟨frameFrom 17 18 5 (.notice .tamper true none), true, true, 1000, true⟩
    let others := (List.range 7).map (fun k => queued (relay40 (byte (k + 1))) false .waiting)
    let v := queued beacon40 true .waiting
    (n.rx.service = some ⟨0, .relayOffer⟩ ∧ n.rx.slots[0]? = some (some x) ∧ n.active = true ∧
      x.frame.cls.relayable = true ∧ x.relay = true ∧ x.frame.hdr.origin ≠ n.cfg.address ∧ x.frame.hdr.hop ≠ 0 ∧
      n.link.state ≠ .isolated ∧ n.power.battery ≠ .critical) ∧
      (∃ q ∈ [queued (frameFrom 40 18 5 (.notice .tamper true none)) false .sending],
        q.frame.hdr.origin = x.frame.hdr.origin ∧ q.frame.hdr.seq = x.frame.hdr.seq) ∧
      ((∀ q ∈ others ++ [v], ¬(q.frame.hdr.origin = x.frame.hdr.origin ∧ q.frame.hdr.seq = x.frame.hdr.seq)) ∧
        8 ≤ (others ++ [v]).length ∧ others ++ [v] = others ++ v :: [] ∧ v.state = .waiting ∧
        v.frame.cls.rank < x.frame.cls.rank ∧ (∀ y ∈ others, v.frame.cls.rank ≤ y.frame.cls.rank) ∧
        ¬(v.own = true ∧ v.frame.cls.relayable = true)) ∧
      (let q := others ++ [queued (relay40 9) false .holdoff]
       8 ≤ q.length ∧ ∀ y ∈ q, x.frame.cls.rank ≤ y.frame.cls.rank) := by decide

/-- For OffersReplaceEvictOrAreDropped, the retry: a resend time reached, with a full queue of waiting ALARMs whose
newest relay goes, and with an own BEACON of the retry's sequence. -/
theorem witness_OffersReplaceEvictOrAreDropped_retry :
    let w : WatchEntry := ⟨alarm40, 1, .resendWait 1024⟩
    (let n := watching detector 1 (.resendWait 1024)
     n.active = true ∧ n.relay.watch = [] ++ w :: [] ∧ reached n.clock 1024 = true ∧ w.frame.cls = .alarm) ∧
      (let q := (List.range 8).map (fun k => queued (frameFrom 40 (byte (k + 1)) 9 alarm40.body) false .waiting)
       8 ≤ q.length ∧ (∀ y ∈ q, ¬(y.frame.hdr.origin = 40 ∧ y.frame.hdr.seq = 0x93)) ∧
         (∀ y ∈ q, y.frame.cls = .alarm) ∧
         q = q.take 7 ++ queued (frameFrom 40 8 9 alarm40.body) false .waiting :: [] ∧
         (queued (frameFrom 40 8 9 alarm40.body) false .waiting).own = false) ∧
      (let v := queued { beacon40 with hdr := { beacon40.hdr with seq := 0x93 } } true .waiting
       [v] = [] ++ v :: [] ∧ v.frame.hdr.origin = 40 ∧ v.frame.hdr.seq = 0x93 ∧ v.own = true ∧
         v.frame.cls.relayable = false ∧ v.state ≠ .sending) := by decide

/-- For HoldoffBackoffAndSynthesiserEnd: a holdoff that ends at this very tick; a BACKOFF at its very end, with an entry
and with none; a synthesiser started and one stopped. -/
theorem witness_HoldoffBackoffAndSynthesiserEnd :
    (let n := queueing detector .holdoff .idle
     let e : TxEntry := ⟨alarm40, true, .holdoff, 1024, some 1⟩
     n.tx.queue = [] ++ e :: [] ∧ e.state = .holdoff ∧ reached n.clock e.earliest = true ∧
       ∀ x ∈ ([] : List TxEntry), x.state = .holdoff → reached n.clock x.earliest = false) ∧
      (let t := { (queueing detector .waiting .backoff).tx with backoff := some 1024 }
       t.engine = .backoff ∧ due detector.clock t.backoff = true ∧ ∃ e ∈ t.queue, e.state = .waiting) ∧
      (∀ e ∈ ({ detector.tx with engine := .backoff } : Transmitter).queue, e.state ≠ .waiting) ∧
      ({ detector.tx with synth := .starting } : Transmitter).synth ≠ .stopped ∧
      detector.tx.synth = .stopped := by decide

/-- For WakeSourcesStartTheOscillator: a due event, a count stage's underflow, a check, an edge of each line and a byte of
the serial line with the oscillator stopped; and a started oscillator with a claim, with an answer owed, and with no claim. -/
theorem witness_WakeSourcesStartTheOscillator :
    let owing := { detector with serial := { detector.serial with answers := [⟨[1], .none⟩] } }
    (detector.power.phase = .patrol ∧ detector.power.oscillator = .stopped ∧ detector.timer.running = true ∧
      detector.timer.count ≤ 1 ∧ detector.rx.state = .off ∧ detector.clock.toNat % 256 = 0 ∧
      detector.out.tamperLine = false ∧ detector.out.testLine = false ∧ detector.serial.rx = none) ∧
      Instr.walkTestExpiry ∈ testingNode.dueNow ∧
      ((node .detector .dormant).power.phase = .dormant ∧ (node .detector .dormant).power.oscillator = .stopped) ∧
      ({ detector.power with oscillator := .starting } : Power).oscillator = .starting ∧
      (detector.serial.tx = .idle ∧ owing.serial.answers ≠ [] ∧ owing.serial.tx = .idle) ∧
      listeningNode.rx.state ≠ .off ∧
      (detector.sensing.stage = .idle ∧ detector.sensing.buffer0.state = .free ∧
        detector.sensing.buffer1.state = .free ∧ detector.tx.engine = .idle ∧ detector.serial.answers = [] ∧
        detector.out.tone = false ∧ detector.loader.read = none) := by decide

/-- For CarrierOnsetIsHeard: 40 µs and 1 µs before a boundary with a candidate in WAIT; 41 µs before it; and at it. -/
theorem witness_CarrierOnsetIsHeard_near :
    let n := queueing panelNode .waiting .wait
    (n.rx.carrier = false ∧ n.RunByRole ∧ n.rx.state = .listening ∧ n.tx.engine = .wait ∧ n.tx.synth = .locked ∧
      n.power.oscillator = .running) ∧
      (∃ e ∈ n.tx.queue, e.state = .waiting) ∧ n.tx.engine ≠ .deferred ∧
      ((-40 : Int) ≤ -40 ∧ (-40 : Int) ≤ -1 ∧ (-1 : Int) < 0 ∧ ¬((-40 : Int) ≤ -41) ∧ ¬((0 : Int) < 0)) :=
  ⟨⟨rfl, ⟨rfl, rfl⟩, rfl, rfl, rfl, rfl⟩, by decide, by decide, by decide⟩

/-- For AssemblyStartsAndBadFramesCount, the first clause: PATROL with an idle engine, and RUN. -/
theorem witness_AssemblyStartsAndBadFramesCount_sync :
    let running := { detector with power := { detector.power with oscillator := .running } }
    ((receiving running .syncHunt true).rx.state = .syncHunt ∧ (receiving running .syncHunt true).Patrolling ∧
      (receiving running .syncHunt true).power.oscillator = .running ∧
      (receiving running .syncHunt true).tx.engine = .idle) ∧
      ((receiving panelNode .syncHunt true).rx.state = .syncHunt ∧ (receiving panelNode .syncHunt true).RunByRole ∧
        (receiving panelNode .syncHunt true).power.oscillator = .running ∧
        (receiving panelNode .syncHunt true).tx.engine ≠ .sending) :=
  ⟨⟨rfl, ⟨rfl, rfl, rfl, rfl⟩, rfl, rfl⟩, rfl, ⟨rfl, rfl⟩, rfl, by decide⟩

/-- For AssemblyStartsAndBadFramesCount, the second clause: a length of 13; a frame with a wrong CRC; a foreign one; a
malformed one; and a node whose link the count does not move. -/
theorem witness_AssemblyStartsAndBadFramesCount_bad :
    ((assembling detector).rx.state = .assembling ∧ 12 < (13 : Byte).toNat ∧
      (assembling detector).link.rfc ≠ 127 ∧ (assembling detector).tx.engine ≠ .sending) ∧
      ((assembling detector).rx.assembly = some 70 ∧ (assembling detector).cfg.networkId = 0x2C ∧
        judgeFrame 0x2C (alarm40.wire.set 8 169) = .bad ∧
        judgeFrame 0x2C ({ alarm40 with hdr := { alarm40.hdr with networkId := 0x2D } } : Frame).wire = .foreign ∧
        judgeFrame 0x2C (frameFrom 17 17 1 (.notice .noPath false none)).wire = .malformed) ∧
      (assembling detector).Patrolling ∧ (assembling panelNode).RunByRole :=
  ⟨by decide, by decide +kernel, ⟨rfl, rfl, rfl, rfl⟩, rfl, rfl⟩

/-- For GoodFrameRefreshesItsSender, with a full table: a LOST entry; another zone's weakest entry at a margin of 6 and of
5; and a table of partners only. -/
theorem witness_GoodFrameRefreshesItsSender_full :
    let f := frameFrom 17 17 1 (.notice .tamper true none)
    let others := (List.range 16).map (fun k => some { peer (byte (k + 100)) .fresh 0 true with level := 64 + k })
    let ours := (List.range 16).map (fun k => some { peer (byte (k + 100)) .fresh 0 true with zone := some 7, level := 65 + k })
    let p : Peer := { peer 100 .fresh 0 true with level := 64 }
    ((∀ e ∈ others, e ≠ none) ∧ (∀ e ∈ others, ∀ q ∈ e, q.address ≠ f.hdr.sender) ∧ f.hdr.sender ≠ 0 ∧
      f.hdr.sender ≠ 255 ∧ f.hdr.sender ≠ detector.cfg.address) ∧
      (let t := { PeerTable.empty with entries := others, lossOrder := [3] }
       t.lossOrder = 3 :: [] ∧ 3 < t.entries.length) ∧
      (others[0]? = some (some p) ∧ p.zone ≠ some detector.cfg.zone ∧ p.level + 6 ≤ 70 ∧ ¬(p.level + 6 ≤ 69) ∧
        (∀ e ∈ others, ∀ q ∈ e, p.level ≤ q.level)) ∧
      ((∀ e ∈ ours, ∀ q ∈ e, q.zone = some detector.cfg.zone) ∧ f.hdr.zone ≠ detector.cfg.zone ∧
        (beacon40.hdr.sender = beacon40.hdr.origin ∧ beacon40.hdr.zone = detector.cfg.zone ∧
          beacon40.hdr.zone ≠ 0)) := by decide

/-- For AcceptedFramesTakeSlots, with a service under way: slots 0 and 2 occupied. -/
theorem witness_AcceptedFramesTakeSlots_mixed :
    let y : Slot := ⟨frameFrom 17 18 5 (.notice .tamper true none), true, true, 1000, true⟩
    let r := { Receiver.powerOn with
      slots := [some y, none, some { y with inService := false }, none], order := [0, 2]
      service := some ⟨0, .relayOffer⟩ }
    r.service.isSome = true ∧ r.slots[1]? = some none ∧ ∀ j < 1, r.slots[j]? ≠ some none := by decide

/-- For CopiesAreCountedAndSuppress, the suppression: a copy that makes one fewer than the threshold of 2, and the
threshold with no relay queued, with it in its holdoff and with it SENDING; and an entry 90 s old, at the very tick. -/
theorem witness_CopiesAreCountedAndSuppress_threshold :
    let q : TxEntry := ⟨notice18.relayed 40, false, .holdoff, 1200, none⟩
    (detector.cfg.suppress ≠ 0 ∧ ¬(detector.cfg.suppress ≤ min 15 ((seen18 0 .pending).copies + 1)) ∧
      detector.cfg.suppress ≤ min 15 ((seen18 1 .pending).copies + 1) ∧ (seen18 1 .pending).cls ≠ .alarm ∧
      (seen18 1 .pending).status = .pending) ∧
      (∀ x ∈ detector.tx.queue, ¬(x.frame.hdr.origin = 18 ∧ x.frame.hdr.seq = 5)) ∧
      ([q] = [] ++ q :: [] ∧ q.frame.hdr.origin = 18 ∧ q.frame.hdr.seq = 5 ∧ q.state = .holdoff ∧
        ({ q with state := .sending } : TxEntry).state = .sending) ∧
      (let n := { detector with clock := 93060, relay := { detector.relay with seen := [seen18 1 .sent] } }
       n.relay.seen = [] ++ seen18 1 .sent :: [] ∧
         reached n.clock (later (seen18 1 .sent).firstHeard 92160) = true) := by decide

/-- For EchoClosesWatch, its late echoes: no retry in the queue, one WAITING and one SENDING; and the SEND_COMPLETE of the
retry whose echo was heard. -/
theorem witness_EchoClosesWatch_late :
    (let n := watching (queueing detector .waiting .wait) 2 .retryQueued
     n.relay.watch = [] ++ ⟨alarm40, 2, .retryQueued⟩ :: [] ∧
       n.tx.queue = [] ++ ⟨alarm40, true, .waiting, 1024, some 1⟩ :: [] ∧ alarm40.hdr.origin = n.cfg.address ∧
       n.link.efc ≤ 127 ∧ (∀ q ∈ detector.tx.queue, ¬(q.frame.hdr.origin = 40 ∧ q.frame.hdr.seq = 0x93))) ∧
      (let n := watching (queueing detector .sending .sending) 2 .echoed
       n.tx.engine = .sending ∧ n.tx.queue = [] ++ ⟨alarm40, true, .sending, 1024, some 1⟩ :: [] ∧
         alarm40.cls.relayable = true ∧ n.relay.watch = [] ++ ⟨alarm40, 2, .echoed⟩ :: [] ∧
         n.tx.radioFault = false) := by decide

/-- For LinkStateChangesActAtOnce: the miss that makes a node ISOLATED, with a relay in its queue; the bad length that
makes it STRAINED, and the one before; and the echo that makes it LINKED. -/
theorem witness_LinkStateChangesActAtOnce :
    (let n := { watching (withQueue detector [queued (relay40 18) false .holdoff]) 2 (.window 1024) with link := ⟨248, 0⟩ }
     n.active = true ∧ n.relay.watch = [] ++ ⟨alarm40, 2, .window 1024⟩ :: [] ∧ reached n.clock 1024 = true ∧
       alarm40.cls = .alarm ∧ 248 ≤ n.link.efc ∧ n.link.efc ≤ 255 ∧
       (∃ q ∈ n.tx.queue, q.own = false ∧ q.state = .holdoff ∧ q.frame.hdr.origin = 18 ∧ q.frame.hdr.seq = 9)) ∧
      (let n := { assembling detector with link := ⟨0, 127⟩ }
       n.rx.state = .assembling ∧ 12 < (13 : Byte).toNat ∧ n.active = true ∧ n.link.state = .linked ∧
         n.link.rfc = 127 ∧ ({ n.link with rfc := 126 } : Link).rfc < 127) ∧
      (let n := { watching (serving detector .seenCheck (alarm40.relayed 17)) 1 (.window 2000) with link := ⟨128, 0⟩ }
       n.rx.service = some ⟨0, .seenCheck⟩ ∧ (alarm40.relayed 17).hdr.origin = n.cfg.address ∧
         n.relay.watch = [] ++ ⟨alarm40, 1, .window 2000⟩ :: [] ∧ n.link.state ≠ .linked ∧
         ({ n.link with efc := if 256 ≤ n.link.efc then 200 else n.link.efc - 1 } : Link).state = .linked ∧
         n.tx.queue = [] ∧ n.active = true) := by decide

/-- For ArrivalsReevaluateTheConfirmation: a unit that waits at N under PARTNER, and one under BOTH; the EVIDENCE of a
partner at W; a BEACON that brings its sender into the own zone; a newcomer's EVIDENCE of the own zone, admitted to a
FREE entry; the ALARM of the own zone; and a unit before N. -/
theorem witness_ArrivalsReevaluateTheConfirmation :
    let f : Frame := ⟨⟨0x2C, 0, false, 17, 17, 7, 0, 1⟩, .evidence 64 .watch⟩
    let n := { assembling (confirming { image .detector with mode := .partner } 2 none) with
      peers := { PeerTable.empty with entries := some { peer 17 .fresh 0 true with zone := some 7 } :: List.replicate 15 none } }
    (n.alarm.state = .confirming ∧ n.rx.state = .assembling ∧ n.rx.assembly = some 70 ∧
      judgeFrame n.cfg.networkId f.wire = .good f ∧ f.hdr.sender = f.hdr.origin ∧ f.hdr.sender ≠ 0 ∧
      f.hdr.sender ≠ 255 ∧ f.hdr.sender ≠ n.cfg.address ∧
      n.peers.entries[0]? = some (some { peer 17 .fresh 0 true with zone := some 7 }) ∧
      n.cfg.watch ≤ (64 : Byte).toNat ∧ n.alarm.confirmCount = n.cfg.confirm ∧ n.cfg.mode = .partner ∧
      n.alarm.walkTest = none) ∧
      (let b : Frame := ⟨⟨0x2C, 0, false, 17, 17, 7, 0, 1⟩, .beacon 64 64 []⟩
       let e : Frame := ⟨⟨0x2C, 0, false, 19, 19, 7, 0, 1⟩, .evidence 64 .watch⟩
       let m := { n with peers := { PeerTable.empty with
         entries := some { peer 17 .fresh 0 true with zone := some 9 } :: List.replicate 15 none } }
       judgeFrame n.cfg.networkId b.wire = .good b ∧ judgeFrame n.cfg.networkId e.wire = .good e ∧
         b.hdr.zone = m.cfg.zone ∧ b.hdr.zone ≠ 0 ∧ b.cls = .beacon ∧ e.cls = .evidence ∧
         m.peers.entries[0]? = some (some { peer 17 .fresh 0 true with zone := some 9 }) ∧
         (∀ p ∈ m.peers.entries.filterMap id, p.address ≠ e.hdr.sender) ∧
         (after (.frameEnd b.wire) m).alarm.state = .alarm ∧ (after (.frameEnd e.wire) m).alarm.state = .alarm) ∧
      (let m := confirming { image .detector with mode := .both } 2 (some 9000)
       m.cfg.mode = .both ∧ m.evidence.hx < m.cfg.heatCorr ∧ m.alarm.walkTest.isSome = true ∧
         (confirming (image .detector) 1 none).alarm.confirmCount < m.cfg.confirm) ∧
      (let g : Frame := ⟨⟨0x2C, 4, false, 17, 18, 7, 0, 5⟩, .alarm .smoke 1 2 3⟩
       let m := serving n .useDelivery g
       m.rx.service = some ⟨0, .useDelivery⟩ ∧ m.rx.slots[0]? = some (some ⟨g, true, true, 1000, true⟩) ∧
         g.hdr.test = false ∧ g.hdr.origin ≠ m.cfg.address ∧ g.hdr.zone = m.cfg.zone ∧
         (∀ o ∈ m.alarm.origins, o.address ≠ g.hdr.origin) ∧ m.alarm.origins.length < 8) := by decide +kernel

/-- For ChecksListenAndHoldsEnd: a check NORMAL at a multiple of 256 and CRITICAL at one of 1024, also while SENDING; the
SEND_COMPLETE inside its listen; each hold at its very expiry; a RUN hold with and without another cause. -/
theorem witness_ChecksListenAndHoldsEnd :
    (detector.Patrolling ∧ detector.rx.state = .off ∧ detector.tx.engine ≠ .sending ∧
      detector.clock.toNat % 1024 = 0 ∧ (1280 : Stamp).toNat % 256 = 0) ∧
      (let n := { receiving (queueing detector .sending .sending) .off true with
         power := { detector.power with listen := some 1026 } }
       n.Patrolling ∧ n.tx.engine = .sending ∧ n.rx.state = .off ∧ (∃ e ∈ n.tx.queue, e.state = .sending) ∧
         n.power.listen.isSome = true ∧ n.rx.carrier = true) ∧
      (due detector.clock ({ detector.power with listen := some 1024 } : Power).listen = true ∧
        due detector.clock ({ detector.power with hunt := some 1024 } : Power).hunt = true ∧
        due detector.clock ({ detector.power with linger := some 1024 } : Power).linger = true ∧
        listeningNode.rx.state ≠ .off ∧ detector.tx.engine = .idle) ∧
      (let n := { node .detector .run with power := { (node .detector .run).power with runHold := some 1024 } }
       due n.clock n.power.runHold = true ∧ n.power.phase = .run ∧ n.onPanel = false ∧ n.alarmSideCause = false) ∧
      panelNode.onPanel = true :=
  ⟨⟨detector_patrols, by decide⟩, ⟨⟨rfl, rfl, rfl, rfl⟩, by decide⟩, by decide, by decide, by decide⟩

/-- For EventRecordSentLeavesTheQueue, the second clause: a NOTICE and a TEST ALARM at a queue of 31 and of 32 records, the
first of them being sent, with an own notice's record and with ALARM records only. -/
theorem witness_EventRecordSentLeavesTheQueue_full :
    let r := panelNode.alarmRecord false 18 9 .smoke 1 2 3
    let old : EventRecord := { r with kind := .ownNotice }
    let n := serving { panelNode with serial := { panelNode.serial with tx := .event, panel := List.replicate 32 r } }
      .useDelivery notice18
    (n.rx.service = some ⟨0, .useDelivery⟩ ∧ n.rx.slots[0]? = some (some ⟨notice18, true, true, 1000, true⟩) ∧
      n.onPanel = true ∧ n.serial.tx ≠ .idle ∧ notice18.body = .notice .tamper true none ∧
      32 ≤ n.serial.panel.length ∧ n.serial.panel = [r] ++ List.replicate 31 r ∧ r.kind = .alarm) ∧
      (({ alarm40.hdr with test := true, origin := 18 } : Header).test = true ∧
        ({ alarm40.hdr with test := true, origin := 18 } : Header).origin ≠ n.cfg.address) ∧
      (List.replicate 31 r).length < 32 ∧ (old.kind ≠ .alarm ∧ old.kind ≠ .testAlarm) := by decide

/-- For PeriodEndReportsLostPeersAndTheConflict: a period that ends at this very tick, with two two-way entries that fall,
the second of them unheard for longer; a full list of lost subjects; and a conflict that has been quiet twice, once,
and not at all. -/
theorem witness_PeriodEndReportsLostPeersAndTheConflict :
    let older : Peer := { peer 21 .stale 2 false with heardAt := 400 }
    let a := { PeerTable.empty with
      periodEnd := some 1024, conflictRaised := true, quietCount := 2
      entries := [some (peer 19 .stale 2 false), some (peer 20 .lost 3 false), some older] ++ List.replicate 13 none
      lostSubjects := (List.range 16).map (fun k => byte (k + 100)), lossOrder := [1] }
    let n := { detector with peers := a }
    (due n.clock n.peers.periodEnd = true ∧ n.active = true) ∧
      (a.entries[0]? = some (some (peer 19 .stale 2 false)) ∧ (peer 19 .stale 2 false).state ≠ .lost ∧
        (peer 19 .stale 2 false).heard = false ∧ 2 ≤ (peer 19 .stale 2 false).missed ∧
        (peer 19 .stale 2 false).twoWay = true) ∧
      (a.entries[2]? = some (some older) ∧ elapsed n.clock (peer 19 .stale 2 false).heardAt < elapsed n.clock older.heardAt) ∧
      (a.lostSubjects.Nodup ∧ 16 ≤ a.lostSubjects.length ∧ older.address ∉ a.lostSubjects) ∧
      (a.conflictRaised = true ∧ a.conflictHeard = false ∧ 2 ≤ a.quietCount) ∧
      ¬(2 ≤ ({ a with quietCount := 1 } : PeerTable).quietCount) ∧
      ({ a with conflictHeard := true } : PeerTable).conflictHeard = true := by decide

/-- For FramesWriteTheirSendersEntry: a frame of the own address, with the conflict not yet raised and raised; a known
node's BEACON that lists the node, its EVIDENCE and its relay of another's NOTICE; a lost subject; and a newcomer. -/
theorem witness_FramesWriteTheirSendersEntry :
    let twin := frameFrom 40 40 1 (.evidence 70 .watch)
    let beacon := frameFrom 17 17 1 (.beacon 0x50 12 [9, 40])
    let a := { PeerTable.empty with entries := peerCases, lostSubjects := [17] }
    let n := { assembling detector with peers := a }
    (n.rx.state = .assembling ∧ n.rx.assembly = some 70 ∧ n.active = true ∧ n.cfg.address = 40) ∧
      (judgeFrame n.cfg.networkId twin.wire = .good twin ∧ twin.hdr.sender = n.cfg.address ∧
        a.conflictRaised = false ∧ ({ a with conflictRaised := true } : PeerTable).conflictRaised = true) ∧
      (judgeFrame n.cfg.networkId beacon.wire = .good beacon ∧ beacon.hdr.sender = beacon.hdr.origin ∧
        beacon.body = .beacon 0x50 12 [9, 40] ∧ (40 : Byte) ∈ ([9, 40] : List Byte) ∧ beacon.hdr.sender ≠ 0 ∧
        beacon.hdr.sender ≠ 255 ∧ beacon.hdr.sender ≠ n.cfg.address ∧ beacon.hdr.sender ∈ a.lostSubjects) ∧
      (a.entries[0]? = some (some (peer 17 .fresh 0 true)) ∧ (peer 17 .fresh 0 true).address = beacon.hdr.sender) ∧
      (let ev := frameFrom 17 17 2 (.evidence 70 .watch)
       judgeFrame n.cfg.networkId ev.wire = .good ev ∧ ev.body = .evidence 70 .watch) ∧
      (let relayed := frameFrom 17 18 2 (.notice .tamper true none)
       judgeFrame n.cfg.networkId relayed.wire = .good relayed ∧ relayed.hdr.sender ≠ relayed.hdr.origin) ∧
      (let q := peer 60 .fresh 0 true
       ∀ e ∈ peerCases, ∀ p ∈ e, p.address ≠ q.address) := by decide +kernel

/-- A panel node that sends an answer, with no record in its queue. -/
def reporting (n : Node) : Node := { n with serial := { n.serial with tx := .answer } }

/-- For OwnReportsFormRecords: a delivered ALARM and a delivered RESET; a tamper change; the confirming limit; the N-th
sample at A under the mode NONE; a forced sample in walk test; and a frame of a lost subject. -/
theorem witness_OwnReportsFormRecords :
    let n := reporting panelNode
    (n.onPanel = true ∧ n.active = true ∧ n.serial.tx ≠ .idle ∧ n.serial.panel.length ≤ 24 ∧ n.tx.queue = []) ∧
      (let f := frameFrom 17 18 5 (.alarm .smoke 1 2 3)
       let g := frameFrom 17 18 5 (.control .reset 7)
       (serving n .useDelivery f).rx.service = some ⟨0, .useDelivery⟩ ∧
         (serving n .useDelivery f).rx.slots[0]? = some (some ⟨f, true, true, 1000, true⟩) ∧
         f.body = .alarm .smoke 1 2 3 ∧ f.hdr.test = false ∧ f.hdr.origin ≠ n.cfg.address ∧
         f.hdr.zone ≠ n.cfg.zone ∧ g.body = .control .reset 7 ∧ (7 : ZoneCode) = n.cfg.zone ∧
         ¬((8 : ZoneCode) = 0 ∨ (8 : ZoneCode) = n.cfg.zone)) ∧
      (let o := { n.out with tamperLine := true, tamperDebounce := some 1024 }
       due n.clock o.tamperDebounce = true ∧ o.offBase ≠ o.tamperLine ∧
         (NoticeItem.mk .tamper none ∈ n.alarm.notices ↔ o.tamperLine = false)) ∧
      (let a := { AlarmUnit.atReset with state := .confirming, limit := some 1024, notices := [⟨.preAlarm, none⟩] }
       due n.clock a.limit = true ∧ a.state = .confirming ∧ NoticeItem.mk .preAlarm none ∈ a.notices) ∧
      (let m := { n with
         evidence := (judging alarmRecord).evidence
         alarm := { AlarmUnit.atReset with state := .confirming, confirmCount := 1, wantFast := true } }
       m.evidence.inHand = some alarmRecord ∧ m.evidence.settling = 0 ∧ alarmRecord.opticalValid = true ∧
         m.alarm.walkTest = none ∧ m.cfg.confirm ≤ m.alarm.confirmCount + 1 ∧ m.cfg.mode = .none ∧
         m.cfg.alarm ≤ (after .evidencePublication m).evidence.lv) ∧
      (reached 3072 (later 1024 2048) = true ∧
        ({ AlarmUnit.atReset with walkTest := some 9000 } : AlarmUnit).walkTest.isSome = true) ∧
      (let f := frameFrom 17 17 1 (.beacon 0 12 [])
       let m := { assembling n with
         peers := { PeerTable.empty with lostSubjects := [17] }
         alarm := { AlarmUnit.atReset with notices := [⟨.peerLost, some 17⟩] } }
       m.rx.state = .assembling ∧ m.rx.assembly = some 70 ∧ judgeFrame m.cfg.networkId f.wire = .good f ∧
         f.hdr.sender ≠ 0 ∧ f.hdr.sender ≠ 255 ∧ f.hdr.sender ≠ m.cfg.address ∧ f.hdr.sender ∈ m.peers.lostSubjects ∧
         NoticeItem.mk .peerLost (some f.hdr.sender) ∈ m.alarm.notices ∧ m.alarm.state ≠ .confirming ∧
         m.link.rfc ≤ 127) := by decide +kernel

/-! ## Tests of the bits on the air and of the wake sources -/

/-- R95, R105 and Table 5-1: a relayed ALARM's 4 body bytes make 4440 bits after LONG, an EVIDENCE's 2 make 184 after
SHORT; the pattern begins with 1, and the sync pattern 0xD391 with 1101. -/
theorem test_bits_on_air :
    let long : OnAir := ⟨.long, syncPattern, alarm40.wire⟩
    let short : OnAir := ⟨.short, syncPattern, (frameFrom 17 17 1 (.evidence 70 .watch)).wire⟩
    long.bits.length = 4440 ∧ short.bits.length = 184 ∧ short.bits.take 4 = [true, false, true, false] ∧
      (short.bits.drop 80).take 4 = [true, true, false, true] := by decide +kernel

/-- R9: the divider is turned on at the end of the blue pulse of a battery cycle, and not at the infrared pulse's. -/
theorem test_divider :
    let at_ := fun (st : Stage) (x : Sensing) => { node .detector .run with sensing := { x with stage := st } }
    (after .emitterOff (at_ .blue { detector.sensing with blueEmitter := true })).sensing.divider = true ∧
      (after .emitterOff (at_ .infrared { detector.sensing with irEmitter := true })).sensing.divider = false := by
  decide

/-- R162, R169: an edge of the tamper line in DORMANT starts the stopped oscillator, which stops again when it runs and
nothing else claims it. -/
theorem test_tamper_edge_wakes :
    let n := after (.tamperLineChange true) (node .detector .dormant)
    n.power.oscillator = .starting ∧ (after .oscillatorStart n).power.oscillator = .stopped := by decide

end Sys2Proof.Tests
end

section
/-! The values that settling gives to the interval wanted, the unit's RUN cause, the power state and the red pattern,
whatever state it settles. -/

namespace Sys2Proof.Machine

/-! ## The parts of a settling that come before and after the power state -/

@[simp] theorem Node.settleInterval_power (n : Node) : n.settleInterval.power = n.power := by
  unfold Node.settleInterval; simp only []; split <;> rfl

@[simp] theorem Node.settleInterval_wantFast (n : Node) : n.settleInterval.alarm.wantFast = n.wantsFast := by
  unfold Node.settleInterval
  simp only []
  split
  · next h => exact (beq_iff_eq.mp h).symm
  · rfl

/-- The interval wanted is no part of the RUN cause. -/
@[simp] theorem Node.settleInterval_alarmSideCause (n : Node) :
    n.settleInterval.alarmSideCause = n.alarmSideCause := by
  have h := n.settleInterval_follows
  simp [Node.alarmSideCause, h.alarmState, h.alarmWalkTest]

@[simp] theorem Node.settleInterval_onPanel (n : Node) : n.settleInterval.onPanel = n.onPanel := by
  simp [Node.onPanel, n.settleInterval_follows.loader]

@[simp] theorem Node.settlePower_alarm (n : Node) : n.settlePower.alarm = n.alarm := by
  unfold Node.settlePower
  simp only []
  split
  · split <;> rfl
  · split <;> rfl
  · rfl

@[simp] theorem Node.switchRx_alarm (n : Node) : n.switchRx.alarm = n.alarm := by
  unfold Node.switchRx
  split
  · split <;> rfl
  · split <;> rfl

@[simp] theorem Node.switchRx_powerPhase (n : Node) : n.switchRx.power.phase = n.power.phase := by
  unfold Node.switchRx
  split
  · split <;> rfl
  · split <;> rfl

@[simp] theorem Node.switchRx_powerAlarmCause (n : Node) : n.switchRx.power.alarmCause = n.power.alarmCause := by
  unfold Node.switchRx
  split
  · split <;> rfl
  · split <;> rfl

@[simp] theorem Node.deferToCarrier_alarm (n : Node) : n.deferToCarrier.alarm = n.alarm := by
  unfold Node.deferToCarrier; split <;> rfl

@[simp] theorem Node.deferToCarrier_power (n : Node) : n.deferToCarrier.power = n.power := by
  unfold Node.deferToCarrier; split <;> rfl

@[simp] theorem Node.settleOutputs_alarm (n : Node) : n.settleOutputs.alarm = n.alarm := rfl
@[simp] theorem Node.settleOutputs_power (n : Node) : n.settleOutputs.power = n.power := rfl

@[simp] theorem Node.settleOutputs_redPattern (n : Node) : n.settleOutputs.out.red.pattern = n.redWanted := by
  show n.selectRed.pattern = n.redWanted
  unfold Node.selectRed
  simp only []
  split
  · next h => exact beq_iff_eq.mp h
  · rfl

@[simp] theorem Node.settleOscillator_alarm (n : Node) : n.settleOscillator.alarm = n.alarm := rfl
@[simp] theorem Node.settleOscillator_out (n : Node) : n.settleOscillator.out = n.out := rfl
@[simp] theorem Node.settleOscillator_powerPhase (n : Node) : n.settleOscillator.power.phase = n.power.phase := rfl
@[simp] theorem Node.settleOscillator_powerAlarmCause (n : Node) :
    n.settleOscillator.power.alarmCause = n.power.alarmCause := rfl

@[simp] theorem Node.settleSerial_alarm (n : Node) : n.settleSerial.alarm = n.alarm := by
  unfold Node.settleSerial; split <;> rfl

@[simp] theorem Node.settleSerial_power (n : Node) : n.settleSerial.power = n.power := by
  unfold Node.settleSerial; split <;> rfl

@[simp] theorem Node.settleSerial_out (n : Node) : n.settleSerial.out = n.out := by
  unfold Node.settleSerial; split <;> rfl

/-! ## The power state -/

/-- The unit's cause as it is told to the Power Controller (R89). -/
@[simp] theorem Node.settlePower_alarmCause (n : Node) : n.settlePower.power.alarmCause = n.alarmSideCause := by
  unfold Node.settlePower
  simp only []
  split
  · split <;> rfl
  · split <;> rfl
  · rfl

/-- In PATROL and RUN the causes decide between the two; START-UP and DORMANT stay (R165). -/
theorem Node.settlePower_phase (n : Node) :
    n.settlePower.power.phase =
      if n.active then
        if n.onPanel || n.alarmSideCause || n.power.runHold.isSome then .run else .patrol
      else n.power.phase := by
  have hcaused : Node.runCaused { n with power := { n.power with alarmCause := n.alarmSideCause } } =
      (n.onPanel || n.alarmSideCause || n.power.runHold.isSome) := rfl
  unfold Node.settlePower
  simp only [hcaused]
  cases hp : n.power.phase with
  | startUp => simp [Node.active, hp]
  | dormant => simp [Node.active, hp]
  | patrol =>
    have hact : n.active = true := by simp [Node.active, hp]
    simp only [hact, if_true]
    split
    · rfl
    · rfl
  | run =>
    have hact : n.active = true := by simp [Node.active, hp]
    simp only [hact, if_true]
    split
    · rfl
    · rfl

/-! ## The whole settling -/

/-- Settling leaves the interval wanted that R88 gives. -/
theorem Node.settle_wantFast (n : Node) : n.settle.alarm.wantFast = n.wantsFast := by
  simp [Node.settle]

/-- Settling leaves the RUN cause that R89 gives. -/
theorem Node.settle_alarmCause (n : Node) : n.settle.power.alarmCause = n.alarmSideCause := by
  simp [Node.settle]

/-- Settling leaves the power state that the RUN causes give (R165). -/
theorem Node.settle_phase (n : Node) :
    n.settle.power.phase =
      if n.active then
        if n.onPanel || n.alarmSideCause || n.power.runHold.isSome then .run else .patrol
      else n.power.phase := by
  have hact : n.settleInterval.active = n.active := by simp [Node.active]
  simp [Node.settle, Node.settlePower_phase, hact]

/-- Settling leaves the red indicator with the pattern of the alarm state (R90, R174). -/
theorem Node.settle_redPattern (n : Node) : n.settle.out.red.pattern = n.redWanted := by
  have h := n.settleInterval_follows
  simp [Node.settle, Node.redWanted, h.alarmState]

end Sys2Proof.Machine
end

section
/-! The unit's RUN cause (R89). Every command either ends in a settling, which sets the cause anew from the alarm side,
or leaves the alarm state, walk test, the cause and the power state as they were. -/

namespace Sys2Proof.Machine

/-- The RUN cause held by the Power Controller is the one the alarm side gives (R89). -/
def Node.CauseAgrees (n : Node) : Prop :=
  n.power.alarmCause = (n.alarm.state != .quiet || n.alarm.walkTest.isSome)

/-- `t` has what `n` has of the alarm side's RUN cause: the alarm state, walk test, the cause told and the power
state. -/
structure Node.SameRunSide (n t : Node) : Prop where
  state : t.alarm.state = n.alarm.state
  walkTest : t.alarm.walkTest = n.alarm.walkTest
  cause : t.power.alarmCause = n.power.alarmCause
  phase : t.power.phase = n.power.phase

/-- `t`, which a command leaves of `n`, is the outcome of a settling or keeps the RUN side. -/
inductive Node.SettlesOrKeeps (n : Node) : Node → Prop
  | settled (m : Node) : n.SettlesOrKeeps m.settle
  | same {t : Node} (h : n.SameRunSide t) : n.SettlesOrKeeps t

/-- The outcome of a command is a next state, with a node that is settled or keeps the RUN side. -/
def State.SettlesOrKeeps (s : State) (o : Host.Outcome State Fault Refusal) : Prop :=
  ∃ n, o = s.go n ∧ s.node.SettlesOrKeeps n

/-! ## What a settling gives -/

theorem Node.settle_causeAgrees (n : Node) : n.settle.CauseAgrees := by
  simp [Node.CauseAgrees, Node.settle_alarmCause, Node.alarmSideCause]

/-- A RUN hold that stands after a settling has kept or put the node out of PATROL (R165). -/
theorem Node.settle_phase_of_runHold (n : Node) (h : n.settle.power.runHold.isSome = true) :
    n.settle.power.phase ≠ .patrol := by
  rw [Node.settle_powerRunHold] at h
  rw [Node.settle_phase]
  by_cases hact : n.active = true
  · simp [hact, h]
  · rw [if_neg hact]
    intro hp
    exact hact (by simp [Node.active, hp])

/-! ## What keeps both claims -/

theorem Node.SettlesOrKeeps.causeAgrees {n t : Node} (h : n.SettlesOrKeeps t) (hn : n.CauseAgrees) : t.CauseAgrees := by
  cases h with
  | settled m => exact m.settle_causeAgrees
  | same h => unfold Node.CauseAgrees; rw [h.cause, h.state, h.walkTest]; exact hn

theorem Node.SettlesOrKeeps.phase_of_runHold {n t : Node} (h : n.SettlesOrKeeps t) (hn : n.power.phase = .run)
    (hh : t.power.runHold.isSome = true) : t.power.phase ≠ .patrol := by
  cases h with
  | settled m => exact m.settle_phase_of_runHold hh
  | same h => rw [h.phase, hn]; decide

/-! ## How commands end -/

/-- The event was not due: nothing changes. -/
theorem Node.SettlesOrKeeps.unchanged (n : Node) : n.SettlesOrKeeps n := .same ⟨rfl, rfl, rfl, rfl⟩

theorem Node.SettlesOrKeeps.settledWoken (n m : Node) : n.SettlesOrKeeps m.settleWoken := .settled m.wake

/-- A wake source's claim and the oscillator are no part of the RUN side. -/
theorem Node.SettlesOrKeeps.woken {n m : Node} (h : n.SameRunSide m) : n.SettlesOrKeeps m.woken := by
  rw [Node.woken_eq]
  exact .same ⟨h.state, h.walkTest, h.cause, h.phase⟩

/-- A command whose event is due or not. -/
theorem Node.SettlesOrKeeps.ite {n a b : Node} {c : Prop} [Decidable c] (ha : n.SettlesOrKeeps a)
    (hb : n.SettlesOrKeeps b) : n.SettlesOrKeeps (if c then a else b) := by
  split
  · exact ha
  · exact hb

/-! ## Commands with cases of their own -/

theorem Node.beat_settlesOrKeeps (n : Node) : n.SettlesOrKeeps n.beat := by
  unfold Node.beat Node.underflow
  exact .ite (.unchanged _) (.ite (.settledWoken _ _) (.same ⟨rfl, rfl, rfl, rfl⟩))

/-- The oscillator and the line transmitter are no part of the RUN side. -/
theorem execOscillatorStart_settlesOrKeeps (s : State) : s.SettlesOrKeeps (execOscillatorStart s) :=
  ⟨_, rfl, .ite (.same ⟨by simp, by simp, by simp, by simp⟩) (.unchanged _)⟩

theorem execIndicatorStep_settlesOrKeeps (led : Led) (s : State) : s.SettlesOrKeeps (execIndicatorStep led s) := by
  cases led with
  | red => exact ⟨_, rfl, .ite (.woken ⟨rfl, rfl, rfl, rfl⟩) (.unchanged _)⟩
  | amber => exact ⟨_, rfl, .ite (.woken ⟨rfl, rfl, rfl, rfl⟩) (.unchanged _)⟩

theorem Node.takeByte_settlesOrKeeps (n : Node) (b : Byte) : n.SettlesOrKeeps (n.takeByte b) := by
  unfold Node.takeByte
  split
  · exact .ite (.settledWoken _ _) (.woken ⟨rfl, rfl, rfl, rfl⟩)
  · exact .ite (.settled _) (.same ⟨rfl, rfl, rfl, rfl⟩)

/-! ## Every command, and every step -/

/-- Every command ends in a settling or leaves the RUN side as it was. -/
theorem exec_settlesOrKeeps (c : Instr) (s : State) : s.SettlesOrKeeps (exec c s) := by
  cases c with
  | powerOnReset => exact ⟨_, rfl, .settled _⟩
  | configAttempt read noise =>
    refine ⟨_, rfl, ?_⟩
    split
    · exact .unchanged _
    · exact .ite (.unchanged _) (.settled _)
  | configRetryGap =>
    refine ⟨_, rfl, ?_⟩
    split
    · exact .unchanged _
    · exact .ite (.woken ⟨rfl, rfl, rfl, rfl⟩) (.unchanged _)
  | prescalerUnderflow => exact ⟨_, rfl, .ite s.node.beat_settlesOrKeeps (.unchanged _)⟩
  | countStageUnderflow => exact ⟨_, rfl, .ite (.settledWoken _ _) (.unchanged _)⟩
  | stageStart => exact ⟨_, rfl, .ite (.same ⟨rfl, rfl, rfl, rfl⟩) (.unchanged _)⟩
  | oneShotFire => exact ⟨_, rfl, .same ⟨rfl, rfl, rfl, rfl⟩⟩
  | emitterOff => exact ⟨_, rfl, .same ⟨rfl, rfl, rfl, rfl⟩⟩
  | conversionDone input => exact ⟨_, rfl, .same ⟨rfl, rfl, rfl, rfl⟩⟩
  | recordFieldCopy => exact ⟨_, rfl, .settled _⟩
  | evidencePublication => exact ⟨_, rfl, .settled _⟩
  | confirmingLimit =>
    exact ⟨_, rfl, .ite (.ite (.settledWoken _ _) (.woken ⟨rfl, rfl, rfl, rfl⟩)) (.unchanged _)⟩
  | walkTestExpiry => exact ⟨_, rfl, .ite (.settledWoken _ _) (.unchanged _)⟩
  | testSoundSpanEnd => exact ⟨_, rfl, .ite (.settledWoken _ _) (.unchanged _)⟩
  | amberEventSpanEnd => exact ⟨_, rfl, .ite (.settledWoken _ _) (.unchanged _)⟩
  | supervisionPeriodEnd => exact ⟨_, rfl, .ite (.settledWoken _ _) (.unchanged _)⟩
  | halfPeriodMark =>
    refine ⟨_, rfl, ?_⟩
    split
    · exact .unchanged _
    · exact .ite (.ite (.same ⟨rfl, rfl, rfl, rfl⟩) (.same ⟨rfl, rfl, rfl, rfl⟩)) (.unchanged _)
  | beaconDue => exact ⟨_, rfl, .ite (.settledWoken _ _) (.ite (.settledWoken _ _) (.unchanged _))⟩
  | holdoffEnd => exact ⟨_, rfl, .ite (.settledWoken _ _) (.unchanged _)⟩
  | quietGap => exact ⟨_, rfl, .ite (.settled _) (.unchanged _)⟩
  | windowBoundary =>
    exact ⟨_, rfl, .ite (.ite (.settled _) (.same ⟨rfl, rfl, rfl, rfl⟩)) (.unchanged _)⟩
  | backoffEnd => exact ⟨_, rfl, .ite (.settledWoken _ _) (.unchanged _)⟩
  | windowWon =>
    refine ⟨_, rfl, ?_⟩
    split
    · exact .ite (.settled _) (.settled _)
    · exact .unchanged _
  | sendComplete => exact ⟨_, rfl, .ite (.settled _) (.unchanged _)⟩
  | carrierOnset us =>
    exact ⟨_, rfl, .ite (.unchanged _) (.ite (.same ⟨rfl, rfl, rfl, rfl⟩) (.settled _))⟩
  | carrierEnd us => exact ⟨_, rfl, .ite (.ite (.same ⟨rfl, rfl, rfl, rfl⟩) (.settled _)) (.unchanged _)⟩
  | syncFound level => exact ⟨_, rfl, .ite (.settled _) (.unchanged _)⟩
  | badLength len => exact ⟨_, rfl, .ite (.settled _) (.unchanged _)⟩
  | frameEnd bytes =>
    refine ⟨_, rfl, ?_⟩
    split
    · exact .settled _
    · exact .unchanged _
  | seenListCheck =>
    refine ⟨_, rfl, ?_⟩
    split
    · exact .unchanged _
    · exact .settled _
  | relayOffer =>
    refine ⟨_, rfl, ?_⟩
    split
    · exact .unchanged _
    · exact .settled _
  | useDelivery =>
    refine ⟨_, rfl, ?_⟩
    split
    · exact .unchanged _
    · exact .settled _
  | seenEntryExpiry => exact ⟨_, rfl, .same ⟨rfl, rfl, rfl, rfl⟩⟩
  | echoWindowExpiry =>
    refine ⟨_, rfl, ?_⟩
    split
    · exact .unchanged _
    · exact .settledWoken _ _
  | resendTime =>
    refine ⟨_, rfl, ?_⟩
    split
    · exact .unchanged _
    · exact .settledWoken _ _
  | channelCheck => exact ⟨_, rfl, .ite (.settledWoken _ _) (.unchanged _)⟩
  | listenEnd => exact ⟨_, rfl, .ite (.settled _) (.unchanged _)⟩
  | huntExpiry => exact ⟨_, rfl, .ite (.settledWoken _ _) (.unchanged _)⟩
  | lingerExpiry => exact ⟨_, rfl, .ite (.settledWoken _ _) (.unchanged _)⟩
  | runHoldExpiry => exact ⟨_, rfl, .ite (.settledWoken _ _) (.unchanged _)⟩
  | oscillatorStart => exact execOscillatorStart_settlesOrKeeps s
  | tamperLineChange offBase => exact ⟨_, rfl, .ite (.unchanged _) (.woken ⟨rfl, rfl, rfl, rfl⟩)⟩
  | tamperDebounceEnd => exact ⟨_, rfl, .ite (.settledWoken _ _) (.unchanged _)⟩
  | testInputChange pressed => exact ⟨_, rfl, .ite (.unchanged _) (.woken ⟨rfl, rfl, rfl, rfl⟩)⟩
  | testDebounceEnd => exact ⟨_, rfl, .ite (.woken ⟨rfl, rfl, rfl, rfl⟩) (.unchanged _)⟩
  | testHold2s => exact ⟨_, rfl, .ite (.settledWoken _ _) (.unchanged _)⟩
  | testHold5s =>
    exact ⟨_, rfl, .ite (.ite (.settledWoken _ _) (.woken ⟨rfl, rfl, rfl, rfl⟩)) (.unchanged _)⟩
  | sounderStep =>
    refine ⟨_, rfl, ?_⟩
    split
    · exact .unchanged _
    · exact .ite (.settledWoken _ _) (.unchanged _)
  | indicatorStep led => exact execIndicatorStep_settlesOrKeeps led s
  | overlayEnd =>
    refine ⟨_, rfl, ?_⟩
    split
    · exact .unchanged _
    · exact .ite (.woken ⟨rfl, rfl, rfl, rfl⟩) (.unchanged _)
  | status => exact ⟨_, rfl, .settled _⟩
  | peers => exact ⟨_, rfl, .settled _⟩
  | park => exact ⟨_, rfl, .settled _⟩
  | restart => exact ⟨_, rfl, .settled _⟩
  | wake => exact ⟨_, rfl, .settled _⟩
  | silence zone => exact ⟨_, rfl, .settled _⟩
  | reset zone => exact ⟨_, rfl, .settled _⟩
  | testOn zone => exact ⟨_, rfl, .settled _⟩
  | testOff zone => exact ⟨_, rfl, .settled _⟩
  | serialRecordTimeout =>
    refine ⟨_, rfl, ?_⟩
    split
    · exact .unchanged _
    · exact .ite (.settledWoken _ _) (.unchanged _)
  | answerSent =>
    refine ⟨_, rfl, ?_⟩
    split
    · exact .settled _
    · exact .unchanged _
  | eventRecordSent => exact ⟨_, rfl, .ite (.settled _) (.unchanged _)⟩
  | synthesiserLock locked => exact ⟨_, rfl, .ite (.unchanged _) (.same ⟨rfl, rfl, rfl, rfl⟩)⟩
  | serialByte b => exact ⟨_, rfl, s.node.takeByte_settlesOrKeeps b⟩
  | rejectedSerialRecord type payload sum => exact ⟨_, rfl, .settled _⟩
  | selfCheckChirpEnd => exact ⟨_, rfl, .ite (.settled _) (.unchanged _)⟩

/-- Time changes neither the alarm side nor the power state. -/
theorem State.idle_settlesOrKeeps (s : State) : s.node.SettlesOrKeeps s.idle.node := by
  unfold State.idle
  split
  · exact .same ⟨rfl, rfl, rfl, rfl⟩
  · exact .unchanged _

/-- What every step leaves: the outcome of a settling, or the RUN side as it was. -/
theorem step_settlesOrKeeps {s t : State} (h : step s = .next t) : s.node.SettlesOrKeeps t.node := by
  unfold step at h
  split at h
  · next c rest _ =>
    obtain ⟨n, hn, hl⟩ := exec_settlesOrKeeps c { s with pending := rest }
    rw [hn, State.go_next] at h
    obtain rfl := Host.Outcome.next.inj h
    exact hl
  · obtain rfl := Host.Outcome.next.inj h
    exact s.idle_settlesOrKeeps

end Sys2Proof.Machine

open Sys2Proof.Machine in
/-- Settles O20: each step ends in a settling, which gives the cause and the power state from any state, or leaves the
RUN side as it was. -/
theorem runCauseFollowsAlarmSide : Obligations.RunCauseFollowsAlarmSide := by
  unfold Obligations.RunCauseFollowsAlarmSide
  intro s t hagrees hstep
  have hl := step_settlesOrKeeps hstep
  exact ⟨hl.causeAgrees hagrees, hl.phase_of_runHold⟩
end

section
/-! How much of the transmit queue the reports between blocks take: while there is room, each report, with all that
follows from it, takes at most one place (R84, R85, R107, R110). -/

namespace Sys2Proof.Machine

/-- A relayable frame offered while there is room is taken, or refused as a duplicate with the queue no longer; nothing
is evicted. -/
theorem Transmitter.offer_relayable_room (t : Transmitter) (now : Stamp) (f : Frame) (own : Bool) (earliest : Stamp)
    (attempt : Option Nat) (hf : f.cls.relayable = true) (hl : t.queue.length < 8) :
    ∃ u : Transmitter,
      (t.offer now f own earliest attempt = (u, .accepted, none) ∧ u.queue.length = t.queue.length + 1) ∨
        (t.offer now f own earliest attempt = (u, .duplicate, none) ∧ u.queue = t.queue) := by
  unfold Transmitter.offer
  rw [if_pos hf]
  cases hi : t.identify f own with
  | none => exact ⟨_, .inr ⟨rfl, rfl⟩⟩
  | some v =>
    have hv := Transmitter.identify_length t v f own hi
    exact ⟨_, .inl ⟨Transmitter.seat_room v now f own earliest attempt (by omega), by
      rw [Transmitter.accept_length, hv]⟩⟩

theorem Transmitter.accept_queue_oneHop (t : Transmitter) (now : Stamp) (f : Frame) (own : Bool) (earliest : Stamp)
    (attempt : Option Nat) (hf : f.cls.relayable = false) :
    (t.accept now f own earliest attempt).queue =
      t.queue ++ [newEntry now (f.withSeq t.oneHopValue) own earliest attempt] := by
  simp [Transmitter.accept_queue, hf]

/-- A one-hop frame offered while there is room becomes the newest entry, in place of a waiting one of its class if
there is one; nothing is evicted. -/
theorem Transmitter.offer_oneHop_room (t : Transmitter) (now : Stamp) (f : Frame) (own : Bool) (earliest : Stamp)
    (attempt : Option Nat) (hf : f.cls.relayable = false) (hl : t.queue.length < 8) :
    ∃ (u : Transmitter) (answer : OfferAnswer) (before : List TxEntry) (v : Byte),
      t.offer now f own earliest attempt = (u, answer, none) ∧ before.length ≤ t.queue.length ∧
        u.queue = before ++ [newEntry now (f.withSeq v) own earliest attempt] := by
  unfold Transmitter.offer
  rw [if_neg (by simp [hf])]
  split
  · exact ⟨_, _, _, _, rfl, removeAt_length_le .., Transmitter.accept_queue_oneHop (hf := hf) ..⟩
  · exact ⟨_, _, _, _, t.seat_room now f own earliest attempt hl, Nat.le_refl _,
      Transmitter.accept_queue_oneHop (hf := hf) ..⟩

/-! ## One task -/

@[simp] theorem Node.record_tx (n : Node) (r : EventRecord) : (n.record r).tx = n.tx := by
  unfold Node.record; split <;> rfl

@[simp] theorem Node.dropNotice_tx (n : Node) (k : NoticeKind) (s : Option Byte) : (n.dropNotice k s).tx = n.tx := by
  unfold Node.dropNotice
  split
  · simp
  · rfl

/-- What a task leaves of the queue and of work to be done, against `n`: at most one further task, and no more than one
place of the queue between that task and the work done. -/
structure Node.TakesOnePlace (n : Node) (r : Node × List Task) : Prop where
  further : r.2.length ≤ 1
  places : r.1.tx.queue.length + r.2.length ≤ n.tx.queue.length + 1

theorem Node.TakesOnePlace.of_tx_eq {n m : Node} {r : Node × List Task} (h : m.TakesOnePlace r) (hq : m.tx = n.tx) :
    n.TakesOnePlace r := ⟨h.further, hq ▸ h.places⟩

theorem Node.TakesOnePlace.nothing (n : Node) : n.TakesOnePlace (n, []) := ⟨by simp, by simp⟩

theorem Node.noticeTasks_takesOnePlace (n : Node) (k : NoticeKind) (b : Bool) (s : Option Byte) :
    n.TakesOnePlace (n.noticeTasks k b s) := by
  unfold Node.noticeTasks
  split
  · exact ⟨by simp, by simp⟩
  · exact ⟨by simp, by simp⟩

theorem Node.raise_takesOnePlace (n : Node) (k : NoticeKind) (s : Option Byte) : n.TakesOnePlace (n.raise k s) := by
  unfold Node.raise
  split
  · exact .nothing n
  · exact (Node.noticeTasks_takesOnePlace ..).of_tx_eq (by simp)

theorem Node.clear_takesOnePlace (n : Node) (k : NoticeKind) (s : Option Byte) : n.TakesOnePlace (n.clear k s) := by
  unfold Node.clear
  split
  · exact .nothing n
  · exact (Node.noticeTasks_takesOnePlace ..).of_tx_eq (by simp)

theorem Node.event_takesOnePlace (n : Node) (k : NoticeKind) (s : Option Byte) : n.TakesOnePlace (n.event k s) := by
  unfold Node.event
  split
  · exact .nothing n
  · exact (Node.noticeTasks_takesOnePlace ..).of_tx_eq (by simp)

/-- With nothing evicted, an offer leaves at most the miss of a refused own frame (R108). -/
theorem Node.afterOffer_none (n : Node) (f : Frame) (own : Bool) (a : OfferAnswer) :
    n.afterOffer f own a none =
      (n, if own && f.cls.relayable && (a == .dropped || a == .duplicate) then [.echo false] else []) := rfl

/-- An own frame offered while there is room: a place taken, or a miss. -/
theorem Node.offer_takesOnePlace (n : Node) (f : Frame) (earliest : Stamp) (attempt : Option Nat)
    (hl : n.tx.queue.length < 8) :
    n.TakesOnePlace ((n.offer f true earliest attempt).1, (n.offer f true earliest attempt).2.2) := by
  unfold Node.offer
  split
  · exact .nothing n
  · cases hf : f.cls.relayable with
    | true =>
      obtain ⟨u, ⟨hu, hq⟩ | ⟨hu, hq⟩⟩ :=
        Transmitter.offer_relayable_room n.tx n.clock f true earliest attempt hf hl
      · constructor <;> simp [hu, Node.afterOffer_none, hq]
      · constructor <;> simp [hu, Node.afterOffer_none, hq, hf]
    | false =>
      obtain ⟨u, a, before, v, hu, hb, hq⟩ :=
        Transmitter.offer_oneHop_room n.tx n.clock f true earliest attempt hf hl
      constructor <;> simp [hu, Node.afterOffer_none, hq, hf, hb]

/-- The relays withdrawn on entry to ISOLATED only make room (R157). -/
theorem Node.isolate_queue_length (n : Node) : n.isolate.tx.queue.length ≤ n.tx.queue.length :=
  List.length_filter_le ..

theorem Node.setLink_takesOnePlace (n : Node) (l : Link) : n.TakesOnePlace (n.setLink l) := by
  have hfurther : (n.setLink l).2.length ≤ 1 := by
    unfold Node.setLink
    simp only []
    split
    · simp
    · split <;> simp
  have hqueue : (n.setLink l).1.tx.queue.length ≤ n.tx.queue.length := by
    unfold Node.setLink
    simp only []
    split
    · exact Node.isolate_queue_length _
    · exact Nat.le_refl _
  exact ⟨hfurther, by omega⟩

theorem noPathTasks_length (f : Frame) : (noPathTasks f).length ≤ 1 := by
  unfold noPathTasks; split <;> simp

theorem Node.ownEvicted_takesOnePlace (n : Node) (seq : Byte) : n.TakesOnePlace (n.ownEvicted seq) := by
  unfold Node.ownEvicted
  split
  · exact .nothing n
  · next e _ =>
    have h := noPathTasks_length e.frame
    simp only []
    split
    · exact ⟨h, by simp only []; omega⟩
    · exact ⟨by simp, by simp⟩
    · exact .nothing n

/-- Each task, while there is room. -/
theorem Task.run_takesOnePlace (n : Node) (t : Task) (hl : n.tx.queue.length < 8) : n.TakesOnePlace (t.run n) := by
  cases t with
  | raise k s => exact n.raise_takesOnePlace k s
  | clear k s => exact n.clear_takesOnePlace k s
  | event k s => exact n.event_takesOnePlace k s
  | offer f a => exact n.offer_takesOnePlace f n.clock a hl
  | echo b => exact n.setLink_takesOnePlace _
  | frame b => exact n.setLink_takesOnePlace _
  | ownEvicted q => exact n.ownEvicted_takesOnePlace q

/-! ## All that follows from it -/

/-- A task with all that follows from it takes at most one place. -/
theorem deliver_queue_length (d : Nat) : ∀ (t : Task) (n : Node), n.tx.queue.length < 8 →
    (deliver d t n).tx.queue.length ≤ n.tx.queue.length + 1 := by
  induction d with
  | zero => exact fun _ _ _ => Nat.le_succ _
  | succ d ih =>
    intro t n hl
    obtain ⟨hfurther, hplaces⟩ := Task.run_takesOnePlace n t hl
    unfold deliver
    simp only []
    match hr : (t.run n).2 with
    | [] => simp only [hr, List.length_nil] at hplaces; simpa using hplaces
    | [u] =>
      simp only [hr, List.length_singleton] at hplaces
      have := ih u (t.run n).1 (by omega)
      simp only [List.foldl_cons, List.foldl_nil]
      omega
    | _ :: _ :: _ => simp [hr] at hfurther

/-- Tasks delivered take at most one place each. -/
theorem Node.deliver_queue_length (ts : List Task) : ∀ n : Node, n.tx.queue.length + ts.length ≤ 8 →
    (n.deliver ts).tx.queue.length ≤ n.tx.queue.length + ts.length := by
  induction ts with
  | nil => exact fun _ _ => Nat.le_refl _
  | cons t ts ih =>
    intro n hl
    simp only [List.length_cons] at hl ⊢
    have hone := Machine.deliver_queue_length 12 t n (by omega)
    have hrest := ih (Machine.deliver 12 t n) (by omega)
    exact Nat.le_trans hrest (by omega)

/-- An own one-hop frame offered while there is room changes the transmitter only, and is its newest entry. -/
theorem Node.deliver_oneHop (n : Node) (f : Frame) (hact : n.active = true) (hf : f.cls.relayable = false)
    (hl : n.tx.queue.length < 8) :
    ∃ (u : Transmitter) (before : List TxEntry) (v : Byte),
      n.deliver [.offer f none] = { n with tx := u } ∧ before.length ≤ n.tx.queue.length ∧
        u.queue = before ++ [newEntry n.clock (f.withSeq v) true n.clock none] := by
  obtain ⟨u, a, before, v, hu, hb, hq⟩ := Transmitter.offer_oneHop_room n.tx n.clock f true n.clock none hf hl
  refine ⟨u, before, v, ?_, hb, hq⟩
  have hrun : Task.run n (.offer f none) = ({ n with tx := u }, []) := by
    simp [Task.run, Node.offer, hact, hu, Node.afterOffer_none, hf]
  simp [Node.deliver, Machine.deliver, hrun]

end Sys2Proof.Machine
end

section
/-! The judgement of a sample by a QUIET unit (R66). -/

namespace Sys2Proof.Machine

/-! ## The parts of a publication -/

@[simp] theorem Node.takeRecord_alarm (n : Node) : n.takeRecord.alarm = n.alarm := by
  unfold Node.takeRecord; split <;> rfl
@[simp] theorem Node.takeRecord_tx (n : Node) : n.takeRecord.tx = n.tx := by
  unfold Node.takeRecord; split <;> rfl
@[simp] theorem Node.takeRecord_power (n : Node) : n.takeRecord.power = n.power := by
  unfold Node.takeRecord; split <;> rfl
@[simp] theorem Node.takeRecord_evidenceLv (n : Node) : n.takeRecord.evidence.lv = n.evidence.lv := by
  unfold Node.takeRecord; split <;> rfl

/-- The node once a record's evidence is published and its notice requests are made, before the unit judges it
(R23). -/
def Node.published (n : Node) (r : SampleRecord) : Node :=
  Node.deliver
    { n with evidence := { evidenceAfter n.cfg (n.alarm.state == .quiet) n.evidence r with inHand := none } }
    (evidenceTasks n.evidence (evidenceAfter n.cfg (n.alarm.state == .quiet) n.evidence r))

/-- A publication: the notice requests, the judgement, then the next record (R23, R65). -/
theorem Node.publish_eq (n : Node) (r : SampleRecord) (h : n.evidence.inHand = some r) :
    n.publish = ((n.published r).takeResult (evidenceResult n.evidence
      (evidenceAfter n.cfg (n.alarm.state == .quiet) n.evidence r) r)).takeRecord := by
  unfold Node.publish
  rw [h]
  rfl

/-- With no notice due, publishing changes the evidence only. -/
theorem Node.published_of_no_tasks (n : Node) (r : SampleRecord)
    (h : evidenceTasks n.evidence (evidenceAfter n.cfg (n.alarm.state == .quiet) n.evidence r) = []) :
    n.published r =
      { n with evidence := { evidenceAfter n.cfg (n.alarm.state == .quiet) n.evidence r with inHand := none } } := by
  unfold Node.published
  rw [h]
  rfl

theorem flagTask_length (k : NoticeKind) (changed raised : Bool) : (flagTask k changed raised).length ≤ 1 := by
  unfold flagTask; split <;> simp

/-- A record raises or clears at most the three sensor notices (R29, R39, R40). -/
theorem evidenceTasks_length (before after : Evidence) : (evidenceTasks before after).length ≤ 3 := by
  unfold evidenceTasks
  simp only [List.length_append]
  have hdirty := flagTask_length .chamberDirty (before.dirtyRaised != after.dirtyRaised) after.dirtyRaised
  have hoptical :=
    flagTask_length .opticalSaturated (before.opticalRaised != after.opticalRaised) after.opticalRaised
  have hheat := flagTask_length .heatSensor (before.heatRaised != after.heatRaised) after.heatRaised
  omega

/-- A judged result on a QUIET unit: WATCH and an EVIDENCE frame at W or above, else nothing (R66, R74). -/
theorem Node.takeResult_quiet (n : Node) (r : EvidenceResult) (hq : n.alarm.state = .quiet)
    (hs : r.settling = false) (hv : r.valid = true) :
    n.takeResult r =
      if n.cfg.watch ≤ r.lv then Node.sendEvidence { n with alarm := n.alarm.toWatch } else n := by
  by_cases hw : n.cfg.watch ≤ r.lv
  · simp [Node.takeResult, Node.judge, hq, hs, hv, hw]
  · simp [Node.takeResult, Node.judge, hq, hs, hv, hw]

/-! ## A sample of a QUIET unit -/

/-- The record in hand is valid and past settling, and the unit is QUIET: its sample is judged by R66. -/
structure Node.QuietSample (n : Node) (r : SampleRecord) : Prop where
  inHand : n.evidence.inHand = some r
  settled : n.evidence.settling = 0
  quiet : n.alarm.state = .quiet
  valid : r.opticalValid = true ∨ r.heatValid = true

/-- The record's Lv (R37). -/
def Node.lvOf (n : Node) (r : SampleRecord) : Nat := (evidenceAfter n.cfg true n.evidence r).lv

/-- The published node in WATCH, before its EVIDENCE frame is offered (R66). -/
def Node.alerted (n : Node) (r : SampleRecord) : Node :=
  { n.published r with alarm := (n.published r).alarm.toWatch }

/-- The publication on a QUIET unit (R66, R74). -/
theorem Node.QuietSample.publish_eq {n : Node} {r : SampleRecord} (h : n.QuietSample r) :
    n.publish =
      (if n.cfg.watch ≤ n.lvOf r then (n.alerted r).sendEvidence else n.published r).takeRecord := by
  have hcfg : (n.published r).cfg = n.cfg := by simp [Node.published, Node.cfg]
  have hlv : (evidenceResult n.evidence (evidenceAfter n.cfg (n.alarm.state == .quiet) n.evidence r) r).lv =
      n.lvOf r := by rw [h.quiet]; rfl
  rw [n.publish_eq r h.inHand, Node.takeResult_quiet, hcfg, hlv]
  · rfl
  · simp [Node.published, h.quiet]
  · simp [evidenceResult, h.settled]
  · simpa [evidenceResult] using h.valid

theorem Node.QuietSample.published_lv {n : Node} {r : SampleRecord} (h : n.QuietSample r) :
    (n.published r).evidence.lv = n.lvOf r := by
  simp [Node.published, Node.lvOf, h.quiet]

theorem Node.QuietSample.publish_lv {n : Node} {r : SampleRecord} (h : n.QuietSample r) :
    n.publish.evidence.lv = n.lvOf r := by
  rw [h.publish_eq]
  split
  · simpa [Node.sendEvidence, Node.alerted] using h.published_lv
  · simpa using h.published_lv

theorem Node.QuietSample.publish_power {n : Node} {r : SampleRecord} (h : n.QuietSample r) :
    n.publish.power = n.power := by
  rw [h.publish_eq]
  split
  · simp [Node.sendEvidence, Node.alerted, Node.published]
  · simp [Node.published]

/-- At W or above the unit is in WATCH with the full hysteresis count (R66). -/
theorem Node.QuietSample.publish_watch {n : Node} {r : SampleRecord} (h : n.QuietSample r)
    (hw : n.cfg.watch ≤ n.lvOf r) : n.publish.alarm.state = .watch ∧ n.publish.alarm.hysteresis = 4 := by
  rw [h.publish_eq, if_pos hw]
  simp [Node.sendEvidence, Node.alerted]

/-- Below W it stays in QUIET. -/
theorem Node.QuietSample.publish_quiet {n : Node} {r : SampleRecord} (h : n.QuietSample r)
    (hw : n.lvOf r < n.cfg.watch) : n.publish.alarm.state = .quiet := by
  rw [h.publish_eq, if_neg (by omega)]
  simp [Node.published, h.quiet]

/-- The record's notices leave room for the EVIDENCE frame in a queue of at most 4. -/
theorem Node.published_queue_length (n : Node) (r : SampleRecord) (hl : n.tx.queue.length ≤ 4) :
    (n.published r).tx.queue.length < 8 := by
  have htasks := evidenceTasks_length n.evidence (evidenceAfter n.cfg (n.alarm.state == .quiet) n.evidence r)
  exact Nat.lt_of_le_of_lt
    (Node.deliver_queue_length _ _ (by simp only []; omega)) (by simp only []; omega)

/-- In WATCH the newest entry is the EVIDENCE frame of the sample, and what else the publication did to the notices
and the queue is the record's own notices (R74). -/
theorem Node.QuietSample.publish_sends {n : Node} {r : SampleRecord} (h : n.QuietSample r)
    (hw : n.cfg.watch ≤ n.lvOf r) (hact : n.active = true) (hl : n.tx.queue.length ≤ 4) :
    ∃ before e, n.publish.tx.queue = before ++ [e] ∧ before.length ≤ (n.published r).tx.queue.length ∧
      e.own = true ∧ e.frame.body = .evidence (byte (n.lvOf r)) .watch ∧
      n.publish.alarm.notices = (n.published r).alarm.notices := by
  have hwact : (n.alerted r).active = true := by simpa [Node.alerted, Node.active, Node.published] using hact
  obtain ⟨u, before, v, hu, hb, hq⟩ :=
    (n.alerted r).deliver_oneHop
      ((n.alerted r).oneHopFrame (.evidence (byte (n.alerted r).evidence.lv) (n.alerted r).alarm.state)) hwact rfl
      (n.published_queue_length r hl)
  have hpub : n.publish = Node.takeRecord { n.alerted r with tx := u } := by
    rw [h.publish_eq, if_pos hw]
    exact congrArg Node.takeRecord hu
  rw [hpub]
  refine ⟨before, _, by rw [Node.takeRecord_tx]; exact hq, hb, rfl, ?_, by simp [Node.alerted]⟩
  simp [newEntry, Frame.withSeq, Node.oneHopFrame, Node.alerted, h.published_lv]

end Sys2Proof.Machine

open Sys2Proof.Machine in
/-- Settles O16: the publication on a QUIET unit, and what its settling gives. -/
theorem quietNodeEntersWatch : Obligations.QuietNodeEntersWatch := by
  unfold Obligations.QuietNodeEntersWatch
  intro s r hhand hsettled hquiet hact hvalid noNotice
  have h : s.node.QuietSample r := ⟨hhand, hsettled, hquiet, hvalid⟩
  have hunchanged : noNotice → (s.node.published r).tx = s.node.tx ∧ (s.node.published r).alarm = s.node.alarm := by
    intro hno
    rw [s.node.published_of_no_tasks r (by rw [hquiet]; exact hno)]
    exact ⟨rfl, rfl⟩
  refine ⟨{ s with node := s.node.publish.settle }, rfl, rfl, ?_⟩
  simp only [Node.settle_evidence, h.publish_lv, Node.settle_alarmState, Node.settle_alarmHysteresis,
    Node.settle_txQueue, Node.settle_alarmNotices]
  refine ⟨fun hw => ?_, fun hw => ?_⟩
  · obtain ⟨hstate, hhyst⟩ := h.publish_watch hw
    have hcause : s.node.publish.alarmSideCause = true := by simp [Node.alarmSideCause, hstate]
    have hphase : s.node.publish.settle.power.phase = .run := by
      have hact' : s.node.publish.active = true := by simpa [Node.active, h.publish_power] using hact
      simp [Node.settle_phase, hact', hcause]
    refine ⟨hstate, hhyst, ?_, ?_, hphase, ?_, fun hl => ?_, fun hno hl => ?_, fun hno hempty => ?_⟩
    · simp [Node.settle_wantFast, Node.wantsFast, hstate]
    · rw [Node.settle_alarmCause, hcause]
    · simp [Node.settle_redPattern, Node.redWanted, hstate]
    · obtain ⟨before, e, hq, -, hown, hbody, -⟩ := h.publish_sends hw hact hl
      exact ⟨before, e, hq, hown, hbody⟩
    · obtain ⟨-, -, -, -, -, -, hnotices⟩ := h.publish_sends hw hact hl
      rw [hnotices, (hunchanged hno).2]
    · obtain ⟨before, e, hq, hb, -, hbody, -⟩ := h.publish_sends hw hact (by simp [hempty])
      rw [(hunchanged hno).1, hempty] at hb
      have hnil : before = [] := List.eq_nil_of_length_eq_zero (Nat.le_zero.mp hb)
      simp [hq, hnil, hbody]
  · refine ⟨h.publish_quiet hw, fun hno => ?_⟩
    obtain ⟨htx, halarm⟩ := hunchanged hno
    rw [h.publish_eq, if_neg (by omega), Node.takeRecord_tx, Node.takeRecord_alarm, htx, halarm]
    exact ⟨rfl, rfl⟩
end

section
/-! The list operations at an index found: where it splits the list. -/

namespace Sys2Proof.Machine

variable {α : Type}

/-- An index of a list splits it. -/
theorem getElem?_split (xs : List α) (i : Nat) (x : α) (h : xs[i]? = some x) :
    ∃ a b, xs = a ++ x :: b ∧ i = a.length := by
  obtain ⟨hi, rfl⟩ := List.getElem?_eq_some_iff.mp h
  exact ⟨xs.take i, xs.drop (i + 1), by simp, by simp; omega⟩

theorem lastIndexFrom_eq_none (p : α → Bool) (xs : List α) (i : Nat) :
    lastIndexFrom p i xs = none ↔ ∀ y ∈ xs, p y = false := by
  induction xs generalizing i with
  | nil => simp [lastIndexFrom]
  | cons z xs ih =>
    have hrest := ih (i + 1)
    rw [List.forall_mem_cons, ← hrest]
    simp only [lastIndexFrom]
    cases lastIndexFrom p (i + 1) xs with
    | some j => simp
    | none => cases p z <;> simp

theorem lastIndexFrom_spec (p : α → Bool) (xs : List α) (i j : Nat) (h : lastIndexFrom p i xs = some j) :
    ∃ a x b, xs = a ++ x :: b ∧ j = i + a.length ∧ p x = true ∧ ∀ y ∈ b, p y = false := by
  induction xs generalizing i with
  | nil => cases h
  | cons z xs ih =>
    simp only [lastIndexFrom] at h
    split at h
    · next k hk =>
      cases h
      obtain ⟨a, x, b, rfl, rfl, hx, hb⟩ := ih (i + 1) hk
      exact ⟨z :: a, x, b, rfl, by simp only [List.length_cons]; omega, hx, hb⟩
    · next hk =>
      split at h
      · next hz => cases h; exact ⟨[], z, xs, rfl, rfl, hz, (lastIndexFrom_eq_none p xs _).mp hk⟩
      · cases h

/-- What an index found from the end says. -/
theorem lastIndexOf_spec (p : α → Bool) (xs : List α) (j : Nat) (h : lastIndexOf p xs = some j) :
    ∃ a x b, xs = a ++ x :: b ∧ j = a.length ∧ p x = true ∧ ∀ y ∈ b, p y = false := by
  simpa [lastIndexOf] using lastIndexFrom_spec p xs 0 j h

/-- No index found from the end: no element passes. -/
theorem lastIndexOf_eq_none (p : α → Bool) (xs : List α) : lastIndexOf p xs = none ↔ ∀ y ∈ xs, p y = false :=
  lastIndexFrom_eq_none p xs 0

theorem indexFrom_eq_none (p : α → Bool) (xs : List α) (i : Nat) :
    indexFrom p i xs = none ↔ ∀ y ∈ xs, p y = false := by
  induction xs generalizing i with
  | nil => simp [indexFrom]
  | cons z xs ih => cases hz : p z <;> simp [indexFrom, hz, ih]

/-- No index found: no element passes. -/
theorem indexOf_eq_none (p : α → Bool) (xs : List α) : indexOf p xs = none ↔ ∀ y ∈ xs, p y = false :=
  indexFrom_eq_none p xs 0

/-- A change of the first element that passes, where there is one. -/
theorem updateFirst_cases (p : α → Bool) (f : α → α) (xs : List α) :
    updateFirst p f xs = xs ∨
      ∃ a x b, xs = a ++ x :: b ∧ p x = true ∧ (∀ y ∈ a, p y = false) ∧ updateFirst p f xs = a ++ f x :: b := by
  cases h : indexOf p xs with
  | none => exact .inl (updateFirst_none p f xs ((indexOf_eq_none p xs).mp h))
  | some j =>
    obtain ⟨a, x, b, rfl, -, hx, ha⟩ := indexOf_spec p xs j h
    exact .inr ⟨a, x, b, rfl, hx, ha, updateFirst_append p f a b x ha hx⟩

/-- What a change of the first element that passes leaves alone shows no change. -/
theorem updateFirst_map {β : Type} (p : α → Bool) (f : α → α) (g : α → β) (hg : ∀ x, g (f x) = g x) (xs : List α) :
    (updateFirst p f xs).map g = xs.map g := by
  induction xs with
  | nil => rfl
  | cons x xs ih => simp only [updateFirst]; split <;> simp [hg, ih]

end Sys2Proof.Machine
end

section
/-! What the reports between blocks keep of the queue's active entries, of the engine and of the bounds (R106 to R111,
R113, R138, R144, R152, R153, R183). -/

namespace Sys2Proof.Machine

/-! ## Offers to the queue -/

/-- How many entries of a queue are in a state. -/
def inState (st : TxState) (queue : List TxEntry) : Nat := queue.countP (fun e => e.state == st)

@[simp] theorem inState_append (st : TxState) (a b : List TxEntry) :
    inState st (a ++ b) = inState st a + inState st b := List.countP_append ..

@[simp] theorem inState_nil (st : TxState) : inState st [] = 0 := rfl

@[simp] theorem inState_cons (st : TxState) (e : TxEntry) (q : List TxEntry) :
    inState st (e :: q) = inState st q + if e.state = st then 1 else 0 := by
  simp [inState, List.countP_cons]

/-- CONTENDING and SENDING: the states of an entry in the engine's hands (R106). -/
def TxState.active (st : TxState) : Bool := st == .contending || st == .sending

theorem TxEntry.waits_state {e : TxEntry} (h : e.waits = true) {st : TxState} (hst : st.active = true) :
    e.state ≠ st := by
  rintro rfl
  cases he : e.state <;> simp_all [TxEntry.waits, TxState.active]

/-- What an offer or a withdrawal can do to the transmitter: active entries stay, the bound of 8 is kept, and the
engine at most leaves IDLE. -/
structure Transmitter.Served (t u : Transmitter) : Prop where
  kept : t.Kept u
  active : ∀ st : TxState, st.active = true → inState st u.queue = inState st t.queue
  length : t.queue.length ≤ 8 → u.queue.length ≤ 8
  engine : u.engine = t.engine ∨ t.engine = .idle ∧ (u.engine = .gap ∨ u.engine = .wait ∧ t.grid.isSome = true)

theorem Transmitter.Served.refl (t : Transmitter) : t.Served t := ⟨.refl t, fun _ _ => rfl, id, .inl rfl⟩

theorem Transmitter.Served.trans {a b c : Transmitter} (h : a.Served b) (k : b.Served c) : a.Served c where
  kept := h.kept.trans k.kept
  active st hst := (k.active st hst).trans (h.active st hst)
  length hl := k.length (h.length hl)
  engine := by
    have hg := h.kept.grid
    rcases h.engine with he | ⟨hi, he⟩
    · rw [← he, ← hg]; exact k.engine
    · rcases k.engine with ke | ⟨ki, -⟩
      · exact .inr ⟨hi, by rw [ke]; exact he⟩
      · rcases he with he | ⟨he, -⟩ <;> simp [he] at ki

theorem Transmitter.leaveIdle_served (t : Transmitter) : t.Served t.leaveIdle where
  kept := t.leaveIdle_kept
  active := by simp
  length := by simp
  engine := by
    unfold Transmitter.leaveIdle
    split
    · next h =>
      simp only [Bool.and_eq_true, beq_iff_eq] at h
      refine .inr ⟨h.1, ?_⟩
      cases hg : t.grid with
      | none => exact .inl rfl
      | some g => exact .inr ⟨rfl, rfl⟩
    · exact .inl rfl

theorem newEntry_waits (now : Stamp) (f : Frame) (own : Bool) (earliest : Stamp) (attempt : Option Nat) :
    (newEntry now f own earliest attempt).waits = true := by
  unfold newEntry TxEntry.waits
  cases reached now earliest <;> rfl

/-- An entry that waits taken out of the queue, or none, and one that waits put at its end. -/
theorem Transmitter.accept_served (t : Transmitter) (now : Stamp) (f : Frame) (own : Bool) (earliest : Stamp)
    (attempt : Option Nat) (hl : t.queue.length < 8) : t.Served (t.accept now f own earliest attempt) := by
  have hengine : (t.accept now f own earliest attempt).engine = t.engine ∨
      t.engine = .idle ∧ ((t.accept now f own earliest attempt).engine = .gap ∨
        (t.accept now f own earliest attempt).engine = .wait ∧ t.grid.isSome = true) := by
    unfold Transmitter.accept
    simp only []
    split <;> exact (Transmitter.leaveIdle_served _).engine
  refine ⟨t.accept_kept .., fun st hst => ?_, fun _ => by rw [accept_length]; omega, hengine⟩
  rw [accept_queue]
  simp [TxEntry.waits_state (newEntry_waits ..) hst]

/-- Taking an entry that waits out of the queue leaves the active ones. -/
theorem inState_removeAt {queue : List TxEntry} {a b : List TxEntry} {e : TxEntry} {i : Nat}
    (hq : queue = a ++ e :: b) (hi : i = a.length) (hw : e.waits = true) {st : TxState} (hst : st.active = true) :
    inState st (removeAt queue i) = inState st queue := by
  simp [hq, hi, TxEntry.waits_state hw hst]

/-- The entry to evict waits (R110). -/
theorem evictionIndex_spec (queue : List TxEntry) (rank : Nat) (own : Bool) (i : Nat)
    (h : evictionIndex queue rank own = some i) :
    ∃ a e b, queue = a ++ e :: b ∧ i = a.length ∧ e.waits = true := by
  unfold evictionIndex at h
  simp only [] at h
  split at h
  · split at h
    · obtain ⟨a, e, b, hq, hi, he, -⟩ := lastIndexOf_spec _ _ _ h
      simp only [Bool.and_eq_true] at he
      exact ⟨a, e, b, hq, hi, he.1.1⟩
    · cases h
  · obtain ⟨a, e, b, hq, hi, he, -⟩ := lastIndexOf_spec _ _ _ h
    simp only [Bool.and_eq_true] at he
    exact ⟨a, e, b, hq, hi, he.1⟩

theorem Transmitter.seat_served (t : Transmitter) (now : Stamp) (f : Frame) (own : Bool) (earliest : Stamp)
    (attempt : Option Nat) : t.Served (t.seat now f own earliest attempt).1 := by
  unfold Transmitter.seat
  split
  · next hl => exact t.accept_served now f own earliest attempt hl
  · split
    · exact ⟨by constructor <;> rfl, fun _ _ => rfl, id, .inl rfl⟩
    · next i hi =>
      obtain ⟨a, e, b, hq, hia, hw⟩ := evictionIndex_spec _ _ _ _ hi
      have hlen := removeAt_length t.queue i (evictionIndex_lt _ _ _ _ hi)
      refine ⟨Transmitter.Kept.trans (by constructor <;> rfl) (Transmitter.accept_kept ..), fun st hst => ?_,
        fun hl => ?_, ?_⟩
      · simp [accept_queue, TxEntry.waits_state (newEntry_waits ..) hst, inState_removeAt hq hia hw hst]
      · simp only [accept_length]; omega
      · simp only [Transmitter.accept]
        split <;> exact (Transmitter.leaveIdle_served _).engine

/-- An entry under another sequence stays in its state. -/
theorem inState_setAt_frame {queue : List TxEntry} {i : Nat} {e : TxEntry} (h : queue[i]? = some e) (f : Frame)
    (st : TxState) : inState st (setAt queue i { e with frame := f }) = inState st queue := by
  obtain ⟨a, b, rfl, rfl⟩ := getElem?_split _ _ _ h
  simp

theorem Transmitter.identify_served (t u : Transmitter) (f : Frame) (own : Bool) (h : t.identify f own = some u) :
    t.Served u := by
  have hk := t.identify_kept u f own h
  have hl := t.identify_length u f own h
  unfold Transmitter.identify at h
  split at h
  · cases h; exact .refl t
  · split at h
    · cases h; exact .refl t
    · next e he =>
      split at h
      · cases h
        exact ⟨hk, fun st _ => inState_setAt_frame he _ st, fun h => hl.symm ▸ h, .inl rfl⟩
      · cases h

/-- All that an offer does to the active entries and the engine (R107 to R110). -/
theorem Transmitter.offer_served (t : Transmitter) (now : Stamp) (f : Frame) (own : Bool) (earliest : Stamp)
    (attempt : Option Nat) : t.Served (t.offer now f own earliest attempt).1 := by
  unfold Transmitter.offer
  split
  · split
    · exact ⟨by constructor <;> rfl, fun _ _ => rfl, id, .inl rfl⟩
    · next u hu => exact (t.identify_served u f own hu).trans (u.seat_served ..)
  · split
    · next i hi =>
      obtain ⟨a, e, b, hq, hia, he, -⟩ := lastIndexOf_spec _ _ _ hi
      have hw : e.waits = true := by simp_all [TxEntry.waits]
      have hlen := removeAt_length t.queue i (lastIndexOf_lt _ _ _ hi)
      refine ⟨Transmitter.Kept.trans (by constructor <;> rfl) (Transmitter.accept_kept ..), fun st hst => ?_,
        fun hl => ?_, ?_⟩
      · simp [accept_queue, TxEntry.waits_state (newEntry_waits ..) hst, inState_removeAt hq hia hw hst]
      · simp only [accept_length]; omega
      · simp only [Transmitter.accept]
        split <;> exact (Transmitter.leaveIdle_served _).engine
    · exact t.seat_served ..

/-- A withdrawal changes the queue only (R111). -/
theorem Transmitter.withdraw_served (t : Transmitter) (origin seq : Byte) : t.Served (t.withdraw origin seq).1 := by
  unfold Transmitter.withdraw
  split
  · exact .refl t
  · split
    · exact .refl t
    · next i _ e he =>
      split
      · next hw =>
        obtain ⟨a, b, hq, hi⟩ := getElem?_split _ _ _ he
        exact ⟨by constructor <;> rfl, fun st hst => inState_removeAt hq hi hw hst,
          fun h => Nat.le_trans (removeAt_length_le ..) h, .inl rfl⟩
      · exact .refl t

/-- The withdrawal of all relays leaves the active entries (R111). -/
theorem Transmitter.withdrawRelays_served (t : Transmitter) : t.Served t.withdrawRelays where
  kept := by constructor <;> rfl
  active st hst := by
    simp only [Transmitter.withdrawRelays, inState, List.countP_filter]
    refine List.countP_congr fun e _ => ?_
    have hw : e.state = st → e.waits = false := fun h => by
      cases hw : e.waits with
      | false => rfl
      | true => exact absurd h (TxEntry.waits_state hw hst)
    simp only [Bool.and_eq_true, beq_iff_eq, Bool.or_eq_true, Bool.not_eq_true']
    exact ⟨fun h => h.1, fun h => ⟨h, .inr (hw h)⟩⟩
  length := Nat.le_trans (List.length_filter_le ..)
  engine := .inl rfl

end Sys2Proof.Machine
end

section
/-! What reports and the acts of the alarm side keep: the blocks they do not touch, and the bounds of the others. -/

namespace Sys2Proof.Machine

/-! ## Reports -/

/-- What is left of a seen-list entry when its relay status is set aside (R138). -/
def SeenEntry.plain (e : SeenEntry) : SeenEntry := { e with status := .none }

/-- What `t` keeps of `n`'s queue, engine, lists and counts through reports. -/
structure Node.KeepsBounds (n t : Node) : Prop where
  active : t.active = n.active
  served : n.tx.Served t.tx
  idle : n.active = false → t.tx.engine = n.tx.engine ∧ (n.tx.queue = [] → t.tx.queue = [])
  seen : t.relay.seen.map SeenEntry.plain = n.relay.seen.map SeenEntry.plain
  watch : t.relay.watch.length ≤ n.relay.watch.length
  panel : n.serial.panel.length ≤ 32 → t.serial.panel.length ≤ 32
  efc : n.link.efc ≤ 511 → t.link.efc ≤ 511
  rfc : n.link.rfc ≤ 255 → t.link.rfc ≤ 255

theorem Node.KeepsBounds.refl (n : Node) : n.KeepsBounds n :=
  ⟨rfl, .refl _, fun _ => ⟨rfl, id⟩, rfl, Nat.le_refl _, id, id, id⟩

theorem Node.KeepsBounds.trans {a b c : Node} (h : a.KeepsBounds b) (k : b.KeepsBounds c) : a.KeepsBounds c where
  active := k.active.trans h.active
  served := h.served.trans k.served
  idle ha := by
    obtain ⟨he, hq⟩ := h.idle ha
    obtain ⟨ke, kq⟩ := k.idle (h.active.trans ha)
    exact ⟨ke.trans he, fun hn => kq (hq hn)⟩
  seen := k.seen.trans h.seen
  watch := Nat.le_trans k.watch h.watch
  panel hp := k.panel (h.panel hp)
  efc hp := k.efc (h.efc hp)
  rfc hp := k.rfc (h.rfc hp)

/-- A change of the other blocks keeps all of it. -/
theorem Node.KeepsBounds.of_eq {n t : Node} (hpower : t.power = n.power) (htx : t.tx = n.tx)
    (hseen : t.relay.seen = n.relay.seen) (hwatch : t.relay.watch = n.relay.watch)
    (hpanel : t.serial.panel = n.serial.panel) (hlink : t.link = n.link) : n.KeepsBounds t where
  active := by simp [Node.active, hpower]
  served := htx ▸ .refl _
  idle _ := by rw [htx]; exact ⟨rfl, id⟩
  seen := by rw [hseen]
  watch := by rw [hwatch]
  panel := by rw [hpanel]; exact id
  efc := by rw [hlink]; exact id
  rfc := by rw [hlink]; exact id

/-- A full panel queue gives up as many records as it takes (R183). -/
theorem Serial.push_panel_length (s : Serial) (r : EventRecord) (h : s.panel.length ≤ 32) :
    (s.push r).panel.length ≤ 32 := by
  unfold Serial.push
  split
  · simp only [List.length_append, List.length_singleton]; omega
  · have hsplit : (s.panel.take s.begun).length + (s.panel.drop s.begun).length = s.panel.length := by
      rw [← List.length_append, List.take_append_drop]
    simp only []
    split
    · next i hi =>
      obtain ⟨a, x, b, hd, rfl, -⟩ := indexOf_spec _ _ _ hi
      rw [hd] at hsplit ⊢
      simp only [removeAt_append, List.length_append, List.length_cons, List.length_nil] at hsplit ⊢
      omega
    · split
      · next hw =>
        have hne : 0 < (s.panel.drop s.begun).length := by
          simp only [Bool.and_eq_true, Bool.not_eq_true', List.isEmpty_eq_false_iff] at hw
          exact List.length_pos_iff.mpr hw.2
        simp only [List.length_append, List.length_drop, List.length_singleton] at hsplit hne ⊢
        omega
      · exact h

theorem Node.record_keepsBounds (n : Node) (r : EventRecord) : n.KeepsBounds (n.record r) := by
  unfold Node.record
  split
  · exact ⟨rfl, .refl _, fun _ => ⟨rfl, id⟩, rfl, Nat.le_refl _, n.serial.push_panel_length r, id, id⟩
  · exact .refl n

theorem Node.noticeTasks_keepsBounds (n : Node) (k : NoticeKind) (b : Bool) (s : Option Byte) :
    n.KeepsBounds (n.noticeTasks k b s).1 := by
  unfold Node.noticeTasks
  split
  · exact .refl n
  · exact .of_eq rfl rfl rfl rfl rfl rfl

theorem Node.raise_keepsBounds (n : Node) (k : NoticeKind) (s : Option Byte) : n.KeepsBounds (n.raise k s).1 := by
  unfold Node.raise
  split
  · exact .refl n
  · refine Node.KeepsBounds.trans (Node.KeepsBounds.trans ?_ (Node.record_keepsBounds _ _))
      (Node.noticeTasks_keepsBounds ..)
    exact .of_eq rfl rfl rfl rfl rfl rfl

theorem Node.dropNotice_keepsBounds (n : Node) (k : NoticeKind) (s : Option Byte) :
    n.KeepsBounds (n.dropNotice k s) := by
  unfold Node.dropNotice
  split
  · refine Node.KeepsBounds.trans ?_ (Node.record_keepsBounds _ _)
    exact .of_eq rfl rfl rfl rfl rfl rfl
  · exact .refl n

theorem Node.clear_keepsBounds (n : Node) (k : NoticeKind) (s : Option Byte) : n.KeepsBounds (n.clear k s).1 := by
  unfold Node.clear
  split
  · exact .refl n
  · exact (n.dropNotice_keepsBounds k s).trans (Node.noticeTasks_keepsBounds ..)

theorem Node.event_keepsBounds (n : Node) (k : NoticeKind) (s : Option Byte) : n.KeepsBounds (n.event k s).1 := by
  unfold Node.event
  split
  · exact .refl n
  · refine Node.KeepsBounds.trans (Node.KeepsBounds.trans ?_ (Node.record_keepsBounds _ _))
      (Node.noticeTasks_keepsBounds ..)
    exact .of_eq rfl rfl rfl rfl rfl rfl

/-- A queue report sets a relay status only (R142). -/
theorem RelayEngine.report_plain (r : RelayEngine) (origin seq : Byte) (st : RelayStatus) :
    (r.report origin seq st).seen.map SeenEntry.plain = r.seen.map SeenEntry.plain :=
  updateFirst_map _ (fun e : SeenEntry => { e with status := st }) _ (fun _ => rfl) _

theorem Node.afterOffer_keepsBounds (n : Node) (f : Frame) (own : Bool) (a : OfferAnswer) (ev : Option TxEntry) :
    n.KeepsBounds (n.afterOffer f own a ev).1 := by
  unfold Node.afterOffer
  simp only []
  split
  · exact .refl n
  · split
    · exact .refl n
    · exact ⟨rfl, .refl _, fun _ => ⟨rfl, id⟩, RelayEngine.report_plain .., Nat.le_refl _, id, id, id⟩

theorem Node.offer_keepsBounds (n : Node) (f : Frame) (own : Bool) (earliest : Stamp) (attempt : Option Nat) :
    n.KeepsBounds (n.offer f own earliest attempt).1 := by
  unfold Node.offer
  split
  · exact .refl n
  · next hact =>
    have hserved := n.tx.offer_served n.clock f own earliest attempt
    refine Node.KeepsBounds.trans (b := { n with tx := (n.tx.offer n.clock f own earliest attempt).1 }) ?_
      (Node.afterOffer_keepsBounds ..)
    exact ⟨rfl, hserved, fun h => absurd h (by simpa using hact), rfl, Nat.le_refl _, id, id, id⟩

/-- The relays withdrawn on entry to ISOLATED are marked CANCELLED only (R157). -/
theorem RelayEngine.foldl_report_plain (st : RelayStatus) (es : List TxEntry) : ∀ r : RelayEngine,
    (es.foldl (fun r e => r.report e.frame.hdr.origin e.frame.hdr.seq st) r).seen.map SeenEntry.plain =
      r.seen.map SeenEntry.plain := by
  induction es with
  | nil => exact fun _ => rfl
  | cons e es ih => exact fun r => (ih _).trans (r.report_plain ..)

theorem RelayEngine.foldl_report_watch (st : RelayStatus) (es : List TxEntry) : ∀ r : RelayEngine,
    (es.foldl (fun r e => r.report e.frame.hdr.origin e.frame.hdr.seq st) r).watch = r.watch := by
  induction es with
  | nil => exact fun _ => rfl
  | cons e es ih => exact fun r => ih _

theorem Node.isolate_keepsBounds (n : Node) : n.KeepsBounds n.isolate where
  active := rfl
  served := n.tx.withdrawRelays_served
  idle _ := ⟨rfl, fun h => by simp [Node.isolate, Transmitter.withdrawRelays, h]⟩
  seen := RelayEngine.foldl_report_plain _ _ _
  watch := Nat.le_of_eq (congrArg List.length (RelayEngine.foldl_report_watch _ _ _))
  panel := id
  efc := id
  rfc := id

theorem Node.setLink_keepsBounds (n : Node) (l : Link) (hefc : n.link.efc ≤ 511 → l.efc ≤ 511)
    (hrfc : n.link.rfc ≤ 255 → l.rfc ≤ 255) : n.KeepsBounds (n.setLink l).1 := by
  have hset : n.KeepsBounds { n with link := l } :=
    ⟨rfl, .refl _, fun _ => ⟨rfl, id⟩, rfl, Nat.le_refl _, id, hefc, hrfc⟩
  unfold Node.setLink
  simp only []
  split
  · exact hset.trans (Node.isolate_keepsBounds _)
  · exact hset

theorem Link.afterEcho_le (l : Link) (b : Bool) :
    (l.efc ≤ 511 → (l.afterEcho b).efc ≤ 511) ∧ (l.afterEcho b).rfc = l.rfc := by
  unfold Link.afterEcho
  cases b
  · exact ⟨fun _ => by simp only [Bool.false_eq_true, if_false]; omega, rfl⟩
  · exact ⟨fun _ => by simp only [if_true]; split <;> omega, rfl⟩

theorem Link.afterFrame_le (l : Link) (b : Bool) :
    (l.rfc ≤ 255 → (l.afterFrame b).rfc ≤ 255) ∧ (l.afterFrame b).efc = l.efc := by
  unfold Link.afterFrame
  cases b
  · exact ⟨fun _ => by simp only [Bool.false_eq_true, if_false]; omega, rfl⟩
  · exact ⟨fun _ => by simp only [if_true]; split <;> omega, rfl⟩

theorem Node.ownEvicted_keepsBounds (n : Node) (seq : Byte) : n.KeepsBounds (n.ownEvicted seq).1 := by
  have hclosed : n.KeepsBounds
      { n with relay := { n.relay with watch := removeFirst (WatchEntry.hasSeq seq) n.relay.watch } } :=
    ⟨rfl, .refl _, fun _ => ⟨rfl, id⟩, rfl, removeFirst_length_le .., id, id, id⟩
  unfold Node.ownEvicted
  split
  · exact .refl n
  · simp only []
    split
    · exact hclosed
    · exact hclosed
    · exact .refl n

theorem Task.run_keepsBounds (n : Node) (t : Task) : n.KeepsBounds (t.run n).1 := by
  cases t with
  | raise k s => exact n.raise_keepsBounds k s
  | clear k s => exact n.clear_keepsBounds k s
  | event k s => exact n.event_keepsBounds k s
  | offer f a => exact n.offer_keepsBounds f true n.clock a
  | echo b =>
    obtain ⟨he, hr⟩ := n.link.afterEcho_le b
    exact n.setLink_keepsBounds _ he (hr.symm ▸ id)
  | frame b =>
    obtain ⟨hr, he⟩ := n.link.afterFrame_le b
    exact n.setLink_keepsBounds _ (he.symm ▸ id) hr
  | ownEvicted q => exact n.ownEvicted_keepsBounds q

theorem Node.foldl_keepsBounds (step : Node → Task → Node) (h : ∀ (n : Node) (t : Task), n.KeepsBounds (step n t))
    (ts : List Task) : ∀ n : Node, n.KeepsBounds (ts.foldl step n) := by
  induction ts with
  | nil => exact fun n => .refl n
  | cons t ts ih => exact fun n => (h n t).trans (ih _)

theorem deliver_keepsBounds (d : Nat) : ∀ (t : Task) (n : Node), n.KeepsBounds (deliver d t n) := by
  induction d with
  | zero => exact fun _ n => .refl n
  | succ d ih => exact fun t n => (t.run_keepsBounds n).trans (Node.foldl_keepsBounds _ (fun m u => ih u m) _ _)

/-- Reports, with all that follows from them, keep the active entries and the bounds. -/
theorem Node.deliver_keepsBounds (n : Node) (ts : List Task) : n.KeepsBounds (n.deliver ts) :=
  Node.foldl_keepsBounds _ (fun m t => Machine.deliver_keepsBounds 12 t m) ts n

/-! ## Acts of the alarm side, the queue and the Relay Engine -/

/-- `t` comes of `n` by acts of the Alarm Decision unit, requests and reports, and changes of the Relay Engine's watch
and relay statuses: the other blocks stay, and the bounds of these are kept. -/
structure Node.ActsFrom (n t : Node) : Prop where
  clock : t.clock = n.clock
  timer : t.timer = n.timer
  sensing : t.sensing = n.sensing
  evidence : t.evidence = n.evidence
  peers : t.peers = n.peers
  rx : t.rx = n.rx
  power : t.power = n.power
  out : t.out = n.out
  loader : t.loader = n.loader
  serialRx : t.serial.rx = n.serial.rx
  serialTimeout : t.serial.timeout = n.serial.timeout
  serialAnswers : t.serial.answers = n.serial.answers
  serialTx : t.serial.tx = n.serial.tx
  untypedRejects : t.untypedRejects = n.untypedRejects
  wantFast : t.alarm.wantFast = n.alarm.wantFast
  bounds : n.KeepsBounds t
  origins : n.alarm.origins.length ≤ 8 → t.alarm.origins.length ≤ 8

theorem Node.ActsFrom.refl (n : Node) : n.ActsFrom n :=
  ⟨rfl, rfl, rfl, rfl, rfl, rfl, rfl, rfl, rfl, rfl, rfl, rfl, rfl, rfl, rfl, .refl n, id⟩

theorem Node.ActsFrom.trans {a b c : Node} (h : a.ActsFrom b) (k : b.ActsFrom c) : a.ActsFrom c where
  clock := k.clock.trans h.clock
  timer := k.timer.trans h.timer
  sensing := k.sensing.trans h.sensing
  evidence := k.evidence.trans h.evidence
  peers := k.peers.trans h.peers
  rx := k.rx.trans h.rx
  power := k.power.trans h.power
  out := k.out.trans h.out
  loader := k.loader.trans h.loader
  serialRx := k.serialRx.trans h.serialRx
  serialTimeout := k.serialTimeout.trans h.serialTimeout
  serialAnswers := k.serialAnswers.trans h.serialAnswers
  serialTx := k.serialTx.trans h.serialTx
  untypedRejects := k.untypedRejects.trans h.untypedRejects
  wantFast := k.wantFast.trans h.wantFast
  bounds := h.bounds.trans k.bounds
  origins ho := k.origins (h.origins ho)

/-- What a report touches, with its bounds kept. -/
theorem Node.ReportedFrom.acts {n t : Node} (h : n.ReportedFrom t) (k : n.KeepsBounds t) : n.ActsFrom t where
  clock := h.clock
  timer := h.timer
  sensing := h.sensing
  evidence := h.evidence
  peers := h.peers
  rx := h.rx
  power := h.power
  out := h.out
  loader := h.loader
  serialRx := h.serialRx
  serialTimeout := h.serialTimeout
  serialAnswers := h.serialAnswers
  serialTx := h.serialTx
  untypedRejects := h.untypedRejects
  wantFast := h.alarmWantFast
  bounds := k
  origins ho := h.alarmOrigins ▸ ho

theorem Node.deliver_acts (n : Node) (ts : List Task) : n.ActsFrom (n.deliver ts) :=
  (n.deliver_reported ts).acts (n.deliver_keepsBounds ts)

theorem Node.record_acts (n : Node) (r : EventRecord) : n.ActsFrom (n.record r) :=
  (n.record_reported r).acts (n.record_keepsBounds r)

theorem Node.dropNotice_acts (n : Node) (k : NoticeKind) (s : Option Byte) : n.ActsFrom (n.dropNotice k s) :=
  (n.dropNotice_reported k s).acts (n.dropNotice_keepsBounds k s)

theorem Node.offer_acts (n : Node) (f : Frame) (own : Bool) (earliest : Stamp) (attempt : Option Nat) :
    n.ActsFrom (n.offer f own earliest attempt).1 :=
  (n.offer_reported ..).acts (n.offer_keepsBounds ..)

/-- A change of the alarm unit, with its origin list within its bound, and the interval wanted as it was. -/
theorem Node.alarm_acts (n : Node) (a : AlarmUnit) (hw : a.wantFast = n.alarm.wantFast)
    (h : n.alarm.origins.length ≤ 8 → a.origins.length ≤ 8) : n.ActsFrom { n with alarm := a } :=
  ⟨rfl, rfl, rfl, rfl, rfl, rfl, rfl, rfl, rfl, rfl, rfl, rfl, rfl, rfl, hw, .of_eq rfl rfl rfl rfl rfl rfl, h⟩

/-- A change of the Relay Engine that leaves the seen list but for a status, and opens no watch. -/
theorem Node.relay_acts (n : Node) (r : RelayEngine)
    (hseen : r.seen.map SeenEntry.plain = n.relay.seen.map SeenEntry.plain)
    (hwatch : r.watch.length ≤ n.relay.watch.length) : n.ActsFrom { n with relay := r } :=
  ⟨rfl, rfl, rfl, rfl, rfl, rfl, rfl, rfl, rfl, rfl, rfl, rfl, rfl, rfl, rfl,
    ⟨rfl, .refl _, fun _ => ⟨rfl, id⟩, hseen, hwatch, id, id, id⟩, id⟩

theorem Node.nextSeq_acts (n : Node) : n.ActsFrom n.nextSeq := n.relay_acts _ rfl (Nat.le_refl _)

theorem Node.originate_acts (n : Node) (test : Bool) (b : Body) : n.ActsFrom (n.originate test b) :=
  n.nextSeq_acts.trans (Node.deliver_acts _ _)

/-! ## The Alarm Decision unit (chapter 4) -/

/-- A full list gives up its oldest entry for the node's own (R72, R75). -/
theorem AlarmUnit.addOwnOrigin_length (a : AlarmUnit) (o : OriginEntry) (h : a.origins.length ≤ 8) :
    (a.addOwnOrigin o).origins.length ≤ 8 := by
  have hle : (a.origins.filter (fun x => x.address != o.address)).length ≤ a.origins.length :=
    List.length_filter_le ..
  unfold AlarmUnit.addOwnOrigin
  simp only []
  split
  · simp only [List.length_append, List.length_drop, List.length_singleton]; omega
  · simp only [List.length_append, List.length_singleton]; omega

theorem Node.enterAlarm_acts (n : Node) (lv : Nat) : n.ActsFrom (n.enterAlarm lv) := by
  unfold Node.enterAlarm
  refine .trans (.trans (.trans ?_ (Node.dropNotice_acts _ _ _)) (Node.originate_acts _ _ _)) (Node.record_acts _ _)
  exact n.alarm_acts _ rfl (n.alarm.addOwnOrigin_length _)

theorem Node.testConfirm_acts (n : Node) (lv : Nat) : n.ActsFrom (n.testConfirm lv) := by
  unfold Node.testConfirm
  refine .trans (.trans (.trans (n.originate_acts true (n.alarmBody lv)) ?_) (Node.deliver_acts _ _))
    (Node.record_acts _ _)
  exact Node.alarm_acts _ _ rfl id

theorem Node.confirm_acts (n : Node) (lv : Nat) : n.ActsFrom (n.confirm lv) := by
  unfold Node.confirm
  split
  · exact n.testConfirm_acts lv
  · exact n.enterAlarm_acts lv

theorem Node.decideConfirmation_acts (n : Node) (lv : Nat) : n.ActsFrom (n.decideConfirmation lv) := by
  unfold Node.decideConfirmation
  split
  · exact n.confirm_acts lv
  · exact n.alarm_acts _ rfl id

theorem Node.reevaluate_acts (n : Node) : n.ActsFrom n.reevaluate := by
  unfold Node.reevaluate
  split
  · exact n.confirm_acts _
  · exact .refl n

theorem Node.sendEvidence_acts (n : Node) : n.ActsFrom n.sendEvidence := n.deliver_acts _

theorem Node.judgeWatch_acts (n : Node) (lv : Nat) : n.ActsFrom (n.judgeWatch lv) := by
  unfold Node.judgeWatch
  split
  · have hraised := (n.alarm_acts { n.alarm with state := .confirming, confirmCount := 1 } rfl id).trans
      (Node.deliver_acts _ [.raise .preAlarm none])
    simp only []
    split
    · exact hraised.trans (Node.decideConfirmation_acts _ _)
    · exact hraised
  · split
    · exact n.alarm_acts _ rfl id
    · split
      · exact n.alarm_acts _ rfl id
      · exact n.alarm_acts _ rfl id

theorem Node.judgeConfirming_acts (n : Node) (lv : Nat) : n.ActsFrom (n.judgeConfirming lv) := by
  unfold Node.judgeConfirming
  split
  · simp only []
    split
    · refine .trans ?_ (Node.decideConfirmation_acts _ _)
      exact n.alarm_acts _ rfl id
    · exact n.alarm_acts _ rfl id
  · refine .trans ?_ (Node.deliver_acts _ _)
    exact n.alarm_acts _ rfl id

theorem Node.judge_acts (n : Node) (lv : Nat) : n.ActsFrom (n.judge lv) := by
  unfold Node.judge
  split
  · split
    · exact n.alarm_acts _ rfl id
    · exact .refl n
  · exact n.judgeWatch_acts lv
  · exact n.judgeConfirming_acts lv
  · exact .refl n

theorem Node.takeResult_acts (n : Node) (r : EvidenceResult) : n.ActsFrom (n.takeResult r) := by
  unfold Node.takeResult
  split
  · exact .refl n
  · split
    · split
      · exact .refl n
      · exact n.sendEvidence_acts
    · simp only []
      split
      · exact n.judge_acts _
      · exact (n.judge_acts _).trans (Node.sendEvidence_acts _)

/-- The origin list holds at most 8 entries through a remote alarm (R75, R76). -/
theorem AlarmUnit.noteOrigin_length (a : AlarmUnit) (o : OriginEntry) (h : a.origins.length ≤ 8) :
    (a.noteOrigin o).origins.length ≤ 8 := by
  unfold AlarmUnit.noteOrigin
  split
  · simpa using h
  · simp only []
    split
    · simp only [List.length_append, List.length_singleton]; omega
    · exact h

@[simp] theorem AlarmUnit.noteOrigin_wantFast (a : AlarmUnit) (o : OriginEntry) :
    (a.noteOrigin o).wantFast = a.wantFast := by
  unfold AlarmUnit.noteOrigin; split <;> rfl

theorem Node.remoteAlarm_acts (n : Node) (h : Header) (cause : Cause) (lv q hx : Byte) :
    n.ActsFrom (n.remoteAlarm h cause lv q hx) := by
  unfold Node.remoteAlarm
  split
  · exact .refl n
  · simp only []
    split
    · exact n.record_acts _
    · have hnoted := (n.alarm_acts (n.alarm.noteOrigin ⟨h.origin, h.zone, cause, n.clock⟩)
        (n.alarm.noteOrigin_wantFast _) (n.alarm.noteOrigin_length _)).trans
        (Node.record_acts _ (n.alarmRecord h.test h.origin h.zone cause lv q hx))
      split
      · exact hnoted.trans (Node.reevaluate_acts _)
      · exact hnoted

theorem Node.applyCommand_acts (n : Node) (c : Command) : n.ActsFrom (n.applyCommand c) := by
  cases c with
  | silence => exact n.alarm_acts _ rfl id
  | reset =>
    refine .trans ?_ (Node.deliver_acts _ _)
    exact n.alarm_acts _ rfl (fun _ => Nat.zero_le _)
  | testOn =>
    simp only [Node.applyCommand]
    split
    · exact .refl n
    · exact n.alarm_acts _ rfl id
  | testOff => exact n.alarm_acts _ rfl id

theorem Node.control_acts (n : Node) (c : Command) (target : ZoneCode) (origin : Byte) (zone : ZoneCode) :
    n.ActsFrom (n.control c target origin zone) := by
  unfold Node.control
  split
  · exact .refl n
  · split
    · exact .refl n
    · exact (n.applyCommand_acts c).trans (Node.record_acts _ _)

theorem Node.forcedSample_acts (n : Node) : n.ActsFrom n.forcedSample := by
  unfold Node.forcedSample
  split
  · exact n.testConfirm_acts _
  · exact .refl n

theorem Node.consume_acts (n : Node) (f : Frame) : n.ActsFrom (n.consume f) := by
  unfold Node.consume
  split
  · exact n.remoteAlarm_acts ..
  · exact n.control_acts ..
  · exact n.record_acts _
  · exact .refl n
  · exact .refl n

/-! ## The Relay Engine (chapter 8) -/

/-- A withdrawal, then a change of the Relay Engine. -/
theorem Node.withdraw_acts (n : Node) (origin seq : Byte) :
    n.ActsFrom { n with tx := (n.tx.withdraw origin seq).1 } := by
  have hserved := n.tx.withdraw_served origin seq
  have hempty : n.tx.queue = [] → (n.tx.withdraw origin seq).1.queue = [] := fun h =>
    List.eq_nil_of_length_eq_zero (by have := n.tx.withdraw_length origin seq; simp_all)
  have hengine : (n.tx.withdraw origin seq).1.engine = n.tx.engine := by
    unfold Transmitter.withdraw
    split
    · rfl
    · split
      · rfl
      · split <;> rfl
  exact ⟨rfl, rfl, rfl, rfl, rfl, rfl, rfl, rfl, rfl, rfl, rfl, rfl, rfl, rfl, rfl,
    ⟨rfl, hserved, fun _ => ⟨hengine, hempty⟩, rfl, Nat.le_refl _, id, id, id⟩, id⟩

theorem RelayEngine.mark_plain (r : RelayEngine) (origin seq : Byte) (st : RelayStatus) :
    (r.mark origin seq st).seen.map SeenEntry.plain = r.seen.map SeenEntry.plain :=
  updateFirst_map _ (fun e : SeenEntry => { e with status := st }) _ (fun _ => rfl) _

theorem Node.mark_acts (n : Node) (origin seq : Byte) (st : RelayStatus) :
    n.ActsFrom { n with relay := n.relay.mark origin seq st } :=
  n.relay_acts _ (n.relay.mark_plain ..) (Nat.le_refl _)

theorem Node.unwatch_acts (n : Node) (seq : Byte) : n.ActsFrom { n with relay := n.relay.unwatch seq } :=
  n.relay_acts _ rfl (removeFirst_length_le ..)

theorem Node.rewatch_acts (n : Node) (seq : Byte) (f : WatchEntry → WatchEntry) :
    n.ActsFrom { n with relay := n.relay.rewatch seq f } :=
  n.relay_acts _ rfl (Nat.le_of_eq (updateFirst_length ..))

theorem Node.suppress_acts (n : Node) (origin seq : Byte) : n.ActsFrom (n.suppress origin seq) := by
  unfold Node.suppress
  split
  · simp only []
    split
    · exact .refl n
    · exact (n.withdraw_acts origin seq).trans (Node.mark_acts _ origin seq .cancelled)
  · exact .refl n

theorem Node.takeEcho_acts (n : Node) (seq : Byte) : n.ActsFrom (n.takeEcho seq) := by
  unfold Node.takeEcho
  split
  · exact .refl n
  · split
    · exact .refl n
    · simp only []
      refine ((n.withdraw_acts n.cfg.address seq).trans ?_).trans (Node.deliver_acts _ _)
      split
      · exact Node.rewatch_acts _ seq _
      · exact Node.unwatch_acts _ seq
    · exact (n.unwatch_acts seq).trans (Node.deliver_acts _ _)

theorem Node.retry_acts (n : Node) (e : WatchEntry) (attempt : Nat) : n.ActsFrom (n.retry e attempt) := by
  unfold Node.retry
  simp only []
  split
  · exact ((n.offer_acts ..).trans (Node.rewatch_acts _ _ _)).trans (Node.deliver_acts _ _)
  · exact ((n.offer_acts ..).trans (Node.unwatch_acts _ _)).trans (Node.deliver_acts _ _)

theorem Node.missEcho_acts (n : Node) (e : WatchEntry) (expiry : Stamp) : n.ActsFrom (n.missEcho e expiry) := by
  have hmissed := n.deliver_acts [.echo false]
  unfold Node.missEcho
  simp only []
  split
  · exact hmissed.trans (Node.rewatch_acts _ _ _)
  · split
    · exact hmissed.trans (Node.retry_acts _ _ _)
    · exact (hmissed.trans (Node.unwatch_acts _ _)).trans (Node.deliver_acts _ _)

end Sys2Proof.Machine
end

section
/-! One change of the node after another, and what all of them keep: the invariants of the generator (R121), of the
active entries (R106), of the oscillator's work (R162), of the bounds, and of silence outside PATROL and RUN (R107,
R161, R167). -/

namespace Sys2Proof.Machine

/-! ## What a change keeps -/

/-- The oscillator's part in the work under way, before the oscillator follows a change of phase: `OscillatorServes`
without `awake`. -/
structure Node.Ready (n : Node) : Prop where
  stage : n.power.oscillator ≠ .running → n.sensing.stage = .idle ∨ n.sensing.stage = .settle
  receiver : n.power.oscillator ≠ .running → n.rx.state ≠ .assembling ∧ n.rx.state ≠ .flushing
  engine : n.power.oscillator ≠ .running →
    n.tx.engine ≠ .wait ∧ n.tx.engine ≠ .window ∧ n.tx.engine ≠ .sending ∧ n.tx.grid = none
  answer : n.power.oscillator ≠ .running → n.serial.tx ≠ .answer
  grid : n.tx.grid.isSome = true → n.rx.state ≠ .off
  owed : n.serial.tx = .answer → n.serial.answers ≠ []

theorem Node.OscillatorServes.ready {n : Node} (h : n.OscillatorServes) : n.Ready :=
  ⟨h.stage, h.receiver, h.engine, h.answer, h.grid, h.owed⟩

theorem Node.Ready.serves {n : Node} (h : n.Ready)
    (awake : n.power.phase = .run ∨ n.power.phase = .startUp → n.power.oscillator = .running) : n.OscillatorServes :=
  ⟨awake, h.stage, h.receiver, h.engine, h.answer, h.grid, h.owed⟩

/-- The invariants that hold of `n` hold of `t`. -/
structure Node.Leads (n t : Node) : Prop where
  rng : n.tx.rng ≠ 0 → t.tx.rng ≠ 0
  agrees : n.tx.activeAgrees → t.tx.activeAgrees
  ready : n.Ready → t.Ready
  bounded : n.Bounded → t.Bounded
  silent : n.Silent → t.Silent

theorem Node.Leads.refl (n : Node) : n.Leads n := ⟨id, id, id, id, id⟩

theorem Node.Leads.trans {a b c : Node} (h : a.Leads b) (k : b.Leads c) : a.Leads c where
  rng p := k.rng (h.rng p)
  agrees p := k.agrees (h.agrees p)
  ready p := k.ready (h.ready p)
  bounded p := k.bounded (h.bounded p)
  silent p := k.silent (h.silent p)

/-- A change that is made where it is due. -/
theorem Node.Leads.ite {n a b : Node} {c : Prop} [Decidable c] (ha : c → n.Leads a) (hb : ¬c → n.Leads b) :
    n.Leads (if c then a else b) := by
  split
  · next h => exact ha h
  · next h => exact hb h

/-- `t` is as `n` in all that the invariants speak of. -/
structure Node.SameCore (n t : Node) : Prop where
  tx : t.tx = n.tx
  rxState : t.rx.state = n.rx.state
  rxSlots : t.rx.slots = n.rx.slots
  phase : t.power.phase = n.power.phase
  oscillator : t.power.oscillator = n.power.oscillator
  stage : t.sensing.stage = n.sensing.stage
  serialTx : t.serial.tx = n.serial.tx
  answers : t.serial.answers = n.serial.answers
  panel : t.serial.panel.length = n.serial.panel.length
  seen : t.relay.seen = n.relay.seen
  watch : t.relay.watch.length = n.relay.watch.length
  origins : t.alarm.origins = n.alarm.origins
  entries : t.peers.entries = n.peers.entries
  lostSubjects : t.peers.lostSubjects = n.peers.lostSubjects
  ring : t.evidence.ring = n.evidence.ring
  link : t.link = n.link
  reading : t.loader.read.isSome = n.loader.read.isSome

theorem Node.active_eq_of_phase {n t : Node} (h : t.power.phase = n.power.phase) : t.active = n.active := by
  simp [Node.active, h]

theorem Node.SameCore.leads {n t : Node} (h : n.SameCore t) : n.Leads t where
  rng p := by rw [h.tx]; exact p
  agrees p := by rw [h.tx]; exact p
  ready p := by
    constructor
    · rw [h.oscillator, h.stage]; exact p.stage
    · rw [h.oscillator, h.rxState]; exact p.receiver
    · rw [h.oscillator, h.tx]; exact p.engine
    · rw [h.oscillator, h.serialTx]; exact p.answer
    · rw [h.tx, h.rxState]; exact p.grid
    · rw [h.serialTx, h.answers]; exact p.owed
  bounded p := by
    constructor
    · rw [h.tx]; exact p.queue
    · rw [h.seen]; exact p.seen
    · rw [h.seen]; exact p.copies
    · rw [h.watch]; exact p.watch
    · rw [h.origins]; exact p.origins
    · rw [h.entries]; exact p.entries
    · rw [h.lostSubjects]; exact p.lostSubjects
    · rw [h.lostSubjects]; exact p.lostOnce
    · rw [h.rxSlots]; exact p.slots
    · rw [h.panel]; exact p.panel
    · rw [h.ring]; exact p.ring
    · rw [h.link]; exact p.efc
    · rw [h.link]; exact p.rfc
  silent p := by
    have hact := Node.active_eq_of_phase h.phase
    constructor
    · rw [hact, h.tx]; exact p.queue
    · rw [hact, h.tx]; exact p.engine
    · rw [hact, h.tx]; exact p.onAir
    · rw [hact, h.rxState]; exact p.receiver
    · rw [hact, h.reading]; exact p.reading

/-- The queue's active entries agree with the engine after an offer or a withdrawal that finds them so. -/
theorem Transmitter.Served.agrees {t u : Transmitter} (h : t.Served u) (p : t.activeAgrees) : u.activeAgrees := by
  obtain ⟨hc, hs⟩ := p
  have hcont := h.active .contending rfl
  have hsend := h.active .sending rfl
  unfold inState at hcont hsend
  have hwin : (u.engine == .window) = (t.engine == .window) := by
    rcases h.engine with he | ⟨hi, he | ⟨he, -⟩⟩
    · rw [he]
    · rw [hi, he]; rfl
    · rw [hi, he]; rfl
  have hsending : (u.engine == .sending) = (t.engine == .sending) := by
    rcases h.engine with he | ⟨hi, he | ⟨he, -⟩⟩
    · rw [he]
    · rw [hi, he]; rfl
    · rw [hi, he]; rfl
  exact ⟨by rw [hcont, hwin]; exact hc, by rw [hsend, hsending]; exact hs⟩

theorem copies_of_plain {a b : List SeenEntry} (h : b.map SeenEntry.plain = a.map SeenEntry.plain)
    (p : ∀ e ∈ a, 1 ≤ e.copies ∧ e.copies ≤ 15) : ∀ e ∈ b, 1 ≤ e.copies ∧ e.copies ≤ 15 := by
  intro e he
  have hmem : e.plain ∈ a.map SeenEntry.plain := h ▸ List.mem_map_of_mem he
  obtain ⟨x, hx, hxe⟩ := List.mem_map.mp hmem
  have hcopies : x.plain.copies = e.plain.copies := congrArg SeenEntry.copies hxe
  exact (show x.copies = e.copies from hcopies) ▸ p x hx

/-- Acts of the alarm side, the queue and the Relay Engine keep every invariant. -/
theorem Node.ActsFrom.leads {n t : Node} (h : n.ActsFrom t) : n.Leads t where
  rng p := by rw [h.bounds.served.kept.rng]; exact p
  agrees p := h.bounds.served.agrees p
  ready p := by
    have hgrid := h.bounds.served.kept.grid
    constructor
    · rw [h.power, h.sensing]; exact p.stage
    · rw [h.power, h.rx]; exact p.receiver
    · rw [h.power, hgrid]
      intro ho
      obtain ⟨hwait, hwindow, hsending, hnone⟩ := p.engine ho
      rcases h.bounds.served.engine with he | ⟨-, he | ⟨-, he⟩⟩
      · rw [he]; exact ⟨hwait, hwindow, hsending, hnone⟩
      · rw [he]; exact ⟨nofun, nofun, nofun, hnone⟩
      · simp [hnone] at he
    · rw [h.power, h.serialTx]; exact p.answer
    · rw [hgrid, h.rx]; exact p.grid
    · rw [h.serialTx, h.serialAnswers]; exact p.owed
  bounded p := by
    constructor
    · exact h.bounds.served.length p.queue
    · have hlen := congrArg List.length h.bounds.seen
      simp only [List.length_map] at hlen
      rw [hlen]; exact p.seen
    · exact copies_of_plain h.bounds.seen p.copies
    · exact Nat.le_trans h.bounds.watch p.watch
    · exact h.origins p.origins
    · rw [h.peers]; exact p.entries
    · rw [h.peers]; exact p.lostSubjects
    · rw [h.peers]; exact p.lostOnce
    · rw [h.rx]; exact p.slots
    · exact h.bounds.panel p.panel
    · rw [h.evidence]; exact p.ring
    · exact h.bounds.efc p.efc
    · exact h.bounds.rfc p.rfc
  silent p := by
    have hact := h.bounds.active
    constructor
    · rw [hact]; exact fun ha => (h.bounds.idle ha).2 (p.queue ha)
    · rw [hact]; exact fun ha => (h.bounds.idle ha).1.trans (p.engine ha)
    · rw [hact, h.bounds.served.kept.onAir]; exact p.onAir
    · rw [hact, h.rx]; exact p.receiver
    · rw [hact, h.loader]; exact p.reading

/-! ## A change of one block -/

theorem Node.deliver_leads (n : Node) (ts : List Task) : n.Leads (n.deliver ts) := (n.deliver_acts ts).leads

/-- A change of the sensing path: a stage past SETTLE is reached on a running oscillator only (R162). -/
theorem Node.sensing_leads (n : Node) (s : Sensing)
    (h : n.power.oscillator ≠ .running → n.sensing.stage = .idle ∨ n.sensing.stage = .settle →
      s.stage = .idle ∨ s.stage = .settle) : n.Leads { n with sensing := s } where
  rng := id
  agrees := id
  ready p := ⟨fun ho => h ho (p.stage ho), p.receiver, p.engine, p.answer, p.grid, p.owed⟩
  bounded p := ⟨p.queue, p.seen, p.copies, p.watch, p.origins, p.entries, p.lostSubjects, p.lostOnce, p.slots, p.panel,
    p.ring, p.efc, p.rfc⟩
  silent p := ⟨p.queue, p.engine, p.onAir, p.receiver, p.reading⟩

theorem Node.evidence_leads (n : Node) (e : Evidence) (h : n.evidence.ring.length ≤ 8 → e.ring.length ≤ 8) :
    n.Leads { n with evidence := e } where
  rng := id
  agrees := id
  ready p := ⟨p.stage, p.receiver, p.engine, p.answer, p.grid, p.owed⟩
  bounded p := ⟨p.queue, p.seen, p.copies, p.watch, p.origins, p.entries, p.lostSubjects, p.lostOnce, p.slots, p.panel,
    h p.ring, p.efc, p.rfc⟩
  silent p := ⟨p.queue, p.engine, p.onAir, p.receiver, p.reading⟩

/-- A change of the Peer Table within its bounds (R45, R59). -/
theorem Node.peers_leads (n : Node) (p : PeerTable) (hentries : p.entries.length = n.peers.entries.length)
    (hlost : n.peers.lostSubjects.length ≤ 16 → p.lostSubjects.length ≤ 16)
    (honce : n.peers.lostSubjects.Nodup → p.lostSubjects.Nodup) : n.Leads { n with peers := p } where
  rng := id
  agrees := id
  ready q := ⟨q.stage, q.receiver, q.engine, q.answer, q.grid, q.owed⟩
  bounded q := ⟨q.queue, q.seen, q.copies, q.watch, q.origins, hentries.trans q.entries, hlost q.lostSubjects,
    honce q.lostOnce, q.slots, q.panel, q.ring, q.efc, q.rfc⟩
  silent q := ⟨q.queue, q.engine, q.onAir, q.receiver, q.reading⟩

/-- A change of the Relay Engine within its bounds (R138, R144). -/
theorem Node.relay_leads (n : Node) (r : RelayEngine) (hseen : n.relay.seen.length ≤ 24 → r.seen.length ≤ 24)
    (hcopies : (∀ e ∈ n.relay.seen, 1 ≤ e.copies ∧ e.copies ≤ 15) → ∀ e ∈ r.seen, 1 ≤ e.copies ∧ e.copies ≤ 15)
    (hwatch : n.relay.watch.length ≤ 4 → r.watch.length ≤ 4) : n.Leads { n with relay := r } where
  rng := id
  agrees := id
  ready q := ⟨q.stage, q.receiver, q.engine, q.answer, q.grid, q.owed⟩
  bounded q := ⟨q.queue, hseen q.seen, hcopies q.copies, hwatch q.watch, q.origins, q.entries, q.lostSubjects,
    q.lostOnce, q.slots, q.panel, q.ring, q.efc, q.rfc⟩
  silent q := ⟨q.queue, q.engine, q.onAir, q.receiver, q.reading⟩

/-- A change of the receiver's state and slots. -/
theorem Node.rx_leads (n : Node) (r : Receiver) (hslots : r.slots.length = n.rx.slots.length)
    (hoff : n.rx.state = .off ↔ r.state = .off)
    (hbusy : n.power.oscillator ≠ .running → n.rx.state ≠ .assembling ∧ n.rx.state ≠ .flushing →
      r.state ≠ .assembling ∧ r.state ≠ .flushing) :
    n.Leads { n with rx := r } where
  rng := id
  agrees := id
  ready q := ⟨q.stage, fun ho => hbusy ho (q.receiver ho), q.engine, q.answer,
    fun hg hr => q.grid hg (hoff.mpr hr), q.owed⟩
  bounded q := ⟨q.queue, q.seen, q.copies, q.watch, q.origins, q.entries, q.lostSubjects, q.lostOnce,
    hslots.trans q.slots, q.panel, q.ring, q.efc, q.rfc⟩
  silent q := ⟨q.queue, q.engine, q.onAir, fun ha => hoff.mp (q.receiver ha), q.reading⟩

/-- A change of the transmitter: what is in the engine's hands agrees, the work that needs the oscillator has it, and
outside PATROL and RUN nothing begins. -/
theorem Node.tx_leads (n : Node) (t : Transmitter) (hrng : n.tx.rng ≠ 0 → t.rng ≠ 0)
    (hagrees : n.tx.activeAgrees → t.activeAgrees)
    (hengine : n.power.oscillator ≠ .running →
      (n.tx.engine ≠ .wait ∧ n.tx.engine ≠ .window ∧ n.tx.engine ≠ .sending ∧ n.tx.grid = none) →
        t.engine ≠ .wait ∧ t.engine ≠ .window ∧ t.engine ≠ .sending ∧ t.grid = none)
    (hgrid : t.grid.isSome = true → n.tx.grid.isSome = true ∨ n.rx.state ≠ .off)
    (hqueue : n.tx.queue.length ≤ 8 → t.queue.length ≤ 8)
    (hsilent : n.active = false → n.rx.state = .off → n.tx.queue = [] → n.tx.engine = .idle → n.tx.onAir = none →
      t.queue = [] ∧ t.engine = .idle ∧ t.onAir = none) : n.Leads { n with tx := t } where
  rng := hrng
  agrees := hagrees
  ready q := ⟨q.stage, q.receiver, fun ho => hengine ho (q.engine ho), q.answer,
    fun hg => (hgrid hg).elim q.grid id, q.owed⟩
  bounded q := ⟨hqueue q.queue, q.seen, q.copies, q.watch, q.origins, q.entries, q.lostSubjects, q.lostOnce, q.slots,
    q.panel, q.ring, q.efc, q.rfc⟩
  silent q :=
    ⟨fun ha => (hsilent ha (q.receiver ha) (q.queue ha) (q.engine ha) (q.onAir ha)).1,
      fun ha => (hsilent ha (q.receiver ha) (q.queue ha) (q.engine ha) (q.onAir ha)).2.1,
      fun ha => (hsilent ha (q.receiver ha) (q.queue ha) (q.engine ha) (q.onAir ha)).2.2, q.receiver, q.reading⟩

/-- A change of the serial side: an answer being sent is owed, and its sending began on a running oscillator (R162). -/
theorem Node.serial_leads (n : Node) (s : Serial)
    (hanswer : n.power.oscillator ≠ .running → n.serial.tx ≠ .answer → s.tx ≠ .answer)
    (howed : (n.serial.tx = .answer → n.serial.answers ≠ []) → s.tx = .answer → s.answers ≠ [])
    (hpanel : n.serial.panel.length ≤ 32 → s.panel.length ≤ 32) : n.Leads { n with serial := s } where
  rng := id
  agrees := id
  ready q := ⟨q.stage, q.receiver, q.engine, fun ho => hanswer ho (q.answer ho), q.grid, howed q.owed⟩
  bounded q := ⟨q.queue, q.seen, q.copies, q.watch, q.origins, q.entries, q.lostSubjects, q.lostOnce, q.slots,
    hpanel q.panel, q.ring, q.efc, q.rfc⟩
  silent q := ⟨q.queue, q.engine, q.onAir, q.receiver, q.reading⟩

/-! ## What follows from a change of state -/

theorem Node.settleInterval_leads (n : Node) : n.Leads n.settleInterval := by
  unfold Node.settleInterval
  exact .ite (fun _ => .refl n) (fun _ => Node.SameCore.leads (by constructor <;> rfl))

/-- In PATROL and RUN only a read is kept out (R167, R168). -/
theorem Node.Silent.of_active {n : Node} (h : n.active = true) (hread : n.loader.read.isSome = true → False) :
    n.Silent :=
  ⟨fun ha => absurd ha (by simp [h]), fun ha => absurd ha (by simp [h]), fun ha => absurd ha (by simp [h]),
    fun ha => absurd ha (by simp [h]), fun hr => (hread hr).elim⟩

/-- Entry to RUN, from a state in PATROL or RUN: a receiver switched off loses the grid (R165, R166). -/
theorem Node.enterRun_leads (n : Node) (hact : n.active = true) : n.Leads n.enterRun := by
  have hnot : n.active ≠ false := by simp [hact]
  have hready : n.Ready → n.enterRun.Ready := fun q => by
    unfold Node.enterRun
    cases hc : (n.power.leftRun == some n.clock && n.power.runHold.isSome)
    · exact ⟨q.stage, q.receiver, q.engine, q.answer, q.grid, q.owed⟩
    · refine ⟨q.stage, fun _ => ⟨nofun, nofun⟩, fun ho => ?_, q.answer, nofun, q.owed⟩
      obtain ⟨hwait, hwindow, hsending, -⟩ := q.engine ho
      exact ⟨hwait, hwindow, hsending, rfl⟩
  exact
    { rng := id
      agrees := id
      ready := hready
      bounded := fun q => ⟨q.queue, q.seen, q.copies, q.watch, q.origins, q.entries, q.lostSubjects, q.lostOnce,
        by simpa [Node.enterRun_follows n |>.rxSlots] using q.slots, q.panel, q.ring, q.efc, q.rfc⟩
      silent := fun q => .of_active rfl (fun hr => hnot (q.reading hr)) }

/-- Entry to PATROL from RUN (R166). -/
theorem Node.enterPatrol_leads (n : Node) (hact : n.active = true) : n.Leads n.enterPatrol where
  rng := id
  agrees := id
  ready q := ⟨q.stage, q.receiver, q.engine, q.answer, q.grid, q.owed⟩
  bounded q := ⟨q.queue, q.seen, q.copies, q.watch, q.origins, q.entries, q.lostSubjects, q.lostOnce, q.slots,
    q.panel, q.ring, q.efc, q.rfc⟩
  silent q := .of_active rfl (fun hr => absurd (q.reading hr) (by simp [hact]))

theorem Node.settlePower_leads (n : Node) : n.Leads n.settlePower := by
  have hcause : n.Leads { n with power := { n.power with alarmCause := n.alarmSideCause } } :=
    Node.SameCore.leads (by constructor <;> rfl)
  unfold Node.settlePower
  simp only []
  split
  · next hp =>
    exact .ite (fun _ => hcause.trans (Node.enterRun_leads _ (by simp [Node.active, hp]))) (fun _ => hcause)
  · next hp =>
    exact .ite (fun _ => hcause) (fun _ => hcause.trans (Node.enterPatrol_leads _ (by simp [Node.active, hp])))
  · exact hcause

/-- The receiver is to be on in PATROL and RUN only (R164, R167). -/
theorem Node.rxWanted_active {n : Node} (h : n.rxWanted = true) : n.active = true := by
  unfold Node.rxWanted at h
  cases hp : n.power.phase <;> simp_all [Node.active]

theorem Node.switchRx_leads (n : Node) : n.Leads n.switchRx := by
  unfold Node.switchRx
  refine .ite (fun hw => ?_) (fun _ => ?_)
  · have hact := Node.rxWanted_active hw
    have hon : (if n.rx.carrier then RxState.syncHunt else .listening) ≠ .off ∧
        (if n.rx.carrier then RxState.syncHunt else .listening) ≠ .assembling ∧
        (if n.rx.carrier then RxState.syncHunt else .listening) ≠ .flushing := by
      cases n.rx.carrier <;> simp
    refine .ite (fun _ => ?_) (fun _ => .refl n)
    exact
      { rng := id
        agrees := id
        ready := fun q => ⟨q.stage, fun _ => hon.2, q.engine, q.answer, fun _ => hon.1, q.owed⟩
        bounded := fun q => ⟨q.queue, q.seen, q.copies, q.watch, q.origins, q.entries, q.lostSubjects, q.lostOnce,
          q.slots, q.panel, q.ring, q.efc, q.rfc⟩
        silent := fun q => .of_active hact (fun hr => absurd (q.reading hr) (by simp [hact])) }
  · refine .ite (fun _ => .refl n) (fun _ => ?_)
    exact
      { rng := id
        agrees := id
        ready := fun q => by
          refine ⟨q.stage, fun _ => ⟨nofun, nofun⟩, fun ho => ?_, q.answer, nofun, q.owed⟩
          obtain ⟨hwait, hwindow, hsending, -⟩ := q.engine ho
          exact ⟨hwait, hwindow, hsending, rfl⟩
        bounded := fun q => ⟨q.queue, q.seen, q.copies, q.watch, q.origins, q.entries, q.lostSubjects, q.lostOnce,
          q.slots, q.panel, q.ring, q.efc, q.rfc⟩
        silent := fun q => ⟨q.queue, q.engine, q.onAir, fun _ => rfl, q.reading⟩ }

/-- An engine that is neither in WINDOW nor SENDING before and after has nothing in its hands. -/
theorem Transmitter.activeAgrees_of_engine {t u : Transmitter} (hq : u.queue = t.queue)
    (ht : t.engine ≠ .window ∧ t.engine ≠ .sending) (hu : u.engine ≠ .window ∧ u.engine ≠ .sending)
    (h : t.activeAgrees) : u.activeAgrees := by
  unfold Transmitter.activeAgrees at h ⊢
  simpa [hq, ht, hu] using h

theorem Node.deferToCarrier_leads (n : Node) : n.Leads n.deferToCarrier := by
  unfold Node.deferToCarrier
  refine .ite (fun h => ?_) (fun _ => .refl n)
  simp only [Bool.and_eq_true, Bool.or_eq_true, beq_iff_eq] at h
  have hne : n.tx.engine ≠ .window ∧ n.tx.engine ≠ .sending ∧ n.tx.engine ≠ .idle := by
    rcases h.1.1 with he | he <;> simp [he]
  exact n.tx_leads _ id (Transmitter.activeAgrees_of_engine rfl ⟨hne.1, hne.2.1⟩ ⟨nofun, nofun⟩)
    (fun _ _ => ⟨nofun, nofun, nofun, rfl⟩) nofun id
    (fun _ _ _ he _ => absurd he hne.2.2)

theorem Node.settleOutputs_leads (n : Node) : n.Leads n.settleOutputs := Node.SameCore.leads (by constructor <;> rfl)

/-- A stopped oscillator has no claim: nothing that needs it is under way (R162). -/
theorem Node.settleOscillator_leads (n : Node) : n.Leads n.settleOscillator where
  rng := id
  agrees := id
  ready q := by
    have hosc : n.settleOscillator.power.oscillator =
        oscillatorAfter n.power.phase n.claimsNow.any n.loader.read.isSome n.power.oscillator := rfl
    by_cases hclaim : n.claimsNow.any = true
    · have hrun : n.settleOscillator.power.oscillator ≠ .running → n.power.oscillator ≠ .running := by
        intro h ho
        apply h
        rw [hosc, ho]
        simp [oscillatorAfter, hclaim]
      exact ⟨fun h => q.stage (hrun h), fun h => q.receiver (hrun h), fun h => q.engine (hrun h),
        fun h => q.answer (hrun h), q.grid, q.owed⟩
    · simp only [Claims.any, Node.claimsNow, Bool.or_eq_true, not_or, bne_iff_ne, ne_eq, not_not,
        Bool.not_eq_true] at hclaim
      obtain ⟨⟨⟨⟨⟨hrx, ⟨hstage, -⟩, -⟩, htx⟩, -, hans⟩, -⟩, -⟩ := hclaim
      have hgrid : n.tx.grid = none := by
        cases hg : n.tx.grid with
        | none => rfl
        | some g => exact absurd hrx (q.grid (by simp [hg]))
      have hans' : n.serial.answers = [] := by simpa using hans
      have hengine : n.tx.engine ≠ .wait ∧ n.tx.engine ≠ .window ∧ n.tx.engine ≠ .sending ∧ n.tx.grid = none := by
        cases he : n.tx.engine <;> simp_all [Engine.claims]
      exact ⟨fun _ => .inl hstage, fun _ => by simp [Node.settleOscillator, hrx], fun _ => hengine,
        fun _ ht => q.owed ht hans', q.grid, q.owed⟩
  bounded q := ⟨q.queue, q.seen, q.copies, q.watch, q.origins, q.entries, q.lostSubjects, q.lostOnce, q.slots,
    q.panel, q.ring, q.efc, q.rfc⟩
  silent q := ⟨q.queue, q.engine, q.onAir, q.receiver, q.reading⟩

/-- The line transmitter begins to send an answer only where one is owed. -/
theorem Serial.kick_owed (s : Serial) (h : s.tx = .answer → s.answers ≠ []) :
    s.kick.tx = .answer → s.kick.answers ≠ [] := by
  unfold Serial.kick
  split
  · exact h
  · split
    · next ha => exact fun _ => by simpa using ha
    · split
      · exact h
      · rintro ⟨⟩

theorem Serial.kick_panel_length (s : Serial) : s.kick.panel.length = s.panel.length := by
  unfold Serial.kick
  split
  · rfl
  · split
    · rfl
    · split
      · rfl
      · next hp => simp [hp]

theorem Node.settleSerial_leads (n : Node) : n.Leads n.settleSerial := by
  unfold Node.settleSerial
  refine .ite (fun _ => .refl n) (fun h => ?_)
  simp only [Bool.or_eq_true, not_or, bne_iff_ne, ne_eq, not_not] at h
  exact n.serial_leads _ (fun ho => absurd h.2 ho) n.serial.kick_owed
    (by rw [Serial.kick_panel_length]; exact id)

/-- Settling keeps every invariant. -/
theorem Node.settle_leads (n : Node) : n.Leads n.settle :=
  (((((n.settleInterval_leads.trans (Node.settlePower_leads _)).trans (Node.switchRx_leads _)).trans
    (Node.deferToCarrier_leads _)).trans (Node.settleOutputs_leads _)).trans (Node.settleOscillator_leads _)).trans
    (Node.settleSerial_leads _)

theorem Node.wake_leads (n : Node) : n.Leads n.wake := by
  unfold Node.wake
  exact .ite (fun _ => Node.SameCore.leads (by constructor <;> rfl)) (fun _ => .refl n)

/-! ## How a command ends -/

/-- The oscillator runs throughout RUN and START-UP (R162). -/
def Node.Awake (n : Node) : Prop :=
  n.power.phase = .run ∨ n.power.phase = .startUp → n.power.oscillator = .running

theorem Node.settleOscillator_awake (n : Node) : n.settleOscillator.Awake := by
  intro h
  show oscillatorAfter n.power.phase _ _ _ = _
  rcases h with h | h
  · rw [show n.power.phase = .run from h]; rfl
  · rw [show n.power.phase = .startUp from h]; rfl

theorem Node.settle_awake (n : Node) : n.settle.Awake := by
  unfold Node.Awake Node.settle
  rw [Node.settleSerial_power]
  exact Node.settleOscillator_awake _

/-- The invariants that hold of `n` hold of `t`, which a command ends in. -/
structure Node.EndsIn (n t : Node) : Prop where
  leads : n.Leads t
  awake : n.Awake → t.Awake

theorem Node.EndsIn.refl (n : Node) : n.EndsIn n := ⟨.refl n, id⟩

theorem Node.EndsIn.serves {n t : Node} (h : n.EndsIn t) (p : n.OscillatorServes) : t.OscillatorServes :=
  (h.leads.ready p.ready).serves (h.awake p.awake)

/-- A command that settles. -/
theorem Node.Leads.settled {n m : Node} (h : n.Leads m) : n.EndsIn m.settle :=
  ⟨h.trans m.settle_leads, fun _ => m.settle_awake⟩

theorem Node.Leads.settledWoken {n m : Node} (h : n.Leads m) : n.EndsIn m.settleWoken :=
  (h.trans m.wake_leads).settled

theorem Node.Leads.woken {n m : Node} (h : n.Leads m) : n.EndsIn m.woken :=
  ⟨(h.trans m.wake_leads).trans (Node.settleOscillator_leads _), fun _ => Node.settleOscillator_awake _⟩

/-- A command that leaves the power state and the oscillator as they are. -/
theorem Node.Leads.kept {n m : Node} (h : n.Leads m) (hp : m.power = n.power) : n.EndsIn m :=
  ⟨h, fun ha => by unfold Node.Awake; rw [hp]; exact ha⟩

theorem Node.EndsIn.ite {n a b : Node} {c : Prop} [Decidable c] (ha : c → n.EndsIn a) (hb : ¬c → n.EndsIn b) :
    n.EndsIn (if c then a else b) := by
  split
  · next h => exact ha h
  · next h => exact hb h

end Sys2Proof.Machine
end

section
/-! What each block's operations keep of the invariants, block by block. -/

namespace Sys2Proof.Machine

/-! ## The sensing path (chapter 1) -/

/-- A stage that comes of another without the oscillator: the same, or one no further than SETTLE (R162). -/
def Stage.NoFurther (a b : Stage) : Prop := b = a ∨ b = .idle ∨ b = .settle

theorem Stage.NoFurther.refl (a : Stage) : a.NoFurther a := .inl rfl

theorem Stage.NoFurther.trans {a b c : Stage} (h : a.NoFurther b) (k : b.NoFurther c) : a.NoFurther c := by
  rcases k with rfl | k
  · exact h
  · exact .inr k

@[simp] theorem Sensing.setBuf_stage (s : Sensing) (i : Bool) (b : Buffer) : (s.setBuf i b).stage = s.stage := by
  cases i <;> rfl

@[simp] theorem Sensing.markBuf_stage (s : Sensing) (i : Bool) (st : BufferState) :
    (s.markBuf i st).stage = s.stage := by simp [Sensing.markBuf]

@[simp] theorem Sensing.beginCopy_stage (s : Sensing) (role : Role) : (s.beginCopy role).stage = s.stage := by
  unfold Sensing.beginCopy
  split
  · rfl
  · split
    · simp
    · split
      · simp
      · rfl

theorem Sensing.startCycle_stage (s : Sensing) (role : Role) :
    (s.startCycle role).stage = .idle ∨ (s.startCycle role).stage = .settle := by
  unfold Sensing.startCycle
  simp only []
  split
  · exact .inl rfl
  · exact .inr rfl

theorem Sensing.request_stage (s : Sensing) (role : Role) : s.stage.NoFurther (s.request role).stage := by
  unfold Sensing.request
  split
  · exact .inr (s.startCycle_stage role)
  · exact .refl _

theorem Sensing.endCycle_stage (s : Sensing) (role : Role) :
    (s.endCycle role).stage = .idle ∨ (s.endCycle role).stage = .settle := by
  unfold Sensing.endCycle
  simp only []
  split
  · exact Sensing.startCycle_stage ..
  · simp

theorem Sensing.grantWrites_stage (s : Sensing) (role : Role) : s.stage.NoFurther (s.grantWrites role).stage := by
  unfold Sensing.grantWrites
  cases s.stampWaiting with
  | none =>
    simp only []
    split
    · exact .refl _
    · split
      · exact .inr (Sensing.endCycle_stage ..)
      · simp [Stage.NoFurther]
  | some t =>
    simp only [Sensing.setBuf_stage]
    split
    · exact .inl (by simp)
    · split
      · exact .inr (Sensing.endCycle_stage ..)
      · exact .inl (by simp)

theorem Sensing.requestPort_stage (s : Sensing) (role : Role) : s.stage.NoFurther (s.requestPort role).stage := by
  unfold Sensing.requestPort
  split
  · exact .refl _
  · exact s.grantWrites_stage role

theorem Sensing.deliverResult_stage (s : Sensing) (role : Role) (input : Int) :
    s.stage.NoFurther (s.deliverResult role input).stage := by
  unfold Sensing.deliverResult
  split
  · exact .refl _
  · split
    · exact .refl _
    · exact Sensing.requestPort_stage ..

theorem Sensing.fireOneShot_stage (s : Sensing) : s.fireOneShot.stage = s.stage := by
  unfold Sensing.fireOneShot; split <;> rfl

theorem Sensing.emittersOff_stage (s : Sensing) (role : Role) : (s.emittersOff role).stage = s.stage := by
  unfold Sensing.emittersOff; split <;> rfl

@[simp] theorem Sensing.placeInput_stage (s : Sensing) (role : Role) (r : SampleRecord) :
    (s.placeInput role r).stage = s.stage := by
  unfold Sensing.placeInput; split <;> rfl

theorem Node.sensing_leads_of_stage (n : Node) (s : Sensing) (h : n.sensing.stage.NoFurther s.stage) :
    n.Leads { n with sensing := s } := by
  refine n.sensing_leads s fun _ hn => ?_
  rcases h with h | h
  · rw [h]; exact hn
  · exact h

theorem Node.takeRecord_leads (n : Node) : n.Leads n.takeRecord := by
  unfold Node.takeRecord
  split
  · exact Node.SameCore.leads (by constructor <;> rfl)
  · exact .refl n

theorem Node.takeVb_leads (n : Node) (vb : Option Nat) : n.Leads (n.takeVb vb) := by
  unfold Node.takeVb
  split
  · exact .refl n
  · refine .trans ?_ (Node.deliver_leads _ _)
    exact Node.SameCore.leads (by constructor <;> rfl)

theorem Node.copyField_leads (n : Node) : n.Leads n.copyField := by
  unfold Node.copyField
  split
  · exact .refl n
  · simp only []
    split
    · exact n.sensing_leads_of_stage _ (Sensing.grantWrites_stage { n.sensing with mover := _ } _)
    · refine .trans (.trans ?_ (Node.takeVb_leads _ _)) (Node.takeRecord_leads _)
      refine n.sensing_leads_of_stage _ ?_
      rw [Sensing.beginCopy_stage]
      exact Stage.NoFurther.trans (.inl (by simp)) (Sensing.grantWrites_stage ..)

/-! ## The Evidence Unit (chapter 2) -/

/-- The heat ring holds at most 8 entries (R34). -/
theorem ringWith_length (ring : List RingEntry) (e : RingEntry) (h : ring.length ≤ 8) :
    (ringWith ring e).length ≤ 8 := by
  have hkept : ∀ kept : List RingEntry, kept.length ≤ 8 →
      ((if 8 ≤ kept.length then kept.drop 1 else kept) ++ [e]).length ≤ 8 := by
    intro kept hk
    split
    · simp only [List.length_append, List.length_drop, List.length_singleton]; omega
    · simp only [List.length_append, List.length_singleton]; omega
  unfold ringWith
  refine hkept _ ?_
  split
  · exact Nat.zero_le _
  · split
    · exact Nat.zero_le _
    · exact h

theorem opticalLane_ring (gain : Nat) (quiet : Bool) (e : Evidence) (r : SampleRecord) :
    (opticalLane gain quiet e r).ring = e.ring := by
  unfold opticalLane; split <;> rfl

theorem evidenceAfter_ring_length (cfg : Image) (quiet : Bool) (e : Evidence) (r : SampleRecord)
    (h : e.ring.length ≤ 8) : (evidenceAfter cfg quiet e r).ring.length ≤ 8 := by
  show (thermalLane cfg.heatFloor (opticalLane cfg.gain quiet e r) r).ring.length ≤ 8
  unfold thermalLane
  split
  · exact ringWith_length _ _ (by rw [opticalLane_ring]; exact h)
  · rw [opticalLane_ring]; exact h

theorem Node.publish_leads (n : Node) : n.Leads n.publish := by
  cases h : n.evidence.inHand with
  | none => unfold Node.publish; rw [h]; exact .refl n
  | some r =>
    rw [n.publish_eq r h]
    refine .trans (.trans (.trans ?_ (Node.deliver_leads _ _)) (Node.takeResult_acts _ _).leads)
      (Node.takeRecord_leads _)
    exact n.evidence_leads _ (evidenceAfter_ring_length _ _ _ _)

/-! ## The Peer Table (chapter 3) -/

theorem Node.conflict_leads (n : Node) : n.Leads n.conflict := by
  unfold Node.conflict
  refine .trans ?_ (Node.deliver_leads _ _)
  exact n.peers_leads _ rfl id id

theorem Node.checkLostSubject_leads (n : Node) (sender : Byte) : n.Leads (n.checkLostSubject sender) := by
  unfold Node.checkLostSubject
  refine .ite (fun _ => ?_) (fun _ => .refl n)
  refine .trans ?_ (Node.deliver_leads _ _)
  exact n.peers_leads _ rfl (Nat.le_trans (List.length_filter_le ..)) (List.Nodup.filter _)

/-- A frame taken into the table changes entries in their places, and no lost subject (R48, R55). -/
theorem PeerTable.take_keeps (t : PeerTable) (own : Byte) (zone : ZoneCode) (now : Stamp) (level : Nat) (f : Frame) :
    (t.take own zone now level f).1.entries.length = t.entries.length ∧
      (t.take own zone now level f).1.lostSubjects = t.lostSubjects := by
  unfold PeerTable.take
  split
  · split
    · exact ⟨rfl, rfl⟩
    · exact ⟨setAt_length .., rfl⟩
  · split
    · exact ⟨rfl, rfl⟩
    · exact ⟨setAt_length .., rfl⟩

theorem Node.observe_leads (n : Node) (level : Nat) (f : Frame) : n.Leads (n.observe level f) := by
  unfold Node.observe
  refine .ite (fun _ => .refl n) (fun _ => .ite (fun _ => n.conflict_leads) (fun _ => ?_))
  obtain ⟨hlen, hlost⟩ :=
    (n.checkLostSubject f.hdr.sender).peers.take_keeps n.cfg.address n.cfg.zone n.clock level f
  have htaken : n.Leads { n.checkLostSubject f.hdr.sender with
      peers := if f.lists n.cfg.address then
          { ((n.checkLostSubject f.hdr.sender).peers.take n.cfg.address n.cfg.zone n.clock level f).1 with
            listed := true }
        else ((n.checkLostSubject f.hdr.sender).peers.take n.cfg.address n.cfg.zone n.clock level f).1 } := by
    refine (n.checkLostSubject_leads f.hdr.sender).trans (Node.peers_leads _ _ ?_ ?_ ?_)
    · split <;> exact hlen
    · split <;> exact fun h => hlost ▸ h
    · split <;> exact fun h => hlost ▸ h
  exact .ite (fun _ => htaken.trans (Node.reevaluate_acts _).leads) (fun _ => htaken)

/-- The lost-subject list holds at most 16, each once (R59). -/
theorem Node.recordLost_leads (n : Node) (address : Byte) : n.Leads (n.recordLost address) := by
  unfold Node.recordLost
  refine .ite (fun _ => .refl n) (fun hnew => ?_)
  refine .trans ?_ (Node.deliver_leads _ _)
  have hmem : address ∉ n.peers.lostSubjects := by simpa using hnew
  by_cases hfull : 16 ≤ n.peers.lostSubjects.length
  · simp only [hfull, decide_true, if_true]
    refine n.peers_leads _ rfl (fun h => ?_) (fun h => ?_)
    · simp only [List.length_append, List.length_drop, List.length_singleton]; omega
    · exact List.Nodup.append (h.sublist (List.drop_sublist 1 _)) (by simp) (by
        simpa using fun hm => hmem (List.mem_of_mem_tail hm))
  · simp only [hfull, decide_false, Bool.false_eq_true, if_false]
    refine n.peers_leads _ rfl (fun h => ?_) (fun h => ?_)
    · simp only [List.length_append, List.length_singleton]; omega
    · exact h.append (by simp) (by simpa using hmem)

theorem Node.foldl_recordLost_leads (xs : List (Nat × Peer)) : ∀ n : Node,
    n.Leads (xs.foldl (fun m x => m.recordLost x.2.address) n) := by
  induction xs with
  | nil => exact fun n => .refl n
  | cons x xs ih => exact fun n => (n.recordLost_leads x.2.address).trans (ih _)

theorem Node.conflictPeriod_leads (n : Node) : n.Leads n.conflictPeriod := by
  unfold Node.conflictPeriod
  refine .ite (fun _ => .ite (fun _ => ?_) (fun _ => n.peers_leads _ rfl id id)) (fun _ => n.peers_leads _ rfl id id)
  refine .trans ?_ (Node.deliver_leads _ _)
  exact n.peers_leads _ rfl id id

/-! ## The random generator (R121) -/

/-- A bit shifted out of the generator comes back into it: a step takes no value to 0. -/
theorem rngStep_ne_zero (r : BitVec 16) (h : r ≠ 0) : rngStep r ≠ 0 := by
  intro hz
  have hbits : ∀ i, (rngStep r).getLsbD i = false := fun i => by rw [hz]; simp
  have hlow : ∀ i, i < 15 → r.getLsbD i = false := by
    intro i hi
    have hshifted := hbits (i + 1)
    rw [rngStep, BitVec.getLsbD_or, Bool.or_eq_false_iff, BitVec.getLsbD_shiftLeft] at hshifted
    simpa [show i + 1 < 16 by omega] using hshifted.1
  have htop : r.getLsbD 15 = false := by
    have hin := hbits 0
    rw [rngStep, BitVec.getLsbD_or, Bool.or_eq_false_iff, hlow 13 (by omega), hlow 12 (by omega),
      hlow 10 (by omega)] at hin
    cases ht : r.getLsbD 15 with
    | false => rfl
    | true => rw [ht] at hin; exact absurd hin.2 (by decide)
  apply h
  apply BitVec.eq_of_getLsbD_eq
  intro i hi
  rcases Nat.lt_or_eq_of_le (Nat.le_of_lt_succ hi) with hlt | rfl
  · simpa using hlow i hlt
  · simpa using htop

theorem rngDraw_ne_zero (r : BitVec 16) (h : r ≠ 0) : rngDraw r ≠ 0 := by
  unfold rngDraw
  have hfold : ∀ (l : List Nat) (x : BitVec 16), x ≠ 0 → l.foldl (fun x _ => rngStep x) x ≠ 0 := by
    intro l
    induction l with
    | nil => exact fun _ hx => hx
    | cons _ _ ih => exact fun x hx => ih _ (rngStep_ne_zero x hx)
  exact hfold _ r h

/-- A change of the generator and the beacon schedule. -/
theorem Node.rng_leads (n : Node) (t : Transmitter) (hrng : n.tx.rng ≠ 0 → t.rng ≠ 0) (hq : t.queue = n.tx.queue)
    (he : t.engine = n.tx.engine) (hg : t.grid = n.tx.grid) (ha : t.onAir = n.tx.onAir) :
    n.Leads { n with tx := t } :=
  n.tx_leads t hrng (by unfold Transmitter.activeAgrees; rw [hq, he]; exact id) (by rw [he, hg]; exact fun _ h => h)
    (by rw [hg]; exact .inl) (by rw [hq]; exact id) (by rw [hq, he, ha]; exact fun _ _ h k l => ⟨h, k, l⟩)

theorem Node.draw_leads (n : Node) : n.Leads n.draw := n.rng_leads _ (rngDraw_ne_zero _) rfl rfl rfl rfl

theorem Node.scheduleBeacons_leads (n : Node) : n.Leads n.scheduleBeacons :=
  n.rng_leads _ (rngDraw_ne_zero _) rfl rfl rfl rfl

theorem Node.startPeriod_leads (n : Node) : n.Leads n.startPeriod := by
  unfold Node.startPeriod
  refine .trans ?_ (Node.scheduleBeacons_leads _)
  exact n.peers_leads _ rfl id id

/-- A period end, after the supervision of the entries (R57, R62). -/
def Node.supervised (n : Node) : Node :=
  { n with
    peers := { n.peers with
      entries := n.peers.entries.map (fun e => e.map (fun p => p.supervise.agePv n.clock))
      lossOrder := n.peers.lossOrder ++ (n.peers.falling n.clock).map (fun x => x.1) } }

/-- A period end, after the two-way entries that became LOST are recorded (R59). -/
def Node.lossesRecorded (n : Node) : Node :=
  ((n.peers.falling n.clock).filter (fun x => x.2.twoWay)).foldl (fun m x => m.recordLost x.2.address) n.supervised

/-- A node whose beacon-listing flag is cleared (R61). -/
def Node.unlisted (n : Node) : Node := { n with peers := { n.peers with listed := false } }

/-- The parts of a period end, one after another (R56). -/
theorem Node.endPeriod_eq (n : Node) :
    n.endPeriod = (n.lossesRecorded.conflictPeriod.unlisted.deliver
      [.echo n.lossesRecorded.conflictPeriod.peers.listed]).startPeriod := rfl

theorem Node.endPeriod_leads (n : Node) : n.Leads n.endPeriod := by
  have hsupervised : n.Leads n.supervised := n.peers_leads _ (by simp) id id
  have hrecorded : n.Leads n.lossesRecorded := hsupervised.trans (Node.foldl_recordLost_leads _ _)
  have hjudged := hrecorded.trans n.lossesRecorded.conflictPeriod_leads
  have hunlisted := hjudged.trans (n.lossesRecorded.conflictPeriod.peers_leads
    { n.lossesRecorded.conflictPeriod.peers with listed := false } rfl id id)
  rw [n.endPeriod_eq]
  exact (hunlisted.trans (Node.deliver_leads _ _)).trans (Node.startPeriod_leads _)

/-! ## Resets, reads and the start (chapter 11) -/

/-- A node whose transmitter is as after a reset: at rest, with a generator that is not 0 where it was not. -/
structure Node.AtRest (n t : Node) : Prop where
  rng : n.tx.rng ≠ 0 → t.tx.rng ≠ 0
  queue : t.tx.queue = []
  engine : t.tx.engine = .idle
  grid : t.tx.grid = none
  onAir : t.tx.onAir = none
  rx : t.rx.state = .off
  slots : t.rx.slots.length = 4
  stage : t.sensing.stage = .idle
  serialTx : t.serial.tx = .idle
  panel : t.serial.panel = []
  seen : t.relay.seen = []
  watch : t.relay.watch = []
  origins : t.alarm.origins = []
  entries : t.peers.entries.length = 16
  lostSubjects : t.peers.lostSubjects = []
  ring : t.evidence.ring = []
  efc : t.link.efc = 0
  rfc : t.link.rfc = 0
  active : t.active = false

theorem Node.AtRest.leads {n t : Node} (h : n.AtRest t) : n.Leads t where
  rng := h.rng
  agrees _ := by simp [Transmitter.activeAgrees, h.queue, h.engine]
  ready _ := by
    refine ⟨fun _ => .inl h.stage, ?_, ?_, ?_, ?_, ?_⟩ <;>
      simp [h.rx, h.engine, h.grid, h.serialTx]
  bounded _ := by
    constructor <;> simp [h.queue, h.seen, h.watch, h.origins, h.entries, h.lostSubjects, h.slots, h.panel, h.ring,
      h.efc, h.rfc]
  silent _ := ⟨fun _ => h.queue, fun _ => h.engine, fun _ => h.onAir, fun _ => h.rx, fun _ => h.active⟩

theorem Node.repower_leads (n : Node) : n.Leads n.repower :=
  Node.AtRest.leads
    { rng := fun _ => nofun, queue := rfl, engine := rfl, grid := rfl, onAir := rfl, rx := rfl, slots := rfl,
      stage := rfl, serialTx := rfl, panel := rfl, seen := rfl, watch := rfl, origins := rfl, entries := rfl,
      lostSubjects := rfl, ring := rfl, efc := rfl, rfc := rfl, active := rfl }

theorem Node.restart_leads (n : Node) : n.Leads n.restart :=
  Node.AtRest.leads
    { rng := id, queue := rfl, engine := rfl, grid := rfl, onAir := rfl, rx := rfl, slots := rfl,
      stage := rfl, serialTx := rfl, panel := rfl, seen := rfl, watch := rfl, origins := rfl, entries := rfl,
      lostSubjects := rfl, ring := rfl, efc := rfl, rfc := rfl, active := rfl }

theorem Node.park_leads (n : Node) : n.Leads n.park :=
  Node.AtRest.leads
    { rng := id, queue := rfl, engine := rfl, grid := rfl, onAir := rfl, rx := rfl, slots := rfl,
      stage := rfl, serialTx := rfl, panel := rfl, seen := rfl, watch := rfl, origins := rfl, entries := rfl,
      lostSubjects := rfl, ring := rfl, efc := rfl, rfc := rfl, active := rfl }

/-- A read that ends refused was in progress outside PATROL and RUN (R168, R178). -/
theorem Node.refuse_leads (n : Node) (c : ReadCause) (h : n.loader.read.isSome = true) : n.Leads (n.refuse c) where
  rng := id
  agrees := id
  ready q := ⟨q.stage, q.receiver, q.engine, q.answer, q.grid, q.owed⟩
  bounded q := ⟨q.queue, q.seen, q.copies, q.watch, q.origins, q.entries, q.lostSubjects, q.lostOnce, q.slots,
    q.panel, q.ring, q.efc, q.rfc⟩
  silent q := ⟨fun _ => q.queue (q.reading h), fun _ => q.engine (q.reading h), fun _ => q.onAir (q.reading h),
    fun _ => q.receiver (q.reading h), nofun⟩

/-- The generator is seeded with an address that is not 0 in its upper half (R121). -/
theorem seed_ne_zero (address noise : Byte) (h : address ≠ 0) : address ++ noise ≠ (0 : BitVec 16) := by
  intro hz
  apply h
  have hval := congrArg BitVec.toNat hz
  rw [BitVec.toNat_append] at hval
  have hle : address.toNat <<< 8 ≤ 0 := Nat.le_trans Nat.left_le_or (Nat.le_of_eq hval)
  rw [Nat.shiftLeft_eq] at hle
  exact BitVec.eq_of_toNat_eq (by simp only [BitVec.ofNat_eq_ofNat, BitVec.toNat_ofNat]; omega)

theorem Node.seed_leads (n : Node) (address noise : Byte) (h : address ≠ 0) : n.Leads (n.seed address noise) := by
  have htx := n.rng_leads { n.tx with rng := rngDraw (address ++ noise) }
    (fun _ => rngDraw_ne_zero _ (seed_ne_zero address noise h)) rfl rfl rfl rfl
  exact htx.trans (Node.SameCore.leads (by constructor <;> rfl))

/-- The start of a node (R168, R179). -/
theorem Node.start_leads (n : Node) (img : Image) (clamps : List Nat) (noise : Byte) (h : img.address ≠ 0) :
    n.Leads (n.start img clamps noise) := by
  unfold Node.start
  refine .trans (.trans (.trans ?_ (Node.seed_leads _ _ noise h)) (Node.startPeriod_leads _)) (Node.deliver_leads _ _)
  exact
    { rng := id
      agrees := id
      ready := fun q => ⟨q.stage, q.receiver, q.engine, q.answer, q.grid, q.owed⟩
      bounded := fun q => ⟨q.queue, q.seen, q.copies, q.watch, q.origins, q.entries, q.lostSubjects, q.lostOnce,
        q.slots, q.panel, q.ring, q.efc, q.rfc⟩
      silent := fun _ => .of_active (by unfold Node.active Power.started; cases img.role <;> rfl) nofun }

theorem Node.leaveDormant_leads (n : Node) : n.Leads n.leaveDormant := by
  have htx := n.rng_leads { n.tx with oneHop := 0 } id rfl rfl rfl rfl
  exact htx.trans (Node.SameCore.leads (by constructor <;> rfl))

/-- An image with the address 0 is refused (Table 11-2). -/
theorem judgeImage_address {bs : List Byte} {img : Image} {clamps : List Nat}
    (h : judgeImage bs = .ok (img, clamps)) : img.address ≠ 0 := by
  unfold judgeImage at h
  simp only [] at h
  split at h
  · cases h
  · split at h
    · cases h
    · split at h
      · cases h
      · next hf =>
        split at h
        · cases h
        · obtain ⟨rfl, -⟩ := Prod.mk.inj (Except.ok.inj h)
          intro hz
          apply hf
          have : imageByte bs 2 = 0 := congrArg BitVec.toNat hz
          simp [this]

theorem Node.attemptEnds_leads (n : Node) (r : Reading) (read : Option (List Byte)) (noise : Byte)
    (h : n.loader.read = some r) : n.Leads (n.attemptEnds r read noise) := by
  have hread : n.loader.read.isSome = true := by rw [h]; rfl
  unfold Node.attemptEnds
  split
  · exact .ite (fun _ => n.refuse_leads _ hread)
      (fun _ => Node.SameCore.leads (by constructor <;> first | rfl | exact hread.symm))
  · split
    · exact n.refuse_leads _ hread
    · next hj =>
      have haddr := judgeImage_address hj
      exact .ite (fun _ => n.leaveDormant_leads.trans (Node.start_leads _ _ _ _ haddr))
        (fun _ => n.start_leads _ _ _ haddr)

/-- An exit request starts a read, outside PATROL and RUN (R168). -/
theorem Node.requestExit_leads (n : Node) (h : n.active = false) : n.Leads n.requestExit := by
  unfold Node.requestExit
  refine .ite (fun _ => .refl n) (fun _ => ?_)
  exact
    { rng := id
      agrees := id
      ready := fun q => ⟨q.stage, q.receiver, q.engine, q.answer, q.grid, q.owed⟩
      bounded := fun q => ⟨q.queue, q.seen, q.copies, q.watch, q.origins, q.entries, q.lostSubjects, q.lostOnce,
        q.slots, q.panel, q.ring, q.efc, q.rfc⟩
      silent := fun q => ⟨q.queue, q.engine, q.onAir, q.receiver, fun _ => h⟩ }

end Sys2Proof.Machine
end

section
/-! What the engine, the receiver and the serial line keep of the invariants. -/

namespace Sys2Proof.Machine

/-! ## The engine (chapter 6) -/

theorem activeAgrees_iff (t : Transmitter) :
    t.activeAgrees ↔ inState .contending t.queue = (if t.engine = .window then 1 else 0) ∧
      inState .sending t.queue = (if t.engine = .sending then 1 else 0) := by
  unfold Transmitter.activeAgrees inState
  cases t.engine <;> exact Iff.rfl

/-- A change of the transmitter that leaves the queue, the engine and what is on the air, and at most loses the grid. -/
theorem Node.txAside_leads (n : Node) (t : Transmitter) (hrng : t.rng = n.tx.rng) (hq : t.queue = n.tx.queue)
    (he : t.engine = n.tx.engine) (hg : t.grid = n.tx.grid ∨ t.grid = none) (ha : t.onAir = n.tx.onAir) :
    n.Leads { n with tx := t } := by
  refine n.tx_leads t (hrng ▸ id) (by unfold Transmitter.activeAgrees; rw [hq, he]; exact id) (fun _ h => ?_) ?_
    (hq ▸ id) (by rw [hq, he, ha]; exact fun _ _ h k l => ⟨h, k, l⟩)
  · rw [he]
    refine ⟨h.1, h.2.1, h.2.2.1, ?_⟩
    rcases hg with hg | hg
    · exact hg.trans h.2.2.2
    · exact hg
  · rcases hg with hg | hg
    · rw [hg]; exact .inl
    · rw [hg]; exact nofun

theorem Engine.comesToBoundary_cases {e : Engine} (h : e.comesToBoundary = true) :
    e = .gap ∨ e = .wait ∨ e = .deferred := by
  cases e <;> simp_all [Engine.comesToBoundary]

/-- An engine that comes to a boundary has nothing in its hands, and is not at rest. -/
theorem Engine.comesToBoundary_ne {e : Engine} (h : e.comesToBoundary = true) :
    e ≠ .idle ∧ e ≠ .window ∧ e ≠ .sending := by
  cases e <;> simp_all [Engine.comesToBoundary]

/-- The synthesiser unlocked at a boundary (R119). -/
theorem Node.faultRadio_leads (n : Node) (h : n.tx.engine.comesToBoundary = true) : n.Leads n.faultRadio := by
  have hne := Engine.comesToBoundary_ne h
  unfold Node.faultRadio
  refine .trans ?_ (Node.deliver_leads _ _)
  exact n.tx_leads _ id (Transmitter.activeAgrees_of_engine rfl hne.2 ⟨nofun, nofun⟩)
    (fun _ h => ⟨nofun, nofun, nofun, h.2.2.2⟩) .inl id (fun _ _ _ he _ => absurd he hne.1)

theorem Node.rest_leads (n : Node) (h : n.tx.engine.comesToBoundary = true) :
    n.Leads { n with tx := n.tx.rest } := by
  have hne := Engine.comesToBoundary_ne h
  exact n.tx_leads _ id (Transmitter.activeAgrees_of_engine rfl hne.2 ⟨nofun, nofun⟩)
    (fun _ h => ⟨nofun, nofun, nofun, h.2.2.2⟩) .inl id (fun _ _ _ he _ => absurd he hne.1)

/-- The candidate waits (R112). -/
theorem candidateIndex_spec (queue : List TxEntry) (i : Nat) (h : candidateIndex queue = some i) :
    ∃ a e b, queue = a ++ e :: b ∧ i = a.length ∧ e.state = .waiting := by
  unfold candidateIndex at h
  simp only [] at h
  split at h
  · cases h
  · split at h
    · next j hj =>
      cases h
      obtain ⟨a, e, b, hq, hi, he, -⟩ := indexOf_spec _ _ _ hj
      simp only [Bool.and_eq_true, beq_iff_eq] at he
      exact ⟨a, e, b, hq, hi, he.1.1⟩
    · obtain ⟨a, e, b, hq, hi, he, -⟩ := indexOf_spec _ _ _ h
      simp only [Bool.and_eq_true, beq_iff_eq] at he
      exact ⟨a, e, b, hq, hi, he.1⟩

/-- The candidate's window begins (R113, R114). -/
theorem Node.enterWindow_leads (n : Node) (i : Nat) (e : TxEntry) (edge : Int) (heard : Option Int)
    (h : n.tx.engine.comesToBoundary = true) (ho : n.power.oscillator = .running)
    (hc : candidateIndex n.tx.queue = some i) (he : n.tx.queue[i]? = some e) :
    n.Leads { n with tx := n.tx.enterWindow i e edge heard } := by
  have hne := Engine.comesToBoundary_ne h
  obtain ⟨a, x, b, hq, rfl, hx⟩ := candidateIndex_spec _ _ hc
  obtain rfl : x = e := by simpa [hq] using he
  refine n.tx_leads _ id (fun hagrees => ?_) (fun h => absurd ho h) nofun (fun hl => ?_)
    (fun _ _ _ he _ => absurd he hne.1)
  · rw [activeAgrees_iff] at hagrees ⊢
    simp only [Transmitter.enterWindow, hq, hx, hne, inState_append, inState_cons, setAt_append, reduceCtorEq, if_false,
      if_true, Nat.add_zero] at hagrees ⊢
    omega
  · simpa [Transmitter.enterWindow] using hl

theorem Node.boundary_leads (n : Node) (edge : Int) (heard : Option Int)
    (h : n.tx.engine.comesToBoundary = true) (ho : n.power.oscillator = .running) :
    n.Leads (n.boundary edge heard) := by
  unfold Node.boundary
  split
  · exact n.rest_leads h
  · next i hi =>
    split
    · exact n.rest_leads h
    · next e he => exact .ite (fun _ => n.enterWindow_leads i e edge heard h ho hi he) (fun _ => n.faultRadio_leads h)

/-- A grid is formed while the receiver is on, or goes on (R113). -/
theorem Node.formGrid_leads (n : Node) (g : Stamp) (c : Option Contention) (ho : n.power.oscillator = .running)
    (hg : n.tx.grid.isSome = true ∨ n.rx.state ≠ .off) :
    n.Leads { n with tx := { n.tx with grid := some g, contention := c } } :=
  n.tx_leads _ id id (fun h => absurd ho h) (fun _ => hg) id (fun _ _ hq he ha => ⟨hq, he, ha⟩)

theorem Node.atBoundary_leads (n : Node) (h : n.tx.engine.comesToBoundary = true)
    (ho : n.power.oscillator = .running) (hg : n.tx.grid.isSome = true ∨ n.rx.state ≠ .off) :
    n.Leads n.atBoundary := by
  unfold Node.atBoundary
  exact (n.formGrid_leads n.clock none ho hg).trans (Node.boundary_leads _ _ _ h ho)

theorem Node.quietGap_leads (n : Node) (h : n.hearsQuiet = true) : n.Leads n.quietGap := by
  simp only [Node.hearsQuiet, Bool.and_eq_true, bne_iff_ne, ne_eq, beq_iff_eq] at h
  obtain ⟨⟨⟨⟨⟨hrx, ho⟩, -⟩, -⟩, -⟩, -⟩ := h
  unfold Node.quietGap
  refine .ite (fun hb => ?_) (fun _ => n.formGrid_leads n.clock n.tx.contention ho (.inr hrx))
  simp only [Bool.and_eq_true] at hb
  exact n.atBoundary_leads hb.1 ho (.inr hrx)

/-- The contention is lost: no entry is CONTENDING any more (R116). -/
theorem inState_lose (t : Transmitter) (c : Contention) :
    inState .contending (t.lose c).queue = 0 ∧ inState .sending (t.lose c).queue = inState .sending t.queue := by
  simp only [Transmitter.lose]
  induction t.queue with
  | nil => exact ⟨rfl, rfl⟩
  | cons e q ih =>
    simp only [List.map_cons, inState_cons, ih]
    cases he : e.state <;> simp [he]

theorem Node.lose_leads (n : Node) (c : Contention) (h : n.tx.engine = .window) :
    n.Leads { n with tx := n.tx.lose c } := by
  refine n.tx_leads _ id (fun hagrees => ?_) (fun _ hn => absurd h hn.2.1) .inl
    (fun hl => by simpa [Transmitter.lose] using hl) (fun _ _ _ he _ => by rw [h] at he; cases he)
  rw [activeAgrees_iff] at hagrees ⊢
  obtain ⟨hcont, hsend⟩ := inState_lose n.tx c
  rw [hcont, hsend, hagrees.2, h]
  exact ⟨rfl, rfl⟩

/-- The window is won: the CONTENDING entry is the SENDING one (R117). -/
theorem Node.win_leads (n : Node) (h : n.tx.engine = .window) : n.Leads n.win := by
  unfold Node.win
  split
  · exact .refl n
  · next i hi =>
    obtain ⟨a, x, b, hq, rfl, hx, -⟩ := indexOf_spec _ _ _ hi
    split
    · exact .refl n
    · next e he =>
      obtain rfl : x = e := by simpa [hq] using he
      have hx' : x.state = .contending := beq_iff_eq.mp hx
      refine n.tx_leads _ id (fun hagrees => ?_) (fun _ hn => absurd h hn.2.1) nofun (fun hl => by simpa using hl)
        (fun _ _ _ he _ => by rw [h] at he; cases he)
      rw [activeAgrees_iff] at hagrees ⊢
      simp only [hq, h, hx', inState_append, inState_cons, setAt_append, reduceCtorEq, if_false, if_true,
        Nat.add_zero] at hagrees ⊢
      omega

theorem RelayEngine.openWatch_length (r : RelayEngine) (w : WatchEntry) (h : r.watch.length ≤ 4) :
    (r.openWatch w).watch.length ≤ 4 := by
  unfold RelayEngine.openWatch
  split
  · simp only [List.length_append, List.length_singleton]; omega
  · split
    · exact h
    · next i hi =>
      obtain ⟨a, x, b, hw, rfl, -⟩ := indexOf_spec _ _ _ hi
      rw [hw] at h ⊢
      simp only [removeAt_append, List.length_append, List.length_cons, List.length_nil] at h ⊢
      omega

@[simp] theorem RelayEngine.openWatch_seen (r : RelayEngine) (w : WatchEntry) : (r.openWatch w).seen = r.seen := by
  unfold RelayEngine.openWatch
  split
  · rfl
  · split <;> rfl

/-- The echo watch holds at most 4 entries (R144, R145). -/
theorem RelayEngine.complete_length (r : RelayEngine) (now : Stamp) (f : Frame) (attempt : Nat)
    (h : r.watch.length ≤ 4) : (r.complete now f attempt).watch.length ≤ 4 := by
  unfold RelayEngine.complete
  split
  · exact r.openWatch_length _ h
  · split
    · simpa [RelayEngine.rewatch] using h
    · exact Nat.le_trans (removeFirst_length_le ..) h
    · exact RelayEngine.openWatch_length _ _ (Nat.le_trans (removeFirst_length_le ..) h)

@[simp] theorem RelayEngine.complete_seen (r : RelayEngine) (now : Stamp) (f : Frame) (attempt : Nat) :
    (r.complete now f attempt).seen = r.seen := by
  unfold RelayEngine.complete
  split
  · simp
  · split
    · rfl
    · rfl
    · simp

theorem Node.handOn_leads (n : Node) (e : TxEntry) : n.Leads (n.handOn e) := by
  unfold Node.handOn
  refine .ite (fun _ => .ite (fun _ => ?_) (fun _ => .refl n)) (fun _ => ?_)
  · exact n.relay_leads _ (by simp) (by simp) (n.relay.complete_length _ _ _)
  · exact (n.relay_acts _ (n.relay.report_plain ..) (Nat.le_refl _)).leads

/-- The transmitter after a completed send, before the frame is handed on (R118). -/
def Transmitter.sent (t : Transmitter) (i : Nat) : Transmitter :=
  let u := { t with queue := removeAt t.queue i, onAir := none, radioFault := false }
  if u.anyWaiting then { u with engine := .gap } else u.rest

theorem Transmitter.sent_kept (t : Transmitter) (i : Nat) :
    (t.sent i).queue = removeAt t.queue i ∧ (t.sent i).rng = t.rng ∧ (t.sent i).grid = t.grid ∧
      ((t.sent i).engine = .gap ∨ (t.sent i).engine = .idle) := by
  unfold Transmitter.sent
  simp only []
  split
  · exact ⟨rfl, rfl, rfl, .inl rfl⟩
  · exact ⟨rfl, rfl, rfl, .inr rfl⟩

theorem Node.sent_leads (n : Node) (a b : List TxEntry) (e : TxEntry) (hq : n.tx.queue = a ++ e :: b)
    (he : e.state = .sending) (h : n.tx.engine = .sending) : n.Leads { n with tx := n.tx.sent a.length } := by
  obtain ⟨hqueue, hrng, hgrid, hengine⟩ := n.tx.sent_kept a.length
  have hne : (n.tx.sent a.length).engine ≠ .window ∧ (n.tx.sent a.length).engine ≠ .sending := by
    rcases hengine with h | h <;> simp [h]
  refine n.tx_leads _ (hrng ▸ id) (fun hagrees => ?_) (fun _ hn => absurd h hn.2.2.1) (hgrid ▸ .inl) (fun hl => ?_)
    (fun _ _ _ he _ => by rw [h] at he; cases he)
  · rw [activeAgrees_iff] at hagrees ⊢
    simp only [hqueue, hq, h, he, hne, inState_append, inState_cons, removeAt_append, reduceCtorEq, if_false, if_true,
      Nat.add_zero] at hagrees ⊢
    omega
  · rw [hqueue]; exact Nat.le_trans (removeAt_length_le ..) hl

theorem Node.completeSend_leads (n : Node) (h : n.tx.engine = .sending) : n.Leads n.completeSend := by
  unfold Node.completeSend
  split
  · exact .refl n
  · next i hi =>
    obtain ⟨a, x, b, hq, rfl, hx, -⟩ := indexOf_spec _ _ _ hi
    split
    · exact .refl n
    · next e he =>
      obtain rfl : x = e := by simpa [hq] using he
      exact ((n.sent_leads a b x hq (beq_iff_eq.mp hx) h).trans (Node.handOn_leads _ x)).trans (Node.deliver_leads _ _)

theorem Node.beginHunt_leads (n : Node) : n.Leads n.beginHunt := by
  unfold Node.beginHunt
  exact .ite (fun _ => Node.SameCore.leads (by constructor <;> rfl)) (fun _ => .refl n)

theorem Node.resumeListen_leads (n : Node) : n.Leads n.resumeListen := by
  unfold Node.resumeListen
  exact .ite (fun _ => n.beginHunt_leads) (fun _ => .refl n)

/-- A HOLDOFF entry becomes WAITING, and the engine leaves IDLE for it (R107, R113). -/
theorem Node.endHoldoff_leads (n : Node) (p : TxEntry → Bool) (hp : ∀ e, p e = true → e.state = .holdoff)
    (hany : n.tx.queue.any p = true) :
    n.Leads { n with tx := Transmitter.leaveIdle { n.tx with
      queue := updateFirst p (fun e => { e with state := .waiting }) n.tx.queue } } := by
  have hserved : n.tx.Served { n.tx with
      queue := updateFirst p (fun e => { e with state := .waiting }) n.tx.queue } := by
    refine ⟨by constructor <;> rfl, fun st hst => ?_, by simp, .inl rfl⟩
    rcases updateFirst_cases p (fun e : TxEntry => { e with state := .waiting }) n.tx.queue with h | ⟨a, x, b, hq, hx, -, h⟩
    · simp [h]
    · have hx' := hp x hx
      cases st <;> simp_all [TxState.active]
  have hboth := hserved.trans (Transmitter.leaveIdle_served _)
  have hne : n.tx.queue ≠ [] := by rintro h; simp [h] at hany
  refine n.tx_leads _ (fun h => by rw [hboth.kept.rng]; exact h) hboth.agrees (fun _ h => ?_)
    (by rw [hboth.kept.grid]; exact .inl) hboth.length (fun _ _ hq => absurd hq hne)
  rw [hboth.kept.grid]
  rcases hboth.engine with he | ⟨-, he | ⟨-, hg⟩⟩
  · rw [he]; exact h
  · rw [he]; exact ⟨nofun, nofun, nofun, h.2.2.2⟩
  · simp [h.2.2.2] at hg

/-! ## The receiver and the dispatcher (chapter 7) -/

@[simp] theorem Receiver.fill_slots_length (r : Receiver) (i : Nat) (x : Slot) :
    (r.fill i x).slots.length = r.slots.length := setAt_length ..

/-- Accepting, serving and releasing change slots in their places, and the receiver's state not at all. -/
structure Receiver.SameShape (r u : Receiver) : Prop where
  slots : u.slots.length = r.slots.length
  state : u.state = r.state

theorem Receiver.SameShape.trans {a b c : Receiver} (h : a.SameShape b) (k : b.SameShape c) : a.SameShape c :=
  ⟨k.slots.trans h.slots, k.state.trans h.state⟩

theorem Receiver.accept_sameShape (r : Receiver) (now : Stamp) (x : Slot) : r.SameShape (r.accept now x) := by
  unfold Receiver.accept
  split
  · exact ⟨r.fill_slots_length .., rfl⟩
  · generalize (if x.frame.cls == .alarm then r.displaceable else none) = d
    cases d with
    | none => exact ⟨rfl, rfl⟩
    | some i =>
      simp only []
      split
      · exact ⟨rfl, rfl⟩
      · exact ⟨Receiver.fill_slots_length .., rfl⟩

theorem Receiver.release_sameShape (r : Receiver) (i : Nat) : r.SameShape (r.release i) := ⟨setAt_length .., rfl⟩

theorem Receiver.beginService_sameShape (k : Nat) : ∀ r : Receiver, r.SameShape (r.beginService k) := by
  induction k with
  | zero => exact fun r => ⟨rfl, rfl⟩
  | succ k ih =>
    intro r
    unfold Receiver.beginService
    split
    · exact ⟨rfl, rfl⟩
    · next i _ =>
      split
      · exact ⟨rfl, rfl⟩
      · next x _ =>
        have htaken : r.SameShape { r with slots := setAt r.slots i (some { x with inService := true }) } :=
          ⟨setAt_length .., rfl⟩
        simp only []
        split
        · exact ⟨htaken.slots, rfl⟩
        · split
          · exact ⟨htaken.slots, rfl⟩
          · exact (htaken.trans (Receiver.release_sameShape _ i)).trans (ih _)

theorem Receiver.dispatch_sameShape (r : Receiver) : r.SameShape r.dispatch := by
  unfold Receiver.dispatch
  split
  · exact ⟨rfl, rfl⟩
  · exact r.beginService_sameShape 4

theorem Receiver.endService_sameShape (r : Receiver) (i : Nat) : r.SameShape (r.endService i) :=
  (r.release_sameShape i).trans (Receiver.dispatch_sameShape _)

theorem Node.rxShape_leads (n : Node) (r : Receiver) (h : n.rx.SameShape r) : n.Leads { n with rx := r } :=
  n.rx_leads r h.slots (by rw [h.state]) (by rw [h.state]; exact fun _ h => h)

theorem Node.badFrame_leads (n : Node) : n.Leads n.badFrame := by
  unfold Node.badFrame
  refine .trans ?_ (Node.deliver_leads _ _)
  exact n.rxShape_leads _ ⟨rfl, rfl⟩

theorem Node.linger_leads (n : Node) : n.Leads n.linger := by
  unfold Node.linger
  exact .ite (fun _ => Node.SameCore.leads (by constructor <;> rfl)) (fun _ => .refl n)

@[simp] theorem Node.linger_rx (n : Node) : n.linger.rx = n.rx := by
  unfold Node.linger; split <;> rfl

theorem Node.filterFrame_leads (n : Node) (f : Frame) : n.Leads (n.filterFrame f) := by
  unfold Node.filterFrame
  split
  · exact .refl n
  · exact n.rxShape_leads _ ((Receiver.accept_sameShape ..).trans (Receiver.dispatch_sameShape _))

theorem Node.goodFrame_leads (n : Node) (level : Nat) (f : Frame) : n.Leads (n.goodFrame level f) :=
  ((n.deliver_leads _).trans (Node.observe_leads _ level f)).trans (Node.filterFrame_leads _ f)

/-- A receiver that was on is on after another change of its state, and no frame is then in assembly. -/
theorem Node.rxOn_leads (n : Node) (r : Receiver) (hslots : r.slots.length = n.rx.slots.length)
    (hold : n.rx.state ≠ .off) (hnew : r.state = .listening ∨ r.state = .syncHunt) : n.Leads { n with rx := r } := by
  refine n.rx_leads r hslots ⟨fun h => absurd h hold, fun h => ?_⟩ (fun _ _ => ?_)
  · rcases hnew with hr | hr <;> simp [hr] at h
  · rcases hnew with hr | hr <;> simp [hr]

theorem Node.endAssembly_leads (n : Node) (h : n.rx.state ≠ .off) : n.Leads n.endAssembly := by
  have hrx := n.rxOn_leads { n.rx with assembly := none, state := if n.rx.carrier then .syncHunt else .listening } rfl h
    (by cases n.rx.carrier <;> simp)
  exact hrx.trans (Node.SameCore.leads (by constructor <;> rfl))

theorem Node.judgeEnd_leads (n : Node) (level : Nat) (bytes : List Byte) : n.Leads (n.judgeEnd level bytes) := by
  unfold Node.judgeEnd
  split
  · exact n.badFrame_leads
  · exact n.linger_leads.trans (Node.badFrame_leads _)
  · exact n.linger_leads.trans (Node.rxShape_leads _ _ ⟨by simp, by simp⟩)
  · exact n.linger_leads.trans (Node.goodFrame_leads _ _ _)

theorem Node.hearOnset_leads (n : Node) : n.Leads n.hearOnset := by
  unfold Node.hearOnset
  refine .ite (fun h => ?_) (fun _ => .refl n)
  exact n.rxOn_leads _ rfl (by rw [beq_iff_eq.mp h]; nofun) (.inr rfl)

theorem Node.onsetBeforeBoundary_leads (n : Node) (us : Int) (h : n.tx.engine.comesToBoundary = true) :
    n.Leads (n.onsetBeforeBoundary us) := by
  have hne := Engine.comesToBoundary_ne h
  unfold Node.onsetBeforeBoundary
  refine .ite (fun hc => ?_) (fun _ => ?_)
  · simp only [Bool.and_eq_true, beq_iff_eq] at hc
    obtain ⟨⟨⟨⟨ho, -⟩, -⟩, -⟩, -⟩ := hc
    have hwindow : n.Leads
        (Node.boundary { n with tx := { n.tx with grid := none, contention := none } } us (some us)).beginHunt :=
      ((n.txAside_leads { n.tx with grid := none, contention := none } rfl rfl rfl (.inr rfl) rfl).trans
        (Node.boundary_leads _ _ _ h ho)).trans (Node.beginHunt_leads _)
    exact .ite (fun _ => hwindow) (fun _ => hwindow.trans (Node.hearOnset_leads _))
  · refine .trans (.trans ?_ (Node.beginHunt_leads _)) (Node.hearOnset_leads _)
    exact n.tx_leads _ id (Transmitter.activeAgrees_of_engine rfl hne.2 ⟨nofun, nofun⟩)
      (fun _ _ => ⟨nofun, nofun, nofun, rfl⟩) nofun id (fun _ _ _ he _ => absurd he hne.1)

theorem Node.onset_leads (n : Node) (us : Int) : n.Leads (n.onset us) := by
  have haside : n.Leads (Node.beginHunt { n with tx := { n.tx with grid := none } }).hearOnset :=
    ((n.txAside_leads { n.tx with grid := none } rfl rfl rfl (.inr rfl) rfl).trans (Node.beginHunt_leads _)).trans
      (Node.hearOnset_leads _)
  unfold Node.onset
  split
  · next c he _ =>
    unfold Node.onsetInWindow
    split
    · exact (n.lose_leads _ he).trans (Node.beginHunt_leads _)
    · exact n.txAside_leads _ rfl rfl rfl (.inl rfl) rfl
  · exact .ite (fun h => n.onsetBeforeBoundary_leads us h) (fun _ => haside)

theorem Node.carrierGone_leads (n : Node) : n.Leads n.carrierGone := by
  unfold Node.carrierGone
  split
  · next h => exact n.rxOn_leads _ rfl (by rw [h]; nofun) (.inl rfl)
  · next h =>
    exact (n.rxOn_leads { n.rx with state := .listening } rfl (by rw [h]; nofun) (.inl rfl)).trans
      (Node.SameCore.leads (by constructor <;> rfl))
  · next h => exact (n.endAssembly_leads (by rw [h]; nofun)).trans (Node.badFrame_leads _)
  · exact .refl n

/-- A DEFERRED engine goes to GAP (R116). -/
theorem Node.release_leads (n : Node) (c : Option Contention) (h : n.tx.engine = .deferred) :
    n.Leads { n with tx := { n.tx with engine := .gap, contention := c } } :=
  n.tx_leads _ id (Transmitter.activeAgrees_of_engine rfl ⟨by simp [h], by simp [h]⟩ ⟨nofun, nofun⟩)
    (fun _ hn => ⟨nofun, nofun, nofun, hn.2.2.2⟩) .inl id (fun _ _ _ he _ => by rw [h] at he; cases he)

theorem Node.carrierGoneEngine_leads (n : Node) (us : Int) : n.Leads (n.carrierGoneEngine us) := by
  unfold Node.carrierGoneEngine
  split
  · next he _ =>
    exact .ite (fun _ => n.lose_leads _ he) (fun _ => n.txAside_leads _ rfl rfl rfl (.inl rfl) rfl)
  · next he _ =>
    exact .ite (fun _ => n.txAside_leads _ rfl rfl rfl (.inl rfl) rfl) (fun _ => n.release_leads none he)
  · next he _ => exact n.release_leads n.tx.contention he
  · exact .refl n

/-! ## The Relay Engine (chapter 8) -/

/-- The seen list holds at most 24 entries (R138). -/
theorem RelayEngine.enter_length (r : RelayEngine) (e : SeenEntry) (h : r.seen.length ≤ 24) :
    (r.enter e).seen.length ≤ 24 := by
  unfold RelayEngine.enter
  simp only []
  split
  · simp only [List.length_append, List.length_drop, List.length_singleton]; omega
  · simp only [List.length_append, List.length_singleton]; omega

/-- Every entry has heard 1 to 15 copies (R138). -/
def CopiesBounded (seen : List SeenEntry) : Prop := ∀ e ∈ seen, 1 ≤ e.copies ∧ e.copies ≤ 15

theorem RelayEngine.enter_copies (r : RelayEngine) (e : SeenEntry) (he : e.copies = 1) (h : CopiesBounded r.seen) :
    CopiesBounded (r.enter e).seen := by
  intro x hx
  simp only [RelayEngine.enter, List.mem_append, List.mem_singleton] at hx
  rcases hx with hx | rfl
  · refine h x ?_
    split at hx
    · exact List.mem_of_mem_drop hx
    · exact hx
  · omega

theorem updateFirst_copies (p : SeenEntry → Bool) (seen : List SeenEntry) (h : CopiesBounded seen) :
    CopiesBounded (updateFirst p SeenEntry.again seen) := by
  rcases updateFirst_cases p SeenEntry.again seen with hu | ⟨a, x, b, rfl, -, -, hu⟩
  · rw [hu]; exact h
  · rw [hu]
    intro e he
    simp only [List.mem_append, List.mem_cons] at he
    rcases he with he | rfl | he
    · exact h e (by simp [he])
    · have := h x (by simp)
      simp only [SeenEntry.again]
      omega
    · exact h e (by simp [he])

theorem Node.hear_leads (n : Node) (own : Byte) (f : Frame) (arrival : Stamp) :
    n.Leads { n with relay := n.relay.hear own f arrival } := by
  have hentered : ∀ st, n.Leads { n with relay := n.relay.enter (newSeen f arrival st) } := fun st =>
    n.relay_leads _ (n.relay.enter_length _) (n.relay.enter_copies _ rfl) id
  unfold RelayEngine.hear
  split
  · exact n.relay_leads _ (by simp) (updateFirst_copies _ _) id
  · split
    · exact hentered .notRelaying
    · exact hentered .none

theorem Node.takeCopy_leads (n : Node) (f : Frame) (arrival : Stamp) : n.Leads (n.takeCopy f arrival).1 := by
  have hheard := n.hear_leads n.cfg.address f arrival
  unfold Node.takeCopy
  simp only []
  split
  · exact hheard
  · exact hheard.trans (Node.suppress_acts _ _ _).leads
  · exact hheard.trans (Node.takeEcho_acts _ _).leads

theorem Node.takeRelayOffer_leads (n : Node) (f : Frame) (relay : Bool) : n.Leads (n.takeRelayOffer f relay) := by
  unfold Node.takeRelayOffer
  refine .ite (fun _ => (n.mark_acts _ _ _).leads) (fun _ => ?_)
  exact ((n.draw_leads.trans (Node.offer_acts n.draw (f.relayed n.cfg.address) false
    (later n.clock (holdoff f.cls n.draw.tx.rng)) none).leads).trans (Node.mark_acts _ _ _ _).leads).trans
    (Node.deliver_leads _ _)

/-! ## The serial line (chapter 11) -/

theorem Node.answer_leads (n : Node) (a : Answer) : n.Leads (n.answer a) :=
  n.serial_leads _ (fun _ h => h) (fun _ _ => by simp) id

theorem Node.clearStatistics_leads (n : Node) : n.Leads n.clearStatistics := by
  have htx := n.txAside_leads { n.tx with drops := 0, losses := 0 } rfl rfl rfl (.inl rfl) rfl
  exact htx.trans (Node.SameCore.leads (by constructor <;> rfl))

theorem Node.takeWake_leads (n : Node) : n.Leads n.takeWake := by
  unfold Node.takeWake
  refine .ite (fun _ => n.answer_leads _) (fun h => .ite (fun _ => n.answer_leads _) (fun _ => ?_))
  exact (n.requestExit_leads (by simpa using h)).trans (Node.answer_leads _ _)

theorem Node.takePanelCommand_leads (n : Node) (c : Command) (target : Byte) :
    n.Leads (n.takePanelCommand c target) := by
  unfold Node.takePanelCommand
  simp only []
  split
  · exact n.answer_leads _
  · exact .ite (fun _ => n.answer_leads _) (fun _ =>
      ((n.answer_leads _).trans (Node.control_acts _ _ _ _ _).leads).trans (Node.originate_acts _ _ _).leads)

theorem Node.takeSerial_leads (n : Node) (c : SerialCommand) (payload : List Byte) :
    n.Leads (n.takeSerial c payload) := by
  cases c with
  | status => exact n.clearStatistics_leads.trans (Node.answer_leads _ _)
  | peers => exact n.answer_leads _
  | park => exact n.answer_leads _
  | restart => exact n.answer_leads _
  | wake => exact n.takeWake_leads
  | panel cmd => exact n.takePanelCommand_leads cmd _

theorem Node.judgeSerial_leads (n : Node) (type : Byte) (payload : List Byte) (sum : Byte) :
    n.Leads (n.judgeSerial type payload sum) := by
  unfold Node.judgeSerial
  refine .ite (fun _ => n.answer_leads _) (fun _ => .ite (fun _ => n.answer_leads _) (fun _ =>
    .ite (fun _ => n.answer_leads _) (fun _ => ?_)))
  split
  · exact n.answer_leads _
  · exact .ite (fun _ => n.answer_leads _) (fun _ => .ite (fun _ => n.answer_leads _) (fun _ => n.takeSerial_leads _ _))

theorem Node.completeRecord_ends (n : Node) (type : Byte) (payload : List Byte) (sum : Byte) :
    n.EndsIn (n.completeRecord type payload sum) := by
  refine Node.Leads.settled (.trans ?_ (Node.judgeSerial_leads _ type payload sum))
  exact Node.SameCore.leads (by constructor <;> rfl)

theorem Node.abandonRecord_leads (n : Node) (bs : List Byte) : n.Leads (n.abandonRecord bs) := by
  unfold Node.abandonRecord
  refine .trans ?_ (Node.answer_leads _ _)
  exact Node.SameCore.leads (by constructor <;> rfl)

theorem Node.afterAnswer_leads (n : Node) (a : AnswerAction) : n.Leads (n.afterAnswer a) := by
  cases a with
  | none => exact .refl n
  | park => exact n.park_leads
  | restart => exact n.restart_leads

theorem Node.takeByte_ends (n : Node) (b : Byte) : n.EndsIn (n.takeByte b) := by
  unfold Node.takeByte
  split
  · refine .ite (fun _ => Node.Leads.settledWoken ?_) (fun _ => (Node.Leads.refl n).woken)
    exact Node.SameCore.leads (by constructor <;> rfl)
  · simp only []
    refine .ite (fun _ => n.completeRecord_ends _ _ _) (fun _ => Node.Leads.kept ?_ rfl)
    exact Node.SameCore.leads (by constructor <;> rfl)

end Sys2Proof.Machine
end

section
/-! Every command and every step keep the invariants. -/

namespace Sys2Proof.Machine

/-- The outcome of a command is a next state whose node has every invariant that the node before it had. -/
def State.EndsIn (s : State) (o : Host.Outcome State Fault Refusal) : Prop := ∃ n, o = s.go n ∧ s.node.EndsIn n

/-- A command that leaves all that the invariants speak of, but for the oscillator and its claims. -/
theorem Node.SameCore.woken {n m : Node} (h : n.SameCore m) : n.EndsIn m.woken := h.leads.woken

theorem Node.SameCore.settledWoken {n m : Node} (h : n.SameCore m) : n.EndsIn m.settleWoken := h.leads.settledWoken

/-! ## Commands with cases of their own -/

theorem Node.underflow_ends (n : Node) : n.EndsIn n.underflow := by
  unfold Node.underflow
  refine Node.Leads.settledWoken (.trans (b := { n with timer := { n.timer with count := n.timer.reload } }) ?_ ?_)
  · exact Node.SameCore.leads (by constructor <;> rfl)
  · exact Node.sensing_leads_of_stage _ _ (Sensing.request_stage _ _)

theorem Node.beat_ends (n : Node) : n.EndsIn n.beat := by
  unfold Node.beat
  refine .ite (fun _ => .refl n) (fun _ => .ite (fun _ => n.underflow_ends) (fun _ => Node.Leads.kept ?_ rfl))
  exact Node.SameCore.leads (by constructor <;> rfl)

theorem execConfigAttempt_ends (read : Option (List Byte)) (noise : Byte) (s : State) :
    s.EndsIn (execConfigAttempt read noise s) := by
  refine ⟨_, rfl, ?_⟩
  split
  · exact .refl _
  · next r hr => exact .ite (fun _ => .refl _) (fun _ => (s.node.attemptEnds_leads r read noise hr).settled)

theorem execConfigRetryGap_ends (s : State) : s.EndsIn (execConfigRetryGap s) := by
  refine ⟨_, rfl, ?_⟩
  split
  · exact .refl _
  · next r hr =>
    refine .ite (fun _ => Node.SameCore.woken ?_) (fun _ => .refl _)
    exact ⟨rfl, rfl, rfl, rfl, rfl, rfl, rfl, rfl, rfl, rfl, rfl, rfl, rfl, rfl, rfl, rfl, by simp [hr]⟩

theorem execConfirmingLimit_ends (s : State) : s.EndsIn (execConfirmingLimit s) := by
  refine ⟨_, rfl, .ite (fun _ => .ite (fun _ => ?_) (fun _ => ?_)) (fun _ => .refl _)⟩
  · exact ((s.node.alarm_acts s.node.alarm.toWatch rfl id).trans (Node.deliver_acts _ _)).leads.settledWoken
  · exact Node.SameCore.woken (by constructor <;> rfl)

theorem execHalfPeriodMark_ends (s : State) : s.EndsIn (execHalfPeriodMark s) := by
  refine ⟨_, rfl, ?_⟩
  split
  · exact .refl _
  · refine .ite (fun _ => .ite (fun _ => ?_) (fun _ => ?_)) (fun _ => .refl _)
    · exact Node.Leads.kept (s.node.rng_leads _ (rngDraw_ne_zero _) rfl rfl rfl rfl) rfl
    · exact Node.Leads.kept (s.node.rng_leads _ id rfl rfl rfl rfl) rfl

theorem execBeaconDue_ends (s : State) : s.EndsIn (execBeaconDue s) := by
  refine ⟨_, rfl, .ite (fun _ => ?_) (fun _ => .ite (fun _ => ?_) (fun _ => .refl _))⟩
  · exact ((s.node.rng_leads { s.node.tx with beaconDue := none } id rfl rfl rfl rfl).trans
      (Node.deliver_leads _ _)).settledWoken
  · exact ((s.node.rng_leads { s.node.tx with halfDue := none } id rfl rfl rfl rfl).trans
      (Node.deliver_leads _ _)).settledWoken

theorem execHoldoffEnd_ends (s : State) : s.EndsIn (execHoldoffEnd s) := by
  refine ⟨_, rfl, .ite (fun h => ?_) (fun _ => .refl _)⟩
  exact (s.node.endHoldoff_leads _ (fun e he => by simp_all) h).settledWoken

theorem execWindowBoundary_ends (s : State) : s.EndsIn (execWindowBoundary s) := by
  refine ⟨_, rfl, .ite (fun h => .ite (fun he => ?_) (fun _ => ?_)) (fun _ => .refl _)⟩
  · simp only [Bool.and_eq_true, beq_iff_eq, Bool.or_eq_true] at h he
    refine (s.node.atBoundary_leads ?_ h.2 (.inl h.1)).settled
    rcases he with he | he <;> rw [he] <;> rfl
  · simp only [Bool.and_eq_true, beq_iff_eq] at h
    exact Node.Leads.kept (s.node.formGrid_leads s.node.clock s.node.tx.contention h.2 (.inl h.1)) rfl

theorem execBackoffEnd_ends (s : State) : s.EndsIn (execBackoffEnd s) := by
  refine ⟨_, rfl, .ite (fun h => Node.Leads.settledWoken ?_) (fun _ => .refl _)⟩
  simp only [Bool.and_eq_true, beq_iff_eq] at h
  have hne : s.node.tx.engine ≠ .window ∧ s.node.tx.engine ≠ .sending := by simp [h.1]
  simp only []
  split
  · exact s.node.tx_leads _ id (Transmitter.activeAgrees_of_engine rfl hne ⟨nofun, nofun⟩)
      (fun _ hn => ⟨nofun, nofun, nofun, hn.2.2.2⟩) .inl id (fun _ _ _ he _ => by rw [h.1] at he; cases he)
  · exact s.node.tx_leads _ id (Transmitter.activeAgrees_of_engine rfl hne ⟨nofun, nofun⟩)
      (fun _ hn => ⟨nofun, nofun, nofun, hn.2.2.2⟩) .inl id (fun _ _ _ he _ => by rw [h.1] at he; cases he)

theorem execWindowWon_ends (s : State) : s.EndsIn (execWindowWon s) := by
  refine ⟨_, rfl, ?_⟩
  split
  · next he _ => exact .ite (fun _ => (s.node.lose_leads _ he).settled) (fun _ => (s.node.win_leads he).settled)
  · exact .refl _

theorem execSendComplete_ends (s : State) : s.EndsIn (execSendComplete s) :=
  ⟨_, rfl, .ite (fun h =>
    ((s.node.completeSend_leads (beq_iff_eq.mp h)).trans (Node.resumeListen_leads _)).settled) (fun _ => .refl _)⟩

theorem execCarrierOnset_ends (us : Int) (s : State) : s.EndsIn (execCarrierOnset us s) := by
  have hcarrier : s.node.SameCore { s.node with rx := { s.node.rx with carrier := true } } := by
    constructor <;> rfl
  exact ⟨_, rfl, .ite (fun _ => .refl _) (fun _ => .ite (fun _ => hcarrier.leads.kept rfl)
    (fun _ => (hcarrier.leads.trans (Node.onset_leads _ us)).settled))⟩

theorem execCarrierEnd_ends (us : Int) (s : State) : s.EndsIn (execCarrierEnd us s) := by
  have hcarrier : s.node.SameCore { s.node with rx := { s.node.rx with carrier := false } } := by
    constructor <;> rfl
  exact ⟨_, rfl, .ite (fun _ => .ite (fun _ => hcarrier.leads.kept rfl)
    (fun _ => ((hcarrier.leads.trans (Node.carrierGone_leads _)).trans (Node.carrierGoneEngine_leads _ us)).settled))
    (fun _ => .refl _)⟩

theorem execSyncFound_ends (level : BitVec 7) (s : State) : s.EndsIn (execSyncFound level s) := by
  refine ⟨_, rfl, .ite (fun h => Node.Leads.settled ?_) (fun _ => .refl _)⟩
  simp only [Bool.and_eq_true, beq_iff_eq] at h
  have hrx := s.node.rx_leads { s.node.rx with state := .assembling, assembly := some level.toNat } rfl
    (by simp [h.1]) (fun ho => absurd h.2 ho)
  refine hrx.trans (Node.SameCore.leads ?_)
  cases hp : (s.node.power.phase == .patrol) <;> constructor <;> rfl

theorem execBadLength_ends (len : Byte) (s : State) : s.EndsIn (execBadLength len s) := by
  refine ⟨_, rfl, .ite (fun h => ?_) (fun _ => .refl _)⟩
  simp only [Bool.and_eq_true, beq_iff_eq] at h
  exact ((s.node.rx_leads { s.node.rx with state := .flushing, assembly := none } rfl (by simp [h.1])
    (fun _ hn => absurd h.1 hn.1)).trans (Node.badFrame_leads _)).settled

theorem execFrameEnd_ends (bytes : List Byte) (s : State) : s.EndsIn (execFrameEnd bytes s) := by
  refine ⟨_, rfl, ?_⟩
  split
  · next h _ => exact ((s.node.endAssembly_leads (by rw [h]; nofun)).trans (Node.judgeEnd_leads _ _ _)).settled
  · exact .refl _

/-- A service goes on to another step, or ends (R131, R132). -/
theorem Node.serve_leads (n : Node) (i : Nat) (step : ServiceStep) (b : Bool) :
    n.Leads { n with rx := if b then n.rx.goTo i step else n.rx.endService i } := by
  cases b
  · exact n.rxShape_leads _ (Receiver.endService_sameShape _ _)
  · exact n.rxShape_leads _ ⟨rfl, rfl⟩

theorem execSeenListCheck_ends (s : State) : s.EndsIn (execSeenListCheck s) := by
  refine ⟨_, rfl, ?_⟩
  split
  · exact .refl _
  · exact ((s.node.takeCopy_leads _ _).trans (Node.serve_leads _ _ _ _)).settled

theorem execRelayOffer_ends (s : State) : s.EndsIn (execRelayOffer s) := by
  refine ⟨_, rfl, ?_⟩
  split
  · exact .refl _
  · exact ((s.node.takeRelayOffer_leads _ _).trans (Node.serve_leads _ _ _ _)).settled

theorem Node.reportUse_leads (n : Node) (c : FrameClass) : n.Leads (n.reportUse c) := by
  unfold Node.reportUse
  exact .ite (fun _ => Node.SameCore.leads (by constructor <;> rfl)) (fun _ => .refl n)

theorem execUseDelivery_ends (s : State) : s.EndsIn (execUseDelivery s) := by
  refine ⟨_, rfl, ?_⟩
  split
  · exact .refl _
  · exact (((s.node.reportUse_leads _).trans (Node.consume_acts _ _).leads).trans
      (Node.rxShape_leads _ _ (Receiver.endService_sameShape _ _))).settled

theorem removeFirst_sublist {α : Type} (p : α → Bool) (xs : List α) : (removeFirst p xs).Sublist xs := by
  induction xs with
  | nil => exact .slnil
  | cons x xs ih =>
    simp only [removeFirst]
    split
    · exact List.sublist_cons_self x xs
    · exact ih.cons_cons x

theorem execSeenEntryExpiry_ends (s : State) : s.EndsIn (execSeenEntryExpiry s) := by
  refine ⟨_, rfl, Node.Leads.kept ?_ rfl⟩
  exact s.node.relay_leads _ (Nat.le_trans (removeFirst_length_le ..))
    (fun h e he => h e ((removeFirst_sublist _ _).mem he)) id

theorem execChannelCheck_ends (s : State) : s.EndsIn (execChannelCheck s) := by
  refine ⟨_, rfl, .ite (fun _ => Node.Leads.settledWoken ?_) (fun _ => .refl _)⟩
  have hlisten : s.node.Leads
      { s.node with power := { s.node.power with listen := some (later s.node.clock 2) } } :=
    Node.SameCore.leads (by constructor <;> rfl)
  exact .ite (fun _ => hlisten.trans (Node.beginHunt_leads _)) (fun _ => hlisten)

theorem execOscillatorStart_ends (s : State) : s.EndsIn (execOscillatorStart s) := by
  refine ⟨_, rfl, .ite (fun _ => ⟨?_, fun _ => ?_⟩) (fun _ => .refl _)⟩
  · have hstarted : s.node.Leads { s.node with power := { s.node.power with oscillator := .running } } :=
      { rng := id
        agrees := id
        ready := fun q => ⟨fun h => absurd rfl h, fun h => absurd rfl h, fun h => absurd rfl h,
          fun h => absurd rfl h, q.grid, q.owed⟩
        bounded := fun q => ⟨q.queue, q.seen, q.copies, q.watch, q.origins, q.entries, q.lostSubjects, q.lostOnce,
          q.slots, q.panel, q.ring, q.efc, q.rfc⟩
        silent := fun q => ⟨q.queue, q.engine, q.onAir, q.receiver, q.reading⟩ }
    exact (hstarted.trans (Node.settleOscillator_leads _)).trans (Node.settleSerial_leads _)
  · unfold Node.Awake
    rw [Node.settleSerial_power]
    exact Node.settleOscillator_awake _

/-- The head's own changes do not touch what the invariants speak of. -/
theorem Node.debounceTamper_leads (n : Node) : n.Leads n.debounceTamper := by
  have hheld : n.Leads
      { n with out := { n.out with offBase := n.out.tamperLine, tamperDebounce := none } } :=
    Node.SameCore.leads (by constructor <;> rfl)
  unfold Node.debounceTamper
  refine .ite (fun _ => hheld) (fun _ => hheld.trans ?_)
  unfold Node.tamperChanged
  split
  · exact .refl _
  · exact .ite (fun _ => Node.SameCore.leads (by constructor <;> rfl)) (fun _ => .refl _)
  · exact Node.deliver_leads _ _

theorem Node.heldTwo_leads (n : Node) : n.Leads n.heldTwo := by
  unfold Node.heldTwo
  exact .ite (fun _ => .refl n) (fun _ => .ite (fun _ => n.forcedSample_acts.leads)
    (fun _ => Node.SameCore.leads (by constructor <;> rfl)))

theorem execTestHold2s_ends (s : State) : s.EndsIn (execTestHold2s s) := by
  refine ⟨_, rfl, .ite (fun _ => Node.Leads.settledWoken (.trans ?_ (Node.heldTwo_leads _))) (fun _ => .refl _)⟩
  exact Node.SameCore.leads (by constructor <;> rfl)

theorem execTestHold5s_ends (s : State) : s.EndsIn (execTestHold5s s) := by
  have hacted : s.node.Leads
      { s.node with out := { s.node.out with hold := s.node.out.hold.actedFive } } :=
    Node.SameCore.leads (by constructor <;> rfl)
  refine ⟨_, rfl, .ite (fun _ => .ite (fun h => ?_) (fun _ => hacted.woken)) (fun _ => .refl _)⟩
  exact (hacted.trans (Node.requestExit_leads _ (by simp [Node.active, beq_iff_eq.mp h]))).settledWoken

theorem execSounderStep_ends (s : State) : s.EndsIn (execSounderStep s) := by
  refine ⟨_, rfl, ?_⟩
  split
  · exact .refl _
  · exact .ite (fun _ => Node.SameCore.settledWoken (by constructor <;> rfl)) (fun _ => .refl _)

theorem execIndicatorStep_ends (led : Led) (s : State) : s.EndsIn (execIndicatorStep led s) := by
  cases led with
  | red => exact ⟨_, rfl, .ite (fun _ => Node.SameCore.woken (by constructor <;> rfl)) (fun _ => .refl _)⟩
  | amber => exact ⟨_, rfl, .ite (fun _ => Node.SameCore.woken (by constructor <;> rfl)) (fun _ => .refl _)⟩

theorem execOverlayEnd_ends (s : State) : s.EndsIn (execOverlayEnd s) := by
  refine ⟨_, rfl, ?_⟩
  split
  · exact .refl _
  · exact .ite (fun _ => Node.SameCore.woken (by constructor <;> rfl)) (fun _ => .refl _)

theorem execSerialRecordTimeout_ends (s : State) : s.EndsIn (execSerialRecordTimeout s) := by
  refine ⟨_, rfl, ?_⟩
  split
  · exact .refl _
  · exact .ite (fun _ => (s.node.abandonRecord_leads _).settledWoken) (fun _ => .refl _)

theorem execAnswerSent_ends (s : State) : s.EndsIn (execAnswerSent s) := by
  refine ⟨_, rfl, ?_⟩
  split
  · refine (Node.Leads.trans ?_ (Node.afterAnswer_leads _ _)).settled
    exact s.node.serial_leads _ (fun _ _ => nofun) (fun _ => nofun) id
  · exact .refl _

theorem execEventRecordSent_ends (s : State) : s.EndsIn (execEventRecordSent s) := by
  refine ⟨_, rfl, .ite (fun _ => Node.Leads.settled ?_) (fun _ => .refl _)⟩
  exact s.node.serial_leads _ (fun _ _ => nofun) (fun _ => nofun)
    (Nat.le_trans (by simp only [List.length_drop]; omega))

theorem execSynthesiserLock_ends (locked : Bool) (s : State) : s.EndsIn (execSynthesiserLock locked s) :=
  ⟨_, rfl, .ite (fun _ => .refl _)
    (fun _ => Node.Leads.kept (s.node.txAside_leads _ rfl rfl rfl (.inl rfl) rfl) rfl)⟩

/-! ## Every command -/

theorem exec_endsIn (c : Instr) (s : State) : s.EndsIn (exec c s) := by
  cases c with
  | powerOnReset => exact ⟨_, rfl, s.node.repower_leads.settled⟩
  | configAttempt read noise => exact execConfigAttempt_ends read noise s
  | configRetryGap => exact execConfigRetryGap_ends s
  | prescalerUnderflow => exact ⟨_, rfl, .ite (fun _ => s.node.beat_ends) (fun _ => .refl _)⟩
  | countStageUnderflow => exact ⟨_, rfl, .ite (fun _ => s.node.underflow_ends) (fun _ => .refl _)⟩
  | stageStart =>
    exact ⟨_, rfl, .ite (fun h => Node.Leads.kept (s.node.sensing_leads _ (fun ho => absurd (beq_iff_eq.mp h) ho)) rfl)
      (fun _ => .refl _)⟩
  | oneShotFire => exact ⟨_, rfl, Node.Leads.kept (s.node.sensing_leads_of_stage _ (.inl (Sensing.fireOneShot_stage _))) rfl⟩
  | emitterOff =>
    exact ⟨_, rfl, Node.Leads.kept (s.node.sensing_leads_of_stage _ (.inl (Sensing.emittersOff_stage _ _))) rfl⟩
  | conversionDone input =>
    exact ⟨_, rfl, Node.Leads.kept (s.node.sensing_leads_of_stage _ (Sensing.deliverResult_stage _ _ _)) rfl⟩
  | recordFieldCopy => exact ⟨_, rfl, s.node.copyField_leads.settled⟩
  | evidencePublication => exact ⟨_, rfl, s.node.publish_leads.settled⟩
  | confirmingLimit => exact execConfirmingLimit_ends s
  | walkTestExpiry =>
    exact ⟨_, rfl, .ite (fun _ => Node.SameCore.settledWoken (by constructor <;> rfl)) (fun _ => .refl _)⟩
  | testSoundSpanEnd =>
    exact ⟨_, rfl, .ite (fun _ => Node.SameCore.settledWoken (by constructor <;> rfl)) (fun _ => .refl _)⟩
  | amberEventSpanEnd =>
    exact ⟨_, rfl, .ite (fun _ => Node.SameCore.settledWoken (by constructor <;> rfl)) (fun _ => .refl _)⟩
  | supervisionPeriodEnd => exact ⟨_, rfl, .ite (fun _ => s.node.endPeriod_leads.settledWoken) (fun _ => .refl _)⟩
  | halfPeriodMark => exact execHalfPeriodMark_ends s
  | beaconDue => exact execBeaconDue_ends s
  | holdoffEnd => exact execHoldoffEnd_ends s
  | quietGap => exact ⟨_, rfl, .ite (fun h => (s.node.quietGap_leads h).settled) (fun _ => .refl _)⟩
  | windowBoundary => exact execWindowBoundary_ends s
  | backoffEnd => exact execBackoffEnd_ends s
  | windowWon => exact execWindowWon_ends s
  | sendComplete => exact execSendComplete_ends s
  | carrierOnset us => exact execCarrierOnset_ends us s
  | carrierEnd us => exact execCarrierEnd_ends us s
  | syncFound level => exact execSyncFound_ends level s
  | badLength len => exact execBadLength_ends len s
  | frameEnd bytes => exact execFrameEnd_ends bytes s
  | seenListCheck => exact execSeenListCheck_ends s
  | relayOffer => exact execRelayOffer_ends s
  | useDelivery => exact execUseDelivery_ends s
  | seenEntryExpiry => exact execSeenEntryExpiry_ends s
  | echoWindowExpiry =>
    refine ⟨_, rfl, ?_⟩
    split
    · exact .refl _
    · exact (s.node.missEcho_acts _ _).leads.settledWoken
  | resendTime =>
    refine ⟨_, rfl, ?_⟩
    split
    · exact .refl _
    · exact (s.node.retry_acts _ _).leads.settledWoken
  | channelCheck => exact execChannelCheck_ends s
  | listenEnd =>
    exact ⟨_, rfl, .ite (fun _ => (Node.SameCore.leads (by constructor <;> rfl)).settled) (fun _ => .refl _)⟩
  | huntExpiry =>
    exact ⟨_, rfl, .ite (fun _ => Node.SameCore.settledWoken (by constructor <;> rfl)) (fun _ => .refl _)⟩
  | lingerExpiry =>
    exact ⟨_, rfl, .ite (fun _ => Node.SameCore.settledWoken (by constructor <;> rfl)) (fun _ => .refl _)⟩
  | runHoldExpiry =>
    exact ⟨_, rfl, .ite (fun _ => Node.SameCore.settledWoken (by constructor <;> rfl)) (fun _ => .refl _)⟩
  | oscillatorStart => exact execOscillatorStart_ends s
  | tamperLineChange offBase =>
    exact ⟨_, rfl, .ite (fun _ => .refl _) (fun _ => Node.SameCore.woken (by constructor <;> rfl))⟩
  | tamperDebounceEnd => exact ⟨_, rfl, .ite (fun _ => s.node.debounceTamper_leads.settledWoken) (fun _ => .refl _)⟩
  | testInputChange pressed =>
    exact ⟨_, rfl, .ite (fun _ => .refl _) (fun _ => Node.SameCore.woken (by constructor <;> rfl))⟩
  | testDebounceEnd =>
    exact ⟨_, rfl, .ite (fun _ => Node.SameCore.woken (by constructor <;> rfl)) (fun _ => .refl _)⟩
  | testHold2s => exact execTestHold2s_ends s
  | testHold5s => exact execTestHold5s_ends s
  | sounderStep => exact execSounderStep_ends s
  | indicatorStep led => exact execIndicatorStep_ends led s
  | overlayEnd => exact execOverlayEnd_ends s
  | status => exact ⟨_, rfl, s.node.completeRecord_ends _ _ _⟩
  | peers => exact ⟨_, rfl, s.node.completeRecord_ends _ _ _⟩
  | park => exact ⟨_, rfl, s.node.completeRecord_ends _ _ _⟩
  | restart => exact ⟨_, rfl, s.node.completeRecord_ends _ _ _⟩
  | wake => exact ⟨_, rfl, s.node.completeRecord_ends _ _ _⟩
  | silence zone => exact ⟨_, rfl, s.node.completeRecord_ends _ _ _⟩
  | reset zone => exact ⟨_, rfl, s.node.completeRecord_ends _ _ _⟩
  | testOn zone => exact ⟨_, rfl, s.node.completeRecord_ends _ _ _⟩
  | testOff zone => exact ⟨_, rfl, s.node.completeRecord_ends _ _ _⟩
  | serialRecordTimeout => exact execSerialRecordTimeout_ends s
  | answerSent => exact execAnswerSent_ends s
  | eventRecordSent => exact execEventRecordSent_ends s
  | synthesiserLock locked => exact execSynthesiserLock_ends locked s
  | serialByte b => exact ⟨_, rfl, s.node.takeByte_ends b⟩
  | rejectedSerialRecord type payload sum => exact ⟨_, rfl, s.node.completeRecord_ends _ _ _⟩
  | selfCheckChirpEnd =>
    exact ⟨_, rfl, .ite (fun _ => (Node.SameCore.leads (by constructor <;> rfl)).settled) (fun _ => .refl _)⟩

/-- Time passes. -/
theorem State.idle_endsIn (s : State) : s.node.EndsIn s.idle.node := by
  unfold State.idle
  split
  · have hticked : s.node.SameCore s.node.ticked := by constructor <;> rfl
    exact ⟨hticked.leads, id⟩
  · exact .refl _

/-- Every step keeps the invariants. -/
theorem step_endsIn {s t : State} (h : step s = .next t) : s.node.EndsIn t.node := by
  unfold step at h
  split at h
  · next c rest _ =>
    obtain ⟨n, hn, hl⟩ := exec_endsIn c { s with pending := rest }
    rw [hn, State.go_next] at h
    obtain rfl := Host.Outcome.next.inj h
    exact hl
  · obtain rfl := Host.Outcome.next.inj h
    exact s.idle_endsIn

end Sys2Proof.Machine

open Sys2Proof.Machine in
/-- Settles O57: every step ends in a node that has the three invariants where the node before it had them. -/
theorem generatorActiveEntryAndOscillatorAreKept : Obligations.GeneratorActiveEntryAndOscillatorAreKept :=
  ⟨fun _ _ hrng hstep => (step_endsIn hstep).leads.rng hrng,
    fun _ _ hagrees hstep => (step_endsIn hstep).leads.agrees hagrees,
    fun _ _ hserves hstep => (step_endsIn hstep).serves hserves⟩

open Sys2Proof.Machine in
/-- Settles O58: every step keeps the bounds of the lists and counts. -/
theorem listsStayBounded : Obligations.ListsStayBounded :=
  fun _ _ hbounded hstep => (step_endsIn hstep).leads.bounded hbounded

open Sys2Proof.Machine in
/-- Settles O59: every step keeps silence outside PATROL and RUN, with a read in progress only there. -/
theorem silentOutsidePatrolAndRun : Obligations.SilentOutsidePatrolAndRun :=
  fun _ _ hsilent hstep => (step_endsIn hstep).leads.silent hsilent
end

section
/-! Which blocks a command changes: every change it makes is one of its own blocks (00_scope, Paths between the
blocks). -/

namespace Sys2Proof.Machine

/-! ## What a command may change -/

end Sys2Proof.Machine

namespace Sys2Proof

/-- The commands that take a reset or end a read (R178, R179, R182). -/
def Instr.resets : Instr → Bool
  | .powerOnReset => true
  | .configAttempt _ _ => true
  | .answerSent => true
  | _ => false

/-- The commands that reload, seed or reset the count stage themselves (R2 to R4). -/
def Instr.changesTimer : Instr → Bool
  | .prescalerUnderflow => true
  | .countStageUnderflow => true
  | c => c.resets

/-- The commands that change a pattern, its step or its end themselves, before the patterns are selected (R173, R174). -/
def Instr.movesPatterns : Instr → Bool
  | .sounderStep => true
  | .indicatorStep _ => true
  | .overlayEnd => true
  | c => c.resets

end Sys2Proof

namespace Sys2Proof.Machine

/-- `t` comes of `n` by changes that are the command's own. -/
structure Node.Changes (c : Instr) (n t : Node) : Prop where
  clock : c ≠ .powerOnReset → t.clock = n.clock
  timer : c.changesTimer = false → t.timer = n.timer
  wantFast : c.resets = false → t.alarm.wantFast = n.alarm.wantFast
  image : c.resets = false → t.loader.image = n.loader.image
  patterns : c.movesPatterns = false →
    t.out.sounder = n.out.sounder ∧ t.out.red = n.out.red ∧ t.out.amber = n.out.amber
  sensing : c.changesSensing = false → t.sensing = n.sensing
  evidence : c.changesEvidence = false → t.evidence = n.evidence
  peers : c.changesPeers = false → t.peers = n.peers
  loader : c.changesLoader = false → t.loader = n.loader
  slots : c.changesSlots = false →
    t.rx.slots = n.rx.slots ∧ t.rx.order = n.rx.order ∧ t.rx.service = n.rx.service
  alarm : c.changesAlarm = false → t.alarm.state = n.alarm.state ∧ t.alarm.origins = n.alarm.origins ∧
    t.alarm.silenced = n.alarm.silenced ∧ t.alarm.remote = n.alarm.remote
  lines : c.changesLines = false → t.out.tamperLine = n.out.tamperLine ∧ t.out.offBase = n.out.offBase ∧
    t.out.tamperDebounce = n.out.tamperDebounce ∧ t.out.testLine = n.out.testLine ∧
    t.out.testPressed = n.out.testPressed ∧ t.out.testDebounce = n.out.testDebounce
  carrier : c.changesCarrier = false → t.rx.carrier = n.rx.carrier
  battery : c.changesBattery = false → t.power.battery = n.power.battery
  generator : c.changesGenerator = false → t.tx.rng = n.tx.rng
  answers : c.changesAnswers = false → t.serial.answers = n.serial.answers

theorem Node.Changes.refl (c : Instr) (n : Node) : n.Changes c n := by
  constructor <;> intro _ <;> first | rfl | exact ⟨rfl, rfl, rfl⟩ | exact ⟨rfl, rfl, rfl, rfl⟩ |
    exact ⟨rfl, rfl, rfl, rfl, rfl, rfl⟩

theorem Node.Changes.trans {c : Instr} {a b d : Node} (h : a.Changes c b) (k : b.Changes c d) : a.Changes c d where
  clock e := (k.clock e).trans (h.clock e)
  timer e := (k.timer e).trans (h.timer e)
  wantFast e := (k.wantFast e).trans (h.wantFast e)
  image e := (k.image e).trans (h.image e)
  patterns e := by
    obtain ⟨k1, k2, k3⟩ := k.patterns e
    obtain ⟨h1, h2, h3⟩ := h.patterns e
    exact ⟨k1.trans h1, k2.trans h2, k3.trans h3⟩
  sensing e := (k.sensing e).trans (h.sensing e)
  evidence e := (k.evidence e).trans (h.evidence e)
  peers e := (k.peers e).trans (h.peers e)
  loader e := (k.loader e).trans (h.loader e)
  slots e := by
    obtain ⟨k1, k2, k3⟩ := k.slots e
    obtain ⟨h1, h2, h3⟩ := h.slots e
    exact ⟨k1.trans h1, k2.trans h2, k3.trans h3⟩
  alarm e := by
    obtain ⟨k1, k2, k3, k4⟩ := k.alarm e
    obtain ⟨h1, h2, h3, h4⟩ := h.alarm e
    exact ⟨k1.trans h1, k2.trans h2, k3.trans h3, k4.trans h4⟩
  lines e := by
    obtain ⟨k1, k2, k3, k4, k5, k6⟩ := k.lines e
    obtain ⟨h1, h2, h3, h4, h5, h6⟩ := h.lines e
    exact ⟨k1.trans h1, k2.trans h2, k3.trans h3, k4.trans h4, k5.trans h5, k6.trans h6⟩
  carrier e := (k.carrier e).trans (h.carrier e)
  battery e := (k.battery e).trans (h.battery e)
  generator e := (k.generator e).trans (h.generator e)
  answers e := (k.answers e).trans (h.answers e)

theorem Node.Changes.ite {c : Instr} {n a b : Node} {p : Prop} [Decidable p] (ha : p → n.Changes c a)
    (hb : ¬p → n.Changes c b) : n.Changes c (if p then a else b) := by
  split
  · next h => exact ha h
  · next h => exact hb h

/-- `t` is as `n` in every block whose changes are told: what differs is the engine and its queue, the receiver's state,
the counts and holds, the Relay Engine and the link, overlays, or the panel records. -/
structure Node.SameBlocks (n t : Node) : Prop where
  clock : t.clock = n.clock
  timer : t.timer = n.timer
  wantFast : t.alarm.wantFast = n.alarm.wantFast
  sounder : t.out.sounder = n.out.sounder
  red : t.out.red = n.out.red
  amber : t.out.amber = n.out.amber
  sensing : t.sensing = n.sensing
  evidence : t.evidence = n.evidence
  peers : t.peers = n.peers
  loader : t.loader = n.loader
  slots : t.rx.slots = n.rx.slots
  order : t.rx.order = n.rx.order
  service : t.rx.service = n.rx.service
  alarmState : t.alarm.state = n.alarm.state
  origins : t.alarm.origins = n.alarm.origins
  silenced : t.alarm.silenced = n.alarm.silenced
  remote : t.alarm.remote = n.alarm.remote
  tamperLine : t.out.tamperLine = n.out.tamperLine
  offBase : t.out.offBase = n.out.offBase
  tamperDebounce : t.out.tamperDebounce = n.out.tamperDebounce
  testLine : t.out.testLine = n.out.testLine
  testPressed : t.out.testPressed = n.out.testPressed
  testDebounce : t.out.testDebounce = n.out.testDebounce
  carrier : t.rx.carrier = n.rx.carrier
  battery : t.power.battery = n.power.battery
  rng : t.tx.rng = n.tx.rng
  answers : t.serial.answers = n.serial.answers

theorem Node.SameBlocks.changes {n t : Node} (h : n.SameBlocks t) (c : Instr) : n.Changes c t where
  clock _ := h.clock
  timer _ := h.timer
  wantFast _ := h.wantFast
  image _ := by rw [h.loader]
  patterns _ := ⟨h.sounder, h.red, h.amber⟩
  sensing _ := h.sensing
  evidence _ := h.evidence
  peers _ := h.peers
  loader _ := h.loader
  slots _ := ⟨h.slots, h.order, h.service⟩
  alarm _ := ⟨h.alarmState, h.origins, h.silenced, h.remote⟩
  lines _ := ⟨h.tamperLine, h.offBase, h.tamperDebounce, h.testLine, h.testPressed, h.testDebounce⟩
  carrier _ := h.carrier
  battery _ := h.battery
  generator _ := h.rng
  answers _ := h.answers

/-- Requests and reports change no block whose changes are told. -/
theorem Node.ReportedFrom.sameBlocks {n t : Node} (h : n.ReportedFrom t) : n.SameBlocks t where
  clock := h.clock
  timer := h.timer
  wantFast := h.alarmWantFast
  sounder := by rw [h.out]
  red := by rw [h.out]
  amber := by rw [h.out]
  sensing := h.sensing
  evidence := h.evidence
  peers := h.peers
  loader := h.loader
  slots := by rw [h.rx]
  order := by rw [h.rx]
  service := by rw [h.rx]
  alarmState := h.alarmState
  origins := h.alarmOrigins
  silenced := h.alarmSilenced
  remote := h.alarmRemote
  tamperLine := by rw [h.out]
  offBase := by rw [h.out]
  tamperDebounce := by rw [h.out]
  testLine := by rw [h.out]
  testPressed := by rw [h.out]
  testDebounce := by rw [h.out]
  carrier := by rw [h.rx]
  battery := by rw [h.power]
  rng := h.txRng
  answers := h.serialAnswers

theorem Node.deliver_changes (n : Node) (ts : List Task) (c : Instr) : n.Changes c (n.deliver ts) :=
  (n.deliver_reported ts).sameBlocks.changes c

/-- Acts of the alarm side change the alarm unit only, of the blocks whose changes are told. -/
theorem Node.ActsFrom.changes {n t : Node} (h : n.ActsFrom t) {c : Instr} (hc : c.changesAlarm = true) :
    n.Changes c t where
  clock _ := h.clock
  timer _ := h.timer
  wantFast _ := h.wantFast
  image _ := by rw [h.loader]
  patterns _ := by rw [h.out]; exact ⟨rfl, rfl, rfl⟩
  sensing _ := h.sensing
  evidence _ := h.evidence
  peers _ := h.peers
  loader _ := h.loader
  slots _ := by rw [h.rx]; exact ⟨rfl, rfl, rfl⟩
  alarm he := absurd hc (by simp [he])
  lines _ := by rw [h.out]; exact ⟨rfl, rfl, rfl, rfl, rfl, rfl⟩
  carrier _ := by rw [h.rx]
  battery _ := by rw [h.power]
  generator _ := h.bounds.served.kept.rng
  answers _ := h.serialAnswers

/-! ## A change of one block -/

section
variable (n : Node) {c : Instr}

theorem Node.sensing_changes (s : Sensing) (h : c.changesSensing = true) : n.Changes c { n with sensing := s } :=
  { Node.Changes.refl c n with sensing := fun e => absurd h (by simp [e]) }

theorem Node.evidence_changes (e : Evidence) (h : c.changesEvidence = true) : n.Changes c { n with evidence := e } :=
  { Node.Changes.refl c n with evidence := fun e => absurd h (by simp [e]) }

theorem Node.peers_changes (p : PeerTable) (h : c.changesPeers = true) : n.Changes c { n with peers := p } :=
  { Node.Changes.refl c n with peers := fun e => absurd h (by simp [e]) }

theorem Node.timer_changes (t : SampleTimer) (h : c.changesTimer = true) : n.Changes c { n with timer := t } :=
  { Node.Changes.refl c n with timer := fun e => absurd h (by simp [e]) }

theorem Node.relay_changes (r : RelayEngine) : n.Changes c { n with relay := r } :=
  { Node.Changes.refl c n with }

theorem Node.tx_changes (t : Transmitter) (h : c.changesGenerator = true ∨ t.rng = n.tx.rng) :
    n.Changes c { n with tx := t } :=
  { Node.Changes.refl c n with
    generator := fun e => h.elim (fun h => absurd h (by simp [e])) id }

theorem Node.power_changes (p : Power) (h : c.changesBattery = true ∨ p.battery = n.power.battery) :
    n.Changes c { n with power := p } :=
  { Node.Changes.refl c n with battery := fun e => h.elim (fun h => absurd h (by simp [e])) id }

theorem Node.serial_changes (s : Serial) (h : c.changesAnswers = true ∨ s.answers = n.serial.answers) :
    n.Changes c { n with serial := s } :=
  { Node.Changes.refl c n with answers := fun e => h.elim (fun h => absurd h (by simp [e])) id }

/-- The receiver's state, with the carrier and, but for a dispatch, the slots as they were. -/
theorem Node.rx_changes (r : Receiver) (hcarrier : c.changesCarrier = true ∨ r.carrier = n.rx.carrier)
    (hslots : c.changesSlots = true ∨ r.slots = n.rx.slots ∧ r.order = n.rx.order ∧ r.service = n.rx.service) :
    n.Changes c { n with rx := r } :=
  { Node.Changes.refl c n with
    carrier := fun e => hcarrier.elim (fun h => absurd h (by simp [e])) id
    slots := fun e => hslots.elim (fun h => absurd h (by simp [e])) id }

/-- The alarm unit, with the interval wanted as it was. -/
theorem Node.alarm_changes (a : AlarmUnit) (hw : a.wantFast = n.alarm.wantFast)
    (h : c.changesAlarm = true ∨ a.state = n.alarm.state ∧ a.origins = n.alarm.origins ∧
      a.silenced = n.alarm.silenced ∧ a.remote = n.alarm.remote) : n.Changes c { n with alarm := a } :=
  { Node.Changes.refl c n with
    wantFast := fun _ => hw
    alarm := fun e => h.elim (fun h => absurd h (by simp [e])) id }

theorem Node.loader_changes (l : Loader) (h : c.changesLoader = true)
    (himage : c.resets = true ∨ l.image = n.loader.image) : n.Changes c { n with loader := l } :=
  { Node.Changes.refl c n with
    loader := fun e => absurd h (by simp [e])
    image := fun e => himage.elim (fun h => absurd h (by simp [e])) id }

/-- The Output Driver, with the patterns and the lines as they were. -/
theorem Node.out_changes (o : Outputs)
    (hpatterns : c.movesPatterns = true ∨ o.sounder = n.out.sounder ∧ o.red = n.out.red ∧ o.amber = n.out.amber)
    (hlines : c.changesLines = true ∨ o.tamperLine = n.out.tamperLine ∧ o.offBase = n.out.offBase ∧
      o.tamperDebounce = n.out.tamperDebounce ∧ o.testLine = n.out.testLine ∧ o.testPressed = n.out.testPressed ∧
      o.testDebounce = n.out.testDebounce) : n.Changes c { n with out := o } :=
  { Node.Changes.refl c n with
    patterns := fun e => hpatterns.elim (fun h => absurd h (by simp [e])) id
    lines := fun e => hlines.elim (fun h => absurd h (by simp [e])) id }

end

/-! ## The blocks' operations -/

section
variable (n : Node) {c : Instr}

theorem Node.takeRecord_changes (hs : c.changesSensing = true) (he : c.changesEvidence = true) :
    n.Changes c n.takeRecord := by
  unfold Node.takeRecord
  split
  · next r _ _ => exact .trans (n.evidence_changes { n.evidence with inHand := some r } he) (Node.sensing_changes _ _ hs)
  · exact .refl c n

theorem Node.takeVb_changes (v : Option Nat) (hb : c.changesBattery = true) : n.Changes c (n.takeVb v) := by
  unfold Node.takeVb
  split
  · exact .refl c _
  · exact (n.power_changes _ (.inl hb)).trans (Node.deliver_changes _ _ c)

theorem Node.copyField_changes (hs : c.changesSensing = true) (he : c.changesEvidence = true)
    (hb : c.changesBattery = true) : n.Changes c n.copyField := by
  unfold Node.copyField
  split
  · exact .refl c n
  · simp only []
    split
    · exact n.sensing_changes _ hs
    · refine .trans ?_ (Node.takeRecord_changes _ hs he)
      refine .trans ?_ (Node.takeVb_changes _ _ hb)
      exact n.sensing_changes _ hs

theorem Node.publish_changes (hs : c.changesSensing = true) (he : c.changesEvidence = true)
    (ha : c.changesAlarm = true) : n.Changes c n.publish := by
  cases h : n.evidence.inHand with
  | none => unfold Node.publish; rw [h]; exact .refl c n
  | some r =>
    rw [n.publish_eq r h]
    have hpublished : n.Changes c (n.published r) := (n.evidence_changes _ he).trans (Node.deliver_changes _ _ c)
    exact (hpublished.trans ((Node.takeResult_acts _ _).changes ha)).trans (Node.takeRecord_changes _ hs he)

theorem Node.checkLostSubject_changes (sender : Byte) (hp : c.changesPeers = true) :
    n.Changes c (n.checkLostSubject sender) := by
  unfold Node.checkLostSubject
  exact .ite (fun _ => (n.peers_changes _ hp).trans (Node.deliver_changes _ _ c)) (fun _ => .refl c n)

theorem Node.observe_changes (level : Nat) (f : Frame) (hp : c.changesPeers = true) (ha : c.changesAlarm = true) :
    n.Changes c (n.observe level f) := by
  unfold Node.observe
  refine .ite (fun _ => .refl c n) (fun _ => .ite (fun _ => ?_) (fun _ => ?_))
  · exact (n.peers_changes _ hp).trans (Node.deliver_changes _ _ c)
  · have htaken := fun p => (n.checkLostSubject_changes f.hdr.sender hp).trans (Node.peers_changes _ p hp)
    exact .ite (fun _ => (htaken _).trans ((Node.reevaluate_acts _).changes ha)) (fun _ => htaken _)

theorem Node.recordLost_changes (address : Byte) (hp : c.changesPeers = true) :
    n.Changes c (n.recordLost address) := by
  unfold Node.recordLost
  exact .ite (fun _ => .refl c n) (fun _ => (n.peers_changes _ hp).trans (Node.deliver_changes _ _ c))

theorem Node.foldl_recordLost_changes (hp : c.changesPeers = true) (xs : List (Nat × Peer)) : ∀ n : Node,
    n.Changes c (xs.foldl (fun m x => m.recordLost x.2.address) n) := by
  induction xs with
  | nil => exact fun n => .refl c n
  | cons x xs ih => exact fun n => (n.recordLost_changes x.2.address hp).trans (ih _)

theorem Node.conflictPeriod_changes (hp : c.changesPeers = true) : n.Changes c n.conflictPeriod := by
  unfold Node.conflictPeriod
  exact .ite (fun _ => .ite (fun _ => (n.peers_changes _ hp).trans (Node.deliver_changes _ _ c))
    (fun _ => n.peers_changes _ hp)) (fun _ => n.peers_changes _ hp)

theorem Node.startPeriod_changes (hp : c.changesPeers = true) (hg : c.changesGenerator = true) :
    n.Changes c n.startPeriod :=
  (n.peers_changes _ hp).trans (Node.tx_changes _ _ (.inl hg))

theorem Node.endPeriod_changes (hp : c.changesPeers = true) (hg : c.changesGenerator = true) :
    n.Changes c n.endPeriod := by
  rw [n.endPeriod_eq]
  have hsupervised : n.Changes c n.supervised := n.peers_changes _ hp
  have hrecorded : n.Changes c n.lossesRecorded := hsupervised.trans (Node.foldl_recordLost_changes hp _ _)
  have hjudged := hrecorded.trans (n.lossesRecorded.conflictPeriod_changes hp)
  have hunlisted : n.Changes c n.lossesRecorded.conflictPeriod.unlisted := hjudged.trans (Node.peers_changes _ _ hp)
  exact (hunlisted.trans (Node.deliver_changes _ _ c)).trans (Node.startPeriod_changes _ hp hg)

/-! The engine and the receiver. -/

theorem Node.beginHunt_changes : n.Changes c n.beginHunt := by
  unfold Node.beginHunt
  exact .ite (fun _ => n.power_changes _ (by exact .inr rfl)) (fun _ => .refl c n)

theorem Node.faultRadio_changes : n.Changes c n.faultRadio :=
  .trans (n.tx_changes { n.tx with
    radioFault := true, engine := .backoff, synth := .stopped, backoff := some (later n.clock 1024) } (.inr rfl))
    (Node.deliver_changes _ _ c)

theorem Node.boundary_changes (edge : Int) (heard : Option Int) : n.Changes c (n.boundary edge heard) := by
  unfold Node.boundary
  split
  · exact n.tx_changes _ (by exact .inr rfl)
  · split
    · exact n.tx_changes _ (by exact .inr rfl)
    · exact .ite (fun _ => n.tx_changes _ (by exact .inr rfl)) (fun _ => n.faultRadio_changes)

theorem Node.atBoundary_changes : n.Changes c n.atBoundary :=
  (n.tx_changes { n.tx with grid := some n.clock, contention := none } (by exact .inr rfl)).trans
    (Node.boundary_changes _ _ _)

theorem Node.quietGap_changes : n.Changes c n.quietGap := by
  unfold Node.quietGap
  exact .ite (fun _ => n.atBoundary_changes) (fun _ => n.tx_changes _ (by exact .inr rfl))

theorem Node.win_changes : n.Changes c n.win := by
  unfold Node.win
  split
  · exact .refl c n
  · split
    · exact .refl c n
    · exact n.tx_changes _ (by exact .inr rfl)

theorem Node.handOn_changes (e : TxEntry) : n.Changes c (n.handOn e) := by
  unfold Node.handOn
  exact .ite (fun _ => .ite (fun _ => n.relay_changes _) (fun _ => .refl c n)) (fun _ => n.relay_changes _)

theorem Node.completeSend_changes : n.Changes c n.completeSend := by
  unfold Node.completeSend
  split
  · exact .refl c n
  · next i _ =>
    split
    · exact .refl c n
    · next e _ =>
      have hsent : n.Changes c { n with tx := n.tx.sent i } := n.tx_changes _ (.inr (n.tx.sent_kept i).2.1)
      exact (hsent.trans (Node.handOn_changes _ e)).trans (Node.deliver_changes _ _ c)

theorem Node.resumeListen_changes : n.Changes c n.resumeListen := by
  unfold Node.resumeListen
  exact .ite (fun _ => n.beginHunt_changes) (fun _ => .refl c n)

/-- A change of the receiver's own state. -/
theorem Node.rxState_changes (r : Receiver) (hcarrier : r.carrier = n.rx.carrier) (hslots : r.slots = n.rx.slots)
    (horder : r.order = n.rx.order) (hservice : r.service = n.rx.service) : n.Changes c { n with rx := r } :=
  n.rx_changes r (.inr hcarrier) (.inr ⟨hslots, horder, hservice⟩)

theorem Node.hearOnset_changes : n.Changes c n.hearOnset := by
  unfold Node.hearOnset
  exact .ite (fun _ => n.rxState_changes _ (by rfl) (by rfl) (by rfl) (by rfl)) (fun _ => .refl c n)

theorem Node.onsetBeforeBoundary_changes (us : Int) : n.Changes c (n.onsetBeforeBoundary us) := by
  unfold Node.onsetBeforeBoundary
  refine .ite (fun _ => ?_) (fun _ => ?_)
  · have hwindow : n.Changes c
        (Node.boundary { n with tx := { n.tx with grid := none, contention := none } } us (some us)).beginHunt :=
      .trans (.trans (n.tx_changes { n.tx with grid := none, contention := none } (.inr rfl))
        (Node.boundary_changes _ _ _)) (Node.beginHunt_changes _)
    exact .ite (fun _ => hwindow) (fun _ => hwindow.trans (Node.hearOnset_changes _))
  · exact ((n.tx_changes { n.tx with engine := .deferred, grid := none } (by exact .inr rfl)).trans
      (Node.beginHunt_changes _)).trans (Node.hearOnset_changes _)

theorem Node.onset_changes (us : Int) : n.Changes c (n.onset us) := by
  unfold Node.onset
  split
  · unfold Node.onsetInWindow
    split
    · exact (n.tx_changes _ (by exact .inr rfl)).trans (Node.beginHunt_changes _)
    · exact n.tx_changes _ (by exact .inr rfl)
  · exact .ite (fun _ => n.onsetBeforeBoundary_changes us) (fun _ =>
      ((n.tx_changes { n.tx with grid := none } (by exact .inr rfl)).trans (Node.beginHunt_changes _)).trans
        (Node.hearOnset_changes _))

theorem Node.badFrame_changes : n.Changes c n.badFrame :=
  (n.rxState_changes _ (by rfl) (by rfl) (by rfl) (by rfl)).trans (Node.deliver_changes _ _ c)

theorem Node.endAssembly_changes : n.Changes c n.endAssembly :=
  (n.rxState_changes { n.rx with assembly := none, state := if n.rx.carrier then .syncHunt else .listening }
    (by rfl) (by rfl) (by rfl) (by rfl)).trans (Node.power_changes _ _ (by exact .inr rfl))

theorem Node.carrierGone_changes : n.Changes c n.carrierGone := by
  unfold Node.carrierGone
  split
  · exact n.rxState_changes _ rfl rfl rfl rfl
  · exact (n.rxState_changes { n.rx with state := .listening } (by rfl) (by rfl) (by rfl) (by rfl)).trans
      (Node.power_changes _ _ (by exact .inr rfl))
  · exact n.endAssembly_changes.trans (Node.badFrame_changes _)
  · exact .refl c n

theorem Node.carrierGoneEngine_changes (us : Int) : n.Changes c (n.carrierGoneEngine us) := by
  unfold Node.carrierGoneEngine
  split
  · exact .ite (fun _ => n.tx_changes _ (by exact .inr rfl)) (fun _ => n.tx_changes _ (by exact .inr rfl))
  · exact .ite (fun _ => n.tx_changes _ (by exact .inr rfl)) (fun _ => n.tx_changes _ (by exact .inr rfl))
  · exact n.tx_changes _ (by exact .inr rfl)
  · exact .refl c n

/-- Accepting and dispatching leave the carrier. -/
theorem Receiver.accept_carrier (r : Receiver) (now : Stamp) (x : Slot) : (r.accept now x).carrier = r.carrier := by
  unfold Receiver.accept
  split
  · rfl
  · generalize (if x.frame.cls == .alarm then r.displaceable else none) = d
    cases d with
    | none => rfl
    | some i => simp only []; split <;> rfl

theorem Receiver.beginService_carrier (k : Nat) : ∀ r : Receiver, (r.beginService k).carrier = r.carrier := by
  induction k with
  | zero => exact fun _ => rfl
  | succ k ih =>
    intro r
    unfold Receiver.beginService
    split
    · rfl
    · split
      · rfl
      · simp only []
        split
        · rfl
        · split
          · rfl
          · exact ih _

@[simp] theorem Receiver.dispatch_carrier (r : Receiver) : r.dispatch.carrier = r.carrier := by
  unfold Receiver.dispatch
  split
  · rfl
  · exact r.beginService_carrier 4

@[simp] theorem Receiver.endService_carrier (r : Receiver) (i : Nat) : (r.endService i).carrier = r.carrier := by
  simp [Receiver.endService, Receiver.release]

theorem Node.linger_changes : n.Changes c n.linger := by
  unfold Node.linger
  exact .ite (fun _ => n.power_changes _ (by exact .inr rfl)) (fun _ => .refl c n)

theorem Node.filterFrame_changes (f : Frame) (hs : c.changesSlots = true) : n.Changes c (n.filterFrame f) := by
  unfold Node.filterFrame
  split
  · exact .refl c n
  · exact n.rx_changes _ (.inr (by simp [Receiver.accept_carrier])) (.inl hs)

theorem Node.judgeEnd_changes (level : Nat) (bytes : List Byte) (hp : c.changesPeers = true)
    (ha : c.changesAlarm = true) (hs : c.changesSlots = true) : n.Changes c (n.judgeEnd level bytes) := by
  unfold Node.judgeEnd
  split
  · exact n.badFrame_changes
  · exact n.linger_changes.trans (Node.badFrame_changes _)
  · exact n.linger_changes.trans (Node.rxState_changes _ _ (by simp) (by simp) (by simp) (by simp))
  · exact n.linger_changes.trans (((Node.deliver_changes _ _ c).trans (Node.observe_changes _ _ _ hp ha)).trans
      (Node.filterFrame_changes _ _ hs))

/-! The Relay Engine. -/

theorem Node.offer_changes (f : Frame) (own : Bool) (earliest : Stamp) (attempt : Option Nat) :
    n.Changes c (n.offer f own earliest attempt).1 := (n.offer_reported ..).sameBlocks.changes c

theorem Node.suppress_changes (origin seq : Byte) : n.Changes c (n.suppress origin seq) := by
  unfold Node.suppress
  refine .ite (fun _ => .ite (fun _ => .refl c n) (fun _ => ?_)) (fun _ => .refl c n)
  exact (n.tx_changes _ (.inr (n.tx.withdraw_served origin seq).kept.rng)).trans (Node.relay_changes _ _)

theorem Node.takeEcho_changes (seq : Byte) : n.Changes c (n.takeEcho seq) := by
  unfold Node.takeEcho
  split
  · exact .refl c n
  · split
    · exact .refl c n
    · exact ((n.tx_changes _ (.inr (n.tx.withdraw_served _ seq).kept.rng)).trans (Node.relay_changes _ _)).trans
        (Node.deliver_changes _ _ c)
    · exact (n.relay_changes _).trans (Node.deliver_changes _ _ c)

theorem Node.takeCopy_changes (f : Frame) (arrival : Stamp) : n.Changes c (n.takeCopy f arrival).1 := by
  have hheard : n.Changes c { n with relay := n.relay.hear n.cfg.address f arrival } := n.relay_changes _
  unfold Node.takeCopy
  simp only []
  split
  · exact hheard
  · exact hheard.trans (Node.suppress_changes _ _ _)
  · exact hheard.trans (Node.takeEcho_changes _ _)

theorem Node.takeRelayOffer_changes (f : Frame) (relay : Bool) (hg : c.changesGenerator = true) :
    n.Changes c (n.takeRelayOffer f relay) := by
  unfold Node.takeRelayOffer
  refine .ite (fun _ => n.relay_changes _) (fun _ => ?_)
  exact (((n.tx_changes _ (.inl hg)).trans (Node.offer_changes n.draw (f.relayed n.cfg.address) false
    (later n.clock (holdoff f.cls n.draw.tx.rng)) none)).trans (Node.relay_changes _ _)).trans
    (Node.deliver_changes _ _ c)

theorem Node.retry_changes (e : WatchEntry) (attempt : Nat) : n.Changes c (n.retry e attempt) := by
  have hoffered := n.offer_changes (c := c) e.frame true n.clock (some attempt)
  unfold Node.retry
  exact .ite (fun _ => (hoffered.trans (Node.relay_changes _ _)).trans (Node.deliver_changes _ _ c))
    (fun _ => (hoffered.trans (Node.relay_changes _ _)).trans (Node.deliver_changes _ _ c))

theorem Node.missEcho_changes (e : WatchEntry) (expiry : Stamp) : n.Changes c (n.missEcho e expiry) := by
  have hmissed := n.deliver_changes [.echo false] c
  unfold Node.missEcho
  exact .ite (fun _ => hmissed.trans (Node.relay_changes _ _)) (fun _ => .ite
    (fun _ => hmissed.trans (Node.retry_changes _ _ _))
    (fun _ => (hmissed.trans (Node.relay_changes _ _)).trans (Node.deliver_changes _ _ c)))

/-! The resets, the read and the start. -/

theorem Node.refuse_changes (cause : ReadCause) (hr : c.resets = true) (hl : c.changesLoader = true)
    (hm : c.movesPatterns = true) : n.Changes c (n.refuse cause) :=
  ((n.loader_changes ⟨none, [], some cause, none⟩ hl (.inl hr)).trans
    (Node.power_changes _ { n.power with phase := .dormant, parked := false } (by exact .inr rfl))).trans
    (Node.out_changes _ _ (.inl hm) (.inr ⟨rfl, rfl, rfl, rfl, rfl, rfl⟩))

theorem Node.start_changes (img : Image) (clamps : List Nat) (noise : Byte) (hr : c.resets = true)
    (hl : c.changesLoader = true) (hm : c.movesPatterns = true) (ht : c.changesTimer = true)
    (hb : c.changesBattery = true) (hp : c.changesPeers = true) (hg : c.changesGenerator = true) :
    n.Changes c (n.start img clamps noise) := by
  have hplaced := (((n.loader_changes ⟨some img, clamps, none, none⟩ hl (.inl hr)).trans
    (Node.timer_changes _ .started ht)).trans (Node.power_changes _ (n.power.started img.role n.clock) (.inl hb))).trans
    (Node.out_changes _ { n.out with hold := n.out.hold.started n.clock } (.inl hm)
      (.inr ⟨rfl, rfl, rfl, rfl, rfl, rfl⟩))
  have hseeded := fun m : Node => (Node.tx_changes m { m.tx with rng := rngDraw (img.address ++ noise) }
    (.inl hg : c.changesGenerator = true ∨ _)).trans (Node.relay_changes _
      { m.relay with originSeq := (rngDraw (img.address ++ noise)).setWidth 8 })
  exact ((hplaced.trans (hseeded _)).trans (Node.startPeriod_changes _ hp hg)).trans (Node.deliver_changes _ _ c)

theorem Node.leaveDormant_changes (he : c.changesEvidence = true) (hs : c.changesSensing = true)
    (hm : c.movesPatterns = true) : n.Changes c n.leaveDormant :=
  (((n.evidence_changes { n.evidence with seedPending := true, settling := 8 } he).trans
    (Node.sensing_changes _ { n.sensing with cycleCounter := 0 } hs)).trans
    (Node.tx_changes _ { n.tx with oneHop := 0 } (by exact .inr rfl))).trans
    (Node.out_changes _ n.out.restarted (.inl hm) (.inr ⟨rfl, rfl, rfl, rfl, rfl, rfl⟩))

theorem Node.attemptEnds_changes (r : Reading) (read : Option (List Byte)) (noise b : Byte) (bs : Option (List Byte)) :
    n.Changes (.configAttempt bs b) (n.attemptEnds r read noise) := by
  unfold Node.attemptEnds
  split
  · exact .ite (fun _ => n.refuse_changes _ rfl rfl rfl) (fun _ => n.loader_changes _ rfl (by exact .inr rfl))
  · split
    · exact n.refuse_changes _ rfl rfl rfl
    · exact .ite (fun _ => (n.leaveDormant_changes rfl rfl rfl).trans
          (Node.start_changes _ _ _ _ rfl rfl rfl (by rfl) (by rfl) (by rfl) (by rfl)))
        (fun _ => n.start_changes _ _ _ rfl rfl rfl (by rfl) (by rfl) (by rfl) (by rfl))

theorem Node.repower_changes : n.Changes .powerOnReset n.repower := by
  constructor <;> first | exact fun _ => rfl | exact fun h => absurd rfl h | exact fun h => absurd h (by decide)

theorem Node.restart_changes : n.Changes .answerSent n.restart := by
  constructor <;> first
    | exact fun _ => rfl
    | exact fun _ => ⟨rfl, rfl, rfl, rfl, rfl, rfl⟩
    | exact fun h => absurd h (by decide)

theorem Node.park_changes : n.Changes .answerSent n.park := by
  constructor <;> first
    | exact fun _ => rfl
    | exact fun _ => ⟨rfl, rfl, rfl, rfl, rfl, rfl⟩
    | exact fun h => absurd h (by decide)

theorem Node.requestExit_changes (hl : c.changesLoader = true) : n.Changes c n.requestExit := by
  unfold Node.requestExit
  exact .ite (fun _ => .refl c n) (fun _ => n.loader_changes _ hl (by exact .inr rfl))

/-! The serial line. -/

theorem Node.answer_changes (a : Answer) (h : c.changesAnswers = true) : n.Changes c (n.answer a) :=
  n.serial_changes _ (.inl h)

theorem Node.takeStatus_changes (h : c.changesAnswers = true) (hs : c.changesSensing = true)
    (hp : c.changesPeers = true) : n.Changes c n.takeStatus :=
  ((((n.sensing_changes { n.sensing with skipped := 0 } hs).trans
    (Node.peers_changes _ { n.peers with untracked := 0 } hp)).trans
    (Node.tx_changes _ { n.tx with drops := 0, losses := 0 } (by exact .inr rfl))).trans
    (Node.rxState_changes _ { n.rx with badFrames := 0, foreign := 0, overruns := 0 } (by rfl) (by rfl) (by rfl) (by rfl))).trans
    (Node.answer_changes _ _ h)

theorem Node.takeWake_changes (h : c.changesAnswers = true) (hl : c.changesLoader = true) : n.Changes c n.takeWake := by
  unfold Node.takeWake
  exact .ite (fun _ => n.answer_changes _ h) (fun _ => .ite (fun _ => n.answer_changes _ h)
    (fun _ => (n.requestExit_changes hl).trans (Node.answer_changes _ _ h)))

/-- Walk test leaves what the alarm side shows (R81, R82). -/
theorem Node.applyCommand_changes (cmd : Command) (h : cmd = .testOn ∨ cmd = .testOff) :
    n.Changes c (n.applyCommand cmd) := by
  rcases h with rfl | rfl
  · exact .ite (fun _ => .refl c n) (fun _ => n.alarm_changes _ rfl (.inr ⟨rfl, rfl, rfl, rfl⟩))
  · exact n.alarm_changes _ rfl (.inr ⟨rfl, rfl, rfl, rfl⟩)

theorem Node.control_changes (cmd : Command) (target : ZoneCode) (origin : Byte) (zone : ZoneCode)
    (h : c.changesAlarm = true ∨ cmd = .testOn ∨ cmd = .testOff) : n.Changes c (n.control cmd target origin zone) := by
  rcases h with h | h
  · exact (n.control_acts ..).changes h
  · exact .ite (fun _ => .refl c n) (fun _ => .ite (fun _ => .refl c n) (fun _ =>
      (n.applyCommand_changes cmd h).trans ((Node.record_reported _ _).sameBlocks.changes c)))

theorem Node.takePanelCommand_changes (cmd : Command) (target : Byte) (ha : c.changesAnswers = true)
    (h : c.changesAlarm = true ∨ cmd = .testOn ∨ cmd = .testOff) : n.Changes c (n.takePanelCommand cmd target) := by
  unfold Node.takePanelCommand
  simp only []
  split
  · exact n.answer_changes _ ha
  · refine .ite (fun _ => n.answer_changes _ ha) (fun _ => ?_)
    exact ((n.answer_changes _ ha).trans (Node.control_changes _ cmd _ _ _ h)).trans
      ((Node.relay_changes _ _).trans (Node.deliver_changes _ _ c))

end

/-- The commands whose record the serial line takes may change what the record's effect changes. -/
structure SerialCommand.Allowed (k : SerialCommand) (c : Instr) : Prop where
  answers : c.changesAnswers = true
  status : k = .status → c.changesSensing = true ∧ c.changesPeers = true
  wake : k = .wake → c.changesLoader = true
  panel : ∀ cmd, k = .panel cmd → c.changesAlarm = true ∨ cmd = .testOn ∨ cmd = .testOff

theorem Node.takeSerial_changes (n : Node) (k : SerialCommand) (payload : List Byte) {c : Instr} (h : k.Allowed c) :
    n.Changes c (n.takeSerial k payload) := by
  cases k with
  | status => exact n.takeStatus_changes h.answers (h.status rfl).1 (h.status rfl).2
  | peers => exact n.answer_changes _ h.answers
  | park => exact n.answer_changes _ h.answers
  | restart => exact n.answer_changes _ h.answers
  | wake => exact n.takeWake_changes h.answers (h.wake rfl)
  | panel cmd => exact n.takePanelCommand_changes cmd _ h.answers (h.panel cmd rfl)

theorem Node.judgeSerial_changes (n : Node) (type : Byte) (payload : List Byte) (sum : Byte) {c : Instr}
    (ha : c.changesAnswers = true) (h : ∀ k, SerialCommand.ofType type = some k → k.Allowed c) :
    n.Changes c (n.judgeSerial type payload sum) := by
  unfold Node.judgeSerial
  refine .ite (fun _ => n.answer_changes _ ha) (fun _ => .ite (fun _ => n.answer_changes _ ha) (fun _ =>
    .ite (fun _ => n.answer_changes _ ha) (fun _ => ?_)))
  split
  · exact n.answer_changes _ ha
  · next k hk =>
    exact .ite (fun _ => n.answer_changes _ ha) (fun _ => .ite (fun _ => n.answer_changes _ ha)
      (fun _ => n.takeSerial_changes k _ (h k hk)))

/-- A command's own record names it. -/
theorem SerialCommand.ofType_type (k : SerialCommand) : SerialCommand.ofType k.type = some k := by
  cases k with
  | panel cmd => cases cmd <;> rfl
  | _ => rfl

end Sys2Proof.Machine
end

section
/-! Every command makes its own changes only, and then either settles or leaves all that settling looks at. -/

namespace Sys2Proof.Machine

/-- `t` shows what `n` shows: nothing that decides the interval wanted or a pattern differs. -/
structure Node.SameShow (n t : Node) : Prop where
  phase : t.power.phase = n.power.phase
  parked : t.power.parked = n.power.parked
  battery : t.power.battery = n.power.battery
  link : t.link = n.link
  image : t.loader.image = n.loader.image
  alarmState : t.alarm.state = n.alarm.state
  silenced : t.alarm.silenced = n.alarm.silenced
  remote : t.alarm.remote = n.alarm.remote
  testSound : t.alarm.testSound = n.alarm.testSound
  notices : t.alarm.notices = n.alarm.notices
  lastEvent : t.alarm.lastEvent = n.alarm.lastEvent
  walkTest : t.alarm.walkTest = n.alarm.walkTest
  origins : t.alarm.origins = n.alarm.origins
  wantFast : t.alarm.wantFast = n.alarm.wantFast

theorem Node.SameShow.refl (n : Node) : n.SameShow n := by constructor <;> rfl

/-- The ends of a command: its own changes settled, or changes that settling does not look at. -/
inductive Node.EndsBy (c : Instr) (n : Node) : Node → Prop
  | settled {m : Node} (h : n.Changes c m) : EndsBy c n m.settle
  | aside {t : Node} (h : n.Changes c t) (hs : n.SameShow t) : EndsBy c n t

theorem Node.EndsBy.refl (c : Instr) (n : Node) : n.EndsBy c n := .aside (.refl c n) (.refl n)

theorem Node.EndsBy.ite {c : Instr} {n a b : Node} {p : Prop} [Decidable p] (ha : p → n.EndsBy c a)
    (hb : ¬p → n.EndsBy c b) : n.EndsBy c (if p then a else b) := by
  split
  · next h => exact ha h
  · next h => exact hb h

/-- The event claim and the oscillator are no block whose changes are told. -/
theorem Node.wake_changes (n : Node) (c : Instr) : n.Changes c n.wake := by
  unfold Node.wake
  exact .ite (fun _ => n.power_changes _ (.inr rfl)) (fun _ => .refl c n)

theorem Node.EndsBy.settledWoken {c : Instr} {n m : Node} (h : n.Changes c m) : n.EndsBy c m.settleWoken :=
  .settled (h.trans (m.wake_changes c))

theorem Node.EndsBy.woken {c : Instr} {n m : Node} (h : n.Changes c m) (hs : n.SameShow m) :
    n.EndsBy c m.woken := by
  rw [m.woken_eq]
  exact .aside (h.trans (m.power_changes _ (by exact .inr rfl)))
    ⟨hs.phase, hs.parked, hs.battery, hs.link, hs.image, hs.alarmState, hs.silenced, hs.remote, hs.testSound,
      hs.notices, hs.lastEvent, hs.walkTest, hs.origins, hs.wantFast⟩

/-- A change of the sensing path or of the Relay Engine alone settles nothing. -/
theorem Node.sensing_endsBy (n : Node) (x : Sensing) {c : Instr} (h : c.changesSensing = true) :
    n.EndsBy c { n with sensing := x } := .aside (n.sensing_changes x h) (by constructor <;> rfl)

/-- The outcome of a command is a next state whose node makes the command's own changes. -/
def State.EndsBy (s : State) (c : Instr) (o : Host.Outcome State Fault Refusal) : Prop :=
  ∃ n, o = s.go n ∧ s.node.EndsBy c n

/-! ## Commands with cases of their own -/

theorem Node.underflow_endsBy (n : Node) {c : Instr} (ht : c.changesTimer = true) (hs : c.changesSensing = true) :
    n.EndsBy c n.underflow :=
  .settledWoken (.trans (n.timer_changes { n.timer with count := n.timer.reload } ht) (Node.sensing_changes _ _ hs))

theorem Node.beat_endsBy (n : Node) : n.EndsBy .prescalerUnderflow n.beat :=
  .ite (fun _ => .refl _ n) (fun _ => .ite (fun _ => n.underflow_endsBy rfl rfl)
    (fun _ => .aside (n.timer_changes _ rfl) (by constructor <;> rfl)))

theorem execConfigAttempt_endsBy (read : Option (List Byte)) (noise : Byte) (s : State) :
    s.EndsBy (.configAttempt read noise) (execConfigAttempt read noise s) := by
  refine ⟨_, rfl, ?_⟩
  split
  · exact .refl _ _
  · next r _ => exact .ite (fun _ => .refl _ _) (fun _ => .settled (s.node.attemptEnds_changes r read noise noise read))

theorem execConfigRetryGap_endsBy (s : State) : s.EndsBy .configRetryGap (execConfigRetryGap s) := by
  refine ⟨_, rfl, ?_⟩
  split
  · exact .refl _ _
  · exact .ite (fun _ => .woken (s.node.loader_changes _ rfl (by exact .inr rfl)) (by constructor <;> rfl))
      (fun _ => .refl _ _)

theorem execConfirmingLimit_endsBy (s : State) : s.EndsBy .confirmingLimit (execConfirmingLimit s) := by
  refine ⟨_, rfl, .ite (fun _ => .ite (fun _ => ?_) (fun _ => ?_)) (fun _ => .refl _ _)⟩
  · exact .settledWoken (((s.node.alarm_acts s.node.alarm.toWatch rfl id).trans (Node.deliver_acts _ _)).changes rfl)
  · exact .woken (s.node.alarm_changes _ (by rfl) (.inl rfl)) (by constructor <;> rfl)

theorem execHalfPeriodMark_endsBy (s : State) : s.EndsBy .halfPeriodMark (execHalfPeriodMark s) := by
  refine ⟨_, rfl, ?_⟩
  split
  · exact .refl _ _
  · exact .ite (fun _ => .ite
      (fun _ => .aside (s.node.tx_changes _ (.inl rfl)) (by constructor <;> rfl))
      (fun _ => .aside (s.node.tx_changes _ (.inl rfl)) (by constructor <;> rfl))) (fun _ => .refl _ _)

theorem execBeaconDue_endsBy (s : State) : s.EndsBy .beaconDue (execBeaconDue s) :=
  ⟨_, rfl, .ite
    (fun _ => .settledWoken (.trans (s.node.tx_changes { s.node.tx with beaconDue := none } (.inr rfl))
      (Node.deliver_changes _ _ _)))
    (fun _ => .ite
      (fun _ => .settledWoken (.trans (s.node.tx_changes { s.node.tx with halfDue := none } (.inr rfl))
        (Node.deliver_changes _ _ _)))
      (fun _ => .refl _ _))⟩

theorem execHoldoffEnd_endsBy (s : State) : s.EndsBy .holdoffEnd (execHoldoffEnd s) := by
  refine ⟨_, rfl, .ite (fun _ => .settledWoken ?_) (fun _ => .refl _ _)⟩
  exact s.node.tx_changes _ (.inr (Transmitter.leaveIdle_served _).kept.rng)

theorem execWindowBoundary_endsBy (s : State) : s.EndsBy .windowBoundary (execWindowBoundary s) :=
  ⟨_, rfl, .ite (fun _ => .ite (fun _ => .settled (s.node.atBoundary_changes))
    (fun _ => .aside (s.node.tx_changes _ (by exact .inr rfl)) (by constructor <;> rfl))) (fun _ => .refl _ _)⟩

theorem execBackoffEnd_endsBy (s : State) : s.EndsBy .backoffEnd (execBackoffEnd s) := by
  refine ⟨_, rfl, .ite (fun _ => .settledWoken ?_) (fun _ => .refl _ _)⟩
  split
  · exact s.node.tx_changes _ (by exact .inr rfl)
  · exact s.node.tx_changes _ (by exact .inr rfl)

theorem execWindowWon_endsBy (s : State) : s.EndsBy .windowWon (execWindowWon s) := by
  refine ⟨_, rfl, ?_⟩
  split
  · exact .ite (fun _ => .settled (s.node.tx_changes _ (by exact .inr rfl))) (fun _ => .settled s.node.win_changes)
  · exact .refl _ _

theorem execSendComplete_endsBy (s : State) : s.EndsBy .sendComplete (execSendComplete s) :=
  ⟨_, rfl, .ite (fun _ => .settled (s.node.completeSend_changes.trans (Node.resumeListen_changes _)))
    (fun _ => .refl _ _)⟩

theorem execCarrierOnset_endsBy (us : Int) (s : State) : s.EndsBy (.carrierOnset us) (execCarrierOnset us s) := by
  have hcarrier : s.node.Changes (.carrierOnset us) { s.node with rx := { s.node.rx with carrier := true } } :=
    s.node.rx_changes _ (.inl rfl) (.inr ⟨rfl, rfl, rfl⟩)
  exact ⟨_, rfl, .ite (fun _ => .refl _ _) (fun _ => .ite (fun _ => .aside hcarrier (by constructor <;> rfl))
    (fun _ => .settled (hcarrier.trans (Node.onset_changes _ us))))⟩

theorem execCarrierEnd_endsBy (us : Int) (s : State) : s.EndsBy (.carrierEnd us) (execCarrierEnd us s) := by
  have hcarrier : s.node.Changes (.carrierEnd us) { s.node with rx := { s.node.rx with carrier := false } } :=
    s.node.rx_changes _ (.inl rfl) (.inr ⟨rfl, rfl, rfl⟩)
  exact ⟨_, rfl, .ite (fun _ => .ite (fun _ => .aside hcarrier (by constructor <;> rfl))
    (fun _ => .settled ((hcarrier.trans (Node.carrierGone_changes _)).trans (Node.carrierGoneEngine_changes _ us))))
    (fun _ => .refl _ _)⟩

theorem execSyncFound_endsBy (level : BitVec 7) (s : State) : s.EndsBy (.syncFound level) (execSyncFound level s) := by
  refine ⟨_, rfl, .ite (fun _ => .settled ?_) (fun _ => .refl _ _)⟩
  have hrx := s.node.rxState_changes (c := .syncFound level)
    { s.node.rx with state := .assembling, assembly := some level.toNat } rfl rfl rfl rfl
  refine hrx.trans (Node.power_changes _ _ (.inr ?_))
  cases s.node.power.phase == .patrol <;> rfl

theorem execBadLength_endsBy (len : Byte) (s : State) : s.EndsBy (.badLength len) (execBadLength len s) :=
  ⟨_, rfl, .ite (fun _ => .settled (.trans (s.node.rxState_changes { s.node.rx with state := .flushing, assembly := none }
    rfl rfl rfl rfl) (Node.badFrame_changes _))) (fun _ => .refl _ _)⟩

theorem execFrameEnd_endsBy (bytes : List Byte) (s : State) : s.EndsBy (.frameEnd bytes) (execFrameEnd bytes s) := by
  refine ⟨_, rfl, ?_⟩
  split
  · exact .settled (s.node.endAssembly_changes.trans (Node.judgeEnd_changes _ _ _ rfl rfl rfl))
  · exact .refl _ _

/-- A service goes on to another step, or ends (R131, R132). -/
theorem Node.serve_changes (n : Node) (i : Nat) (step : ServiceStep) (b : Bool) {c : Instr}
    (h : c.changesSlots = true) : n.Changes c { n with rx := if b then n.rx.goTo i step else n.rx.endService i } := by
  refine n.rx_changes _ (.inr ?_) (.inl h)
  cases b
  · exact n.rx.endService_carrier i
  · rfl

theorem execSeenListCheck_endsBy (s : State) : s.EndsBy .seenListCheck (execSeenListCheck s) := by
  refine ⟨_, rfl, ?_⟩
  split
  · exact .refl _ _
  · exact .settled ((s.node.takeCopy_changes _ _).trans (Node.serve_changes _ _ _ _ rfl))

theorem execRelayOffer_endsBy (s : State) : s.EndsBy .relayOffer (execRelayOffer s) := by
  refine ⟨_, rfl, ?_⟩
  split
  · exact .refl _ _
  · exact .settled ((s.node.takeRelayOffer_changes _ _ rfl).trans (Node.serve_changes _ _ _ _ rfl))

theorem Node.reportUse_changes (n : Node) (k : FrameClass) (c : Instr) : n.Changes c (n.reportUse k) :=
  .ite (fun _ => n.power_changes _ (by exact .inr rfl)) (fun _ => .refl c n)

theorem execUseDelivery_endsBy (s : State) : s.EndsBy .useDelivery (execUseDelivery s) := by
  refine ⟨_, rfl, ?_⟩
  split
  · exact .refl _ _
  · exact .settled (((s.node.reportUse_changes _ _).trans ((Node.consume_acts _ _).changes rfl)).trans
      (Node.rx_changes _ _ (.inr (by simp)) (.inl rfl)))

theorem execEchoWindowExpiry_endsBy (s : State) : s.EndsBy .echoWindowExpiry (execEchoWindowExpiry s) := by
  refine ⟨_, rfl, ?_⟩
  split
  · exact .refl _ _
  · exact .settledWoken (s.node.missEcho_changes _ _)

theorem execResendTime_endsBy (s : State) : s.EndsBy .resendTime (execResendTime s) := by
  refine ⟨_, rfl, ?_⟩
  split
  · exact .refl _ _
  · exact .settledWoken (s.node.retry_changes _ _)

theorem execChannelCheck_endsBy (s : State) : s.EndsBy .channelCheck (execChannelCheck s) := by
  refine ⟨_, rfl, .ite (fun _ => .settledWoken ?_) (fun _ => .refl _ _)⟩
  have hlisten : s.node.Changes .channelCheck
      { s.node with power := { s.node.power with listen := some (later s.node.clock 2) } } :=
    s.node.power_changes _ (.inr rfl)
  exact .ite (fun _ => hlisten.trans (Node.beginHunt_changes _)) (fun _ => hlisten)

theorem Node.settleSerial_changes (n : Node) (c : Instr) : n.Changes c n.settleSerial :=
  .ite (fun _ => .refl c n) (fun _ => n.serial_changes n.serial.kick (.inr n.serial.kick_keeps.2.2))

theorem execOscillatorStart_endsBy (s : State) : s.EndsBy .oscillatorStart (execOscillatorStart s) := by
  refine ⟨_, rfl, .ite (fun _ => .aside ?_ ?_) (fun _ => .refl _ _)⟩
  · refine .trans (s.node.power_changes { s.node.power with oscillator := .running } (.inr rfl)) ?_
    exact .trans (Node.power_changes _ _ (by exact .inr rfl)) (Node.settleSerial_changes _ _)
  · simp only [Node.settleSerial]
    split <;> constructor <;> rfl

theorem Node.debounceTamper_changes (n : Node) : n.Changes .tamperDebounceEnd n.debounceTamper := by
  have hheld : n.Changes .tamperDebounceEnd
      { n with out := { n.out with offBase := n.out.tamperLine, tamperDebounce := none } } :=
    n.out_changes _ (.inr ⟨rfl, rfl, rfl⟩) (.inl rfl)
  unfold Node.debounceTamper
  refine .ite (fun _ => hheld) (fun _ => hheld.trans ?_)
  unfold Node.tamperChanged
  split
  · exact .refl _ _
  · exact .ite (fun _ => Node.out_changes _ _ (by exact .inr ⟨rfl, rfl, rfl⟩) (.inl rfl)) (fun _ => .refl _ _)
  · exact Node.deliver_changes _ _ _

/-- A change of the Output Driver that touches neither a pattern nor a line. -/
theorem Node.outAside_changes (n : Node) (o : Outputs) {c : Instr}
    (hpatterns : o.sounder = n.out.sounder ∧ o.red = n.out.red ∧ o.amber = n.out.amber)
    (hlines : o.tamperLine = n.out.tamperLine ∧ o.offBase = n.out.offBase ∧ o.tamperDebounce = n.out.tamperDebounce ∧
      o.testLine = n.out.testLine ∧ o.testPressed = n.out.testPressed ∧ o.testDebounce = n.out.testDebounce) :
    n.Changes c { n with out := o } := n.out_changes o (.inr hpatterns) (.inr hlines)

theorem Node.heldTwo_changes (n : Node) : n.Changes .testHold2s n.heldTwo :=
  .ite (fun _ => .refl _ n) (fun _ => .ite (fun _ => n.forcedSample_acts.changes rfl)
    (fun _ => n.outAside_changes _ (by exact ⟨rfl, rfl, rfl⟩) (by exact ⟨rfl, rfl, rfl, rfl, rfl, rfl⟩)))

theorem execTestHold2s_endsBy (s : State) : s.EndsBy .testHold2s (execTestHold2s s) :=
  ⟨_, rfl, .ite (fun _ => .settledWoken (.trans (s.node.outAside_changes _
    (by exact ⟨rfl, rfl, rfl⟩) (by exact ⟨rfl, rfl, rfl, rfl, rfl, rfl⟩)) (Node.heldTwo_changes _))) (fun _ => .refl _ _)⟩

theorem execTestHold5s_endsBy (s : State) : s.EndsBy .testHold5s (execTestHold5s s) := by
  have hacted : s.node.Changes .testHold5s { s.node with out := { s.node.out with hold := s.node.out.hold.actedFive } } :=
    s.node.outAside_changes _ ⟨rfl, rfl, rfl⟩ ⟨rfl, rfl, rfl, rfl, rfl, rfl⟩
  exact ⟨_, rfl, .ite (fun _ => .ite (fun _ => (.settledWoken (hacted.trans (Node.requestExit_changes _ rfl))))
    (fun _ => (.woken hacted (by constructor <;> rfl)))) (fun _ => .refl _ _)⟩

/-- A pattern's own step, and the overlay that ends, move the patterns only. -/
theorem Node.moveOut_changes (n : Node) (o : Outputs) {c : Instr} (h : c.movesPatterns = true)
    (hlines : o.tamperLine = n.out.tamperLine ∧ o.offBase = n.out.offBase ∧ o.tamperDebounce = n.out.tamperDebounce ∧
      o.testLine = n.out.testLine ∧ o.testPressed = n.out.testPressed ∧ o.testDebounce = n.out.testDebounce) :
    n.Changes c { n with out := o } := n.out_changes o (.inl h) (.inr hlines)

theorem execSounderStep_endsBy (s : State) : s.EndsBy .sounderStep (execSounderStep s) := by
  refine ⟨_, rfl, ?_⟩
  split
  · exact .refl _ _
  · exact .ite (fun _ => .settledWoken (s.node.moveOut_changes _ rfl (by exact ⟨rfl, rfl, rfl, rfl, rfl, rfl⟩)))
      (fun _ => .refl _ _)

theorem execIndicatorStep_endsBy (led : Led) (s : State) : s.EndsBy (.indicatorStep led) (execIndicatorStep led s) := by
  cases led with
  | red =>
    exact ⟨_, rfl, .ite (fun _ => .woken (s.node.moveOut_changes _ rfl (by exact ⟨rfl, rfl, rfl, rfl, rfl, rfl⟩))
      (by constructor <;> rfl)) (fun _ => .refl _ _)⟩
  | amber =>
    exact ⟨_, rfl, .ite (fun _ => .woken (s.node.moveOut_changes _ rfl (by exact ⟨rfl, rfl, rfl, rfl, rfl, rfl⟩))
      (by constructor <;> rfl)) (fun _ => .refl _ _)⟩

theorem execOverlayEnd_endsBy (s : State) : s.EndsBy .overlayEnd (execOverlayEnd s) := by
  refine ⟨_, rfl, ?_⟩
  split
  · exact .refl _ _
  · exact .ite (fun _ => .woken (s.node.moveOut_changes _ rfl (by exact ⟨rfl, rfl, rfl, rfl, rfl, rfl⟩))
      (by constructor <;> rfl)) (fun _ => .refl _ _)

/-! ## The serial line -/

theorem Node.completeRecord_endsBy (n : Node) (type : Byte) (payload : List Byte) (sum : Byte) {c : Instr}
    (ha : c.changesAnswers = true) (h : ∀ k, SerialCommand.ofType type = some k → k.Allowed c) :
    n.EndsBy c (n.completeRecord type payload sum) :=
  .settled (.trans (n.serial_changes n.serial.hunt (.inr rfl)) (Node.judgeSerial_changes _ type payload sum ha h))

/-- A command's own record, whole and with its right sum. -/
theorem Node.arrive_endsBy (n : Node) (k : SerialCommand) (payload : List Byte) {c : Instr} (h : k.Allowed c) :
    n.EndsBy c (n.arrive k payload) := by
  refine n.completeRecord_endsBy _ _ _ h.answers (fun j hj => ?_)
  rw [SerialCommand.ofType_type] at hj
  exact Option.some.inj hj ▸ h

/-- Bytes and records of any type may be any serial command. -/
theorem SerialCommand.allowed_of_any (k : SerialCommand) {c : Instr} (ha : c.changesAnswers = true)
    (hs : c.changesSensing = true) (hp : c.changesPeers = true) (hl : c.changesLoader = true)
    (h : c.changesAlarm = true) : k.Allowed c := ⟨ha, fun _ => ⟨hs, hp⟩, fun _ => hl, fun _ _ => .inl h⟩

theorem Node.takeByte_endsBy (n : Node) (b : Byte) : n.EndsBy (.serialByte b) (n.takeByte b) := by
  unfold Node.takeByte
  split
  · exact .ite (fun _ => .settledWoken (n.serial_changes _ (by exact .inr rfl)))
      (fun _ => .woken (.refl _ n) (.refl n))
  · simp only []
    exact .ite (fun _ => n.completeRecord_endsBy _ _ _ rfl (fun k _ => k.allowed_of_any rfl rfl rfl rfl rfl))
      (fun _ => .aside (n.serial_changes _ (.inl rfl)) (by constructor <;> rfl))

theorem execSerialRecordTimeout_endsBy (s : State) : s.EndsBy .serialRecordTimeout (execSerialRecordTimeout s) := by
  refine ⟨_, rfl, ?_⟩
  split
  · exact .refl _ _
  · next bs _ =>
    refine .ite (fun _ => .settledWoken ?_) (fun _ => .refl _ _)
    refine .trans (b := { s.node with serial := s.node.serial.hunt }) (s.node.serial_changes _ (.inr rfl)) ?_
    exact .trans (b := { s.node with
        serial := s.node.serial.hunt
        untypedRejects := if bs.isEmpty then s.node.untypedRejects + 1 else s.node.untypedRejects })
      (Node.SameBlocks.changes (by constructor <;> rfl) _) (Node.answer_changes _ _ rfl)

theorem Node.afterAnswer_changes (n : Node) (a : AnswerAction) : n.Changes .answerSent (n.afterAnswer a) := by
  cases a with
  | none => exact .refl _ n
  | park => exact n.park_changes
  | restart => exact n.restart_changes

theorem execAnswerSent_endsBy (s : State) : s.EndsBy .answerSent (execAnswerSent s) := by
  refine ⟨_, rfl, ?_⟩
  split
  · exact .settled (.trans (s.node.serial_changes _ (.inl rfl)) (Node.afterAnswer_changes _ _))
  · exact .refl _ _

theorem execEventRecordSent_endsBy (s : State) : s.EndsBy .eventRecordSent (execEventRecordSent s) :=
  ⟨_, rfl, .ite (fun _ => .settled (s.node.serial_changes _ (by exact .inr rfl))) (fun _ => .refl _ _)⟩

/-! ## Every command -/

theorem exec_endsBy (c : Instr) (s : State) : s.EndsBy c (exec c s) := by
  cases c with
  | powerOnReset => exact ⟨_, rfl, .settled s.node.repower_changes⟩
  | configAttempt read noise => exact execConfigAttempt_endsBy read noise s
  | configRetryGap => exact execConfigRetryGap_endsBy s
  | prescalerUnderflow => exact ⟨_, rfl, .ite (fun _ => s.node.beat_endsBy) (fun _ => .refl _ _)⟩
  | countStageUnderflow => exact ⟨_, rfl, .ite (fun _ => s.node.underflow_endsBy rfl rfl) (fun _ => .refl _ _)⟩
  | stageStart => exact ⟨_, rfl, .ite (fun _ => s.node.sensing_endsBy _ rfl) (fun _ => .refl _ _)⟩
  | oneShotFire => exact ⟨_, rfl, s.node.sensing_endsBy _ rfl⟩
  | emitterOff => exact ⟨_, rfl, s.node.sensing_endsBy _ rfl⟩
  | conversionDone input => exact ⟨_, rfl, s.node.sensing_endsBy _ rfl⟩
  | recordFieldCopy => exact ⟨_, rfl, .settled (s.node.copyField_changes rfl rfl rfl)⟩
  | evidencePublication => exact ⟨_, rfl, .settled (s.node.publish_changes rfl rfl rfl)⟩
  | confirmingLimit => exact execConfirmingLimit_endsBy s
  | walkTestExpiry =>
    exact ⟨_, rfl, .ite (fun _ => .settledWoken (Node.alarm_changes _ _ (by rfl) (by exact .inr ⟨rfl, rfl, rfl, rfl⟩)))
      (fun _ => .refl _ _)⟩
  | testSoundSpanEnd =>
    exact ⟨_, rfl, .ite (fun _ => .settledWoken (Node.alarm_changes _ _ (by rfl) (by exact .inr ⟨rfl, rfl, rfl, rfl⟩)))
      (fun _ => .refl _ _)⟩
  | amberEventSpanEnd =>
    exact ⟨_, rfl, .ite (fun _ => .settledWoken (Node.alarm_changes _ _ (by rfl) (by exact .inr ⟨rfl, rfl, rfl, rfl⟩)))
      (fun _ => .refl _ _)⟩
  | supervisionPeriodEnd =>
    exact ⟨_, rfl, .ite (fun _ => (.settledWoken (s.node.endPeriod_changes rfl rfl))) (fun _ => .refl _ _)⟩
  | halfPeriodMark => exact execHalfPeriodMark_endsBy s
  | beaconDue => exact execBeaconDue_endsBy s
  | holdoffEnd => exact execHoldoffEnd_endsBy s
  | quietGap => exact ⟨_, rfl, .ite (fun _ => .settled s.node.quietGap_changes) (fun _ => .refl _ _)⟩
  | windowBoundary => exact execWindowBoundary_endsBy s
  | backoffEnd => exact execBackoffEnd_endsBy s
  | windowWon => exact execWindowWon_endsBy s
  | sendComplete => exact execSendComplete_endsBy s
  | carrierOnset us => exact execCarrierOnset_endsBy us s
  | carrierEnd us => exact execCarrierEnd_endsBy us s
  | syncFound level => exact execSyncFound_endsBy level s
  | badLength len => exact execBadLength_endsBy len s
  | frameEnd bytes => exact execFrameEnd_endsBy bytes s
  | seenListCheck => exact execSeenListCheck_endsBy s
  | relayOffer => exact execRelayOffer_endsBy s
  | useDelivery => exact execUseDelivery_endsBy s
  | seenEntryExpiry => exact ⟨_, rfl, .aside (s.node.relay_changes _) (by constructor <;> rfl)⟩
  | echoWindowExpiry => exact execEchoWindowExpiry_endsBy s
  | resendTime => exact execResendTime_endsBy s
  | channelCheck => exact execChannelCheck_endsBy s
  | listenEnd =>
    exact ⟨_, rfl, .ite (fun _ => .settled (s.node.power_changes _ (by exact .inr rfl))) (fun _ => .refl _ _)⟩
  | huntExpiry =>
    exact ⟨_, rfl, .ite (fun _ => .settledWoken (s.node.power_changes _ (by exact .inr rfl))) (fun _ => .refl _ _)⟩
  | lingerExpiry =>
    exact ⟨_, rfl, .ite (fun _ => .settledWoken (s.node.power_changes _ (by exact .inr rfl))) (fun _ => .refl _ _)⟩
  | runHoldExpiry =>
    exact ⟨_, rfl, .ite (fun _ => .settledWoken (s.node.power_changes _ (by exact .inr rfl))) (fun _ => .refl _ _)⟩
  | oscillatorStart => exact execOscillatorStart_endsBy s
  | tamperLineChange offBase =>
    exact ⟨_, rfl, .ite (fun _ => .refl _ _) (fun _ => .woken
      (s.node.out_changes _ (by exact .inr ⟨rfl, rfl, rfl⟩) (.inl rfl)) (by constructor <;> rfl))⟩
  | tamperDebounceEnd =>
    exact ⟨_, rfl, .ite (fun _ => (.settledWoken s.node.debounceTamper_changes)) (fun _ => .refl _ _)⟩
  | testInputChange pressed =>
    exact ⟨_, rfl, .ite (fun _ => .refl _ _) (fun _ => .woken
      (s.node.out_changes _ (by exact .inr ⟨rfl, rfl, rfl⟩) (.inl rfl)) (by constructor <;> rfl))⟩
  | testDebounceEnd =>
    exact ⟨_, rfl, .ite (fun _ => .woken (s.node.out_changes _ (by exact .inr ⟨rfl, rfl, rfl⟩) (.inl rfl))
      (by constructor <;> rfl)) (fun _ => .refl _ _)⟩
  | testHold2s => exact execTestHold2s_endsBy s
  | testHold5s => exact execTestHold5s_endsBy s
  | sounderStep => exact execSounderStep_endsBy s
  | indicatorStep led => exact execIndicatorStep_endsBy led s
  | overlayEnd => exact execOverlayEnd_endsBy s
  | status => exact ⟨_, rfl, s.node.arrive_endsBy _ _ ⟨rfl, fun _ => ⟨rfl, rfl⟩, nofun, nofun⟩⟩
  | peers => exact ⟨_, rfl, s.node.arrive_endsBy _ _ ⟨rfl, nofun, nofun, nofun⟩⟩
  | park => exact ⟨_, rfl, s.node.arrive_endsBy _ _ ⟨rfl, nofun, nofun, nofun⟩⟩
  | restart => exact ⟨_, rfl, s.node.arrive_endsBy _ _ ⟨rfl, nofun, nofun, nofun⟩⟩
  | wake => exact ⟨_, rfl, s.node.arrive_endsBy _ _ ⟨rfl, nofun, fun _ => rfl, nofun⟩⟩
  | silence zone => exact ⟨_, rfl, s.node.arrive_endsBy _ _ ⟨rfl, nofun, nofun, fun _ _ => .inl rfl⟩⟩
  | reset zone => exact ⟨_, rfl, s.node.arrive_endsBy _ _ ⟨rfl, nofun, nofun, fun _ _ => .inl rfl⟩⟩
  | testOn zone =>
    exact ⟨_, rfl, s.node.arrive_endsBy _ _ ⟨rfl, nofun, nofun, fun _ h => .inr (.inl (by cases h; rfl))⟩⟩
  | testOff zone =>
    exact ⟨_, rfl, s.node.arrive_endsBy _ _ ⟨rfl, nofun, nofun, fun _ h => .inr (.inr (by cases h; rfl))⟩⟩
  | serialRecordTimeout => exact execSerialRecordTimeout_endsBy s
  | answerSent => exact execAnswerSent_endsBy s
  | eventRecordSent => exact execEventRecordSent_endsBy s
  | synthesiserLock locked =>
    exact ⟨_, rfl, .ite (fun _ => .refl _ _)
      (fun _ => .aside (s.node.tx_changes _ (by exact .inr rfl)) (by constructor <;> rfl))⟩
  | serialByte b => exact ⟨_, rfl, s.node.takeByte_endsBy b⟩
  | rejectedSerialRecord type payload sum =>
    exact ⟨_, rfl, s.node.completeRecord_endsBy _ _ _ rfl (fun k _ => k.allowed_of_any rfl rfl rfl rfl rfl)⟩
  | selfCheckChirpEnd =>
    exact ⟨_, rfl, .ite (fun _ => .settled (s.node.outAside_changes _ (by exact ⟨rfl, rfl, rfl⟩)
      (by exact ⟨rfl, rfl, rfl, rfl, rfl, rfl⟩))) (fun _ => .refl _ _)⟩

end Sys2Proof.Machine
end

section
/-! What settling gives to the count stage and to the patterns, and the statements about every command. -/

namespace Sys2Proof.Machine

/-! ## The count stage -/

@[simp] theorem Node.settlePower_timer (n : Node) : n.settlePower.timer = n.timer := by
  unfold Node.settlePower
  simp only []
  split
  · split <;> rfl
  · split <;> rfl
  · rfl

@[simp] theorem Node.switchRx_timer (n : Node) : n.switchRx.timer = n.timer := by
  unfold Node.switchRx
  split
  · split <;> rfl
  · split <;> rfl

@[simp] theorem Node.deferToCarrier_timer (n : Node) : n.deferToCarrier.timer = n.timer := by
  unfold Node.deferToCarrier; split <;> rfl

@[simp] theorem Node.settleOutputs_timer (n : Node) : n.settleOutputs.timer = n.timer := rfl
@[simp] theorem Node.settleOscillator_timer (n : Node) : n.settleOscillator.timer = n.timer := rfl

@[simp] theorem Node.settleSerial_timer (n : Node) : n.settleSerial.timer = n.timer := by
  unfold Node.settleSerial; split <;> rfl

/-- A FAST or SLOW request reaches the count stage exactly where the interval wanted changes (R88). -/
theorem Node.settle_timer (n : Node) :
    n.settle.timer = if n.wantsFast = n.alarm.wantFast then n.timer
      else if n.wantsFast then n.timer.fast n.cfg.role else n.timer.slow := by
  simp only [Node.settle, Node.settleSerial_timer, Node.settleOscillator_timer, Node.settleOutputs_timer,
    Node.deferToCarrier_timer, Node.switchRx_timer, Node.settlePower_timer, Node.settleInterval, beq_iff_eq]
  split <;> rfl

/-- FAST is wanted exactly where one of its causes stands (R88). -/
theorem Node.wantsFast_iff (n : Node) : n.wantsFast = true ↔
    (n.alarm.state ≠ .quiet ∨ n.alarm.walkTest.isSome = true ∨
      ∃ o ∈ n.alarm.origins, o.zone = n.cfg.zone ∧ o.address ≠ n.cfg.address) := by
  simp [Node.wantsFast, or_assoc]

theorem Node.wantAgrees_iff (n : Node) : n.wantAgrees ↔ n.alarm.wantFast = n.wantsFast :=
  (iff_congr Iff.rfl n.wantsFast_iff.symm).trans Bool.eq_iff_iff.symm

theorem Node.settle_wantAgrees (n : Node) : n.settle.wantAgrees := by
  rw [Node.wantAgrees_iff, Node.settle_wantFast]
  simp [Node.wantsFast, Node.cfg]

theorem Node.SameShow.wantAgrees {n t : Node} (h : n.SameShow t) (hn : n.wantAgrees) : t.wantAgrees := by
  unfold Node.wantAgrees Node.cfg at *
  rwa [h.wantFast, h.alarmState, h.walkTest, h.origins, h.image]

theorem Node.EndsBy.wantAgrees {c : Instr} {n t : Node} (h : n.EndsBy c t) (hn : n.wantAgrees) : t.wantAgrees := by
  cases h with
  | settled h => exact Node.settle_wantAgrees _
  | aside h hs => exact hs.wantAgrees hn

/-- A command that does not reload or seed the count stage changes it only by the request that a change of the interval
wanted sends (R88). -/
theorem Node.EndsBy.timer {c : Instr} {n t : Node} (h : n.EndsBy c t) (hc : c.changesTimer = false)
    (hr : c.resets = false) :
    t.timer = if t.alarm.wantFast = n.alarm.wantFast then n.timer
      else if t.alarm.wantFast then n.timer.fast n.cfg.role else n.timer.slow := by
  cases h with
  | settled h =>
    rw [Node.settle_timer, Node.settle_wantFast, h.timer hc, h.wantFast hr, Node.cfg, h.image hr]
    rfl
  | aside h hs => rw [if_pos hs.wantFast, h.timer hc]

/-! ## The patterns -/

/-- The node whose patterns are selected: all that comes before them in a settling. -/
def Node.beforeOutputs (n : Node) : Node := n.settleInterval.settlePower.switchRx.deferToCarrier

theorem Node.beforeOutputs_follows (n : Node) : n.FollowsFrom n.beforeOutputs :=
  (n.settleInterval_follows.trans (Node.settlePower_follows _)).trans
    ((Node.switchRx_follows _).trans (Node.deferToCarrier_follows _))

@[simp] theorem Node.settleInterval_out (n : Node) : n.settleInterval.out = n.out := by
  unfold Node.settleInterval; simp only []; split <;> rfl

@[simp] theorem Node.settlePower_out (n : Node) : n.settlePower.out = n.out := by
  unfold Node.settlePower
  simp only []
  split
  · split <;> rfl
  · split <;> rfl
  · rfl

@[simp] theorem Node.switchRx_out (n : Node) : n.switchRx.out = n.out := by
  unfold Node.switchRx
  split
  · split <;> rfl
  · split <;> rfl

@[simp] theorem Node.deferToCarrier_out (n : Node) : n.deferToCarrier.out = n.out := by
  unfold Node.deferToCarrier; split <;> rfl

theorem Node.beforeOutputs_out (n : Node) : n.beforeOutputs.out = n.out := by simp [Node.beforeOutputs]

theorem Node.beforeOutputs_phase (n : Node) : n.beforeOutputs.power.phase = n.settle.power.phase := by
  simp [Node.beforeOutputs, Node.settle]

theorem Node.settle_out (n : Node) : n.settle.out = n.beforeOutputs.settleOutputs.out := by
  simp [Node.settle, Node.beforeOutputs]

/-- START-UP and DORMANT stay, and PATROL and RUN go on between themselves (R165). -/
theorem Node.settle_phase_cases (n : Node) : n.active = false ∧ n.settle.power.phase = n.power.phase ∨
    n.active = true ∧ (n.settle.power.phase = .patrol ∨ n.settle.power.phase = .run) := by
  rw [Node.settle_phase]
  cases n.active with
  | false => exact .inl ⟨rfl, rfl⟩
  | true =>
    refine .inr ⟨rfl, ?_⟩
    cases n.onPanel || n.alarmSideCause || n.power.runHold.isSome with
    | false => exact .inl rfl
    | true => exact .inr rfl

theorem Node.active_iff (n : Node) : n.active = true ↔ n.power.phase = .patrol ∨ n.power.phase = .run := by
  simp [Node.active]

@[simp] theorem Node.settle_active (n : Node) : n.settle.active = n.active := by
  rcases n.settle_phase_cases with ⟨hact, hphase⟩ | ⟨hact, hphase⟩
  · unfold Node.active at *; rw [hphase]
  · rw [hact, Node.active_iff]; exact hphase

@[simp] theorem Node.beforeOutputs_active (n : Node) : n.beforeOutputs.active = n.active := by
  rw [← n.settle_active]; unfold Node.active; rw [n.beforeOutputs_phase]

@[simp] theorem Node.beforeOutputs_soundWanted (n : Node) : n.beforeOutputs.soundWanted = n.soundWanted := by
  have h := n.beforeOutputs_follows
  simp [Node.soundWanted, Node.faultCondition, h.alarmState, h.alarmSilenced, h.alarmRemote, h.alarmTestSound,
    h.alarmNotices, h.powerBattery, h.link]

/-- The amber pattern, by whether the node is in PATROL or RUN (R174). -/
theorem Node.amberWanted_of_active {n : Node} (h : n.active = true) : n.amberWanted =
    if n.link.state == .isolated then .isolated else if n.amberRequest then .notice else .dark := by
  rcases n.active_iff.mp h with hp | hp <;> simp [Node.amberWanted, hp]

@[simp] theorem Node.beforeOutputs_amberWanted (n : Node) : n.beforeOutputs.amberWanted = n.amberWanted := by
  have h := n.beforeOutputs_follows
  rcases n.settle_phase_cases with ⟨-, hphase⟩ | ⟨hact, -⟩
  · simp [Node.amberWanted, Node.amberRequest, Node.beforeOutputs_phase, hphase, h.powerParked, h.link,
      h.alarmNotices, h.alarmLastEvent]
  · rw [Node.amberWanted_of_active hact, Node.amberWanted_of_active (by simpa using hact)]
    simp [Node.amberRequest, h.link, h.alarmNotices, h.alarmLastEvent]

/-- Settling plays the sounder's pattern by reselection (R173). -/
theorem Node.settle_sounder (n : Node) : n.settle.out.sounder = n.selectSound := by
  rw [n.settle_out]
  simp [Node.settleOutputs, Node.selectSound, n.beforeOutputs_out, n.beforeOutputs_follows.clock]

theorem Node.settle_chirp (n : Node) : n.settle.out.chirp = if n.active then n.out.chirp else none := by
  rw [n.settle_out]
  simp [Node.settleOutputs, n.beforeOutputs_out]

theorem Node.settle_red (n : Node) : n.settle.out.red = n.selectRed := by
  have h := n.beforeOutputs_follows
  rw [n.settle_out]
  simp [Node.settleOutputs, Node.selectRed, Node.redWanted, n.beforeOutputs_out, h.clock, h.alarmState]

theorem Node.settle_amber (n : Node) : n.settle.out.amber = n.selectAmber := by
  rw [n.settle_out]
  simp [Node.settleOutputs, Node.selectAmber, n.beforeOutputs_out, n.beforeOutputs_follows.clock]

/-! ## Patterns follow their requests -/

theorem Link.state_isolated_iff (l : Link) : l.state = .isolated ↔ 256 ≤ l.efc := by
  unfold Link.state
  split
  · simp_all
  · split <;> simp_all

theorem Node.soundWanted_eq (n : Node) : n.soundWanted =
    if n.power.phase ≠ .patrol ∧ n.power.phase ≠ .run then none
    else if n.alarm.state = .alarm ∧ n.alarm.silenced = false then some .localAlarm
    else if n.alarm.remote = true ∧ n.alarm.silenced = false then some .remoteAlarm
    else if n.alarm.testSound.isSome = true then some .test
    else if (n.alarm.notices ≠ [] ∧ (n.power.battery = .low ∨ n.power.battery = .critical)) ∨
      256 ≤ n.link.efc then some .faultChirp
    else none := by
  simp only [Node.soundWanted, Node.faultCondition, Node.active, Bool.not_eq_true', Bool.or_eq_false_iff, beq_eq_false_iff_ne,
    Bool.and_eq_true, Bool.or_eq_true, beq_iff_eq, List.isEmpty_eq_false_iff, Link.state_isolated_iff]

theorem Node.amberWanted_eq (n : Node) : n.amberWanted =
    match n.power.phase with
    | .startUp => .dark
    | .dormant => if n.power.parked = true then .parked else .config
    | _ =>
      if 256 ≤ n.link.efc then .isolated
      else if n.alarm.notices ≠ [] ∨ n.alarm.lastEvent.isSome = true then .notice
      else .dark := by
  cases hp : n.power.phase <;> simp [Node.amberWanted, Node.amberRequest, hp, Link.state_isolated_iff]

theorem Node.patternsFollow_iff (n : Node) : n.PatternsFollow ↔
    n.out.sounder.map (fun p => p.pattern) = n.soundWanted ∧ n.out.red.pattern = n.redWanted ∧
      n.out.amber.pattern = n.amberWanted := by
  have hred : n.redWanted = match n.alarm.state with
    | .quiet => .off
    | .watch => .watchBlink
    | .confirming => .watchBlink
    | .alarm => .alarmFlash := by cases h : n.alarm.state <;> simp [Node.redWanted, h]
  rw [n.soundWanted_eq, n.amberWanted_eq]
  refine ⟨fun h => ⟨h.sounder, ?_, h.amber⟩, fun ⟨hs, hr, ha⟩ => ⟨hs, ?_, ha⟩⟩
  · rw [hred]; exact h.red
  · rw [hr]; exact hred

theorem Node.selectSound_pattern (n : Node) : n.selectSound.map (fun p => p.pattern) = n.soundWanted := by
  unfold Node.selectSound
  split
  · next h => simp [h]
  · next p h =>
    rw [h]
    split
    · simp [startPattern]
    · next pl _ => split <;> simp_all [startPattern]

theorem Node.selectRed_pattern (n : Node) : n.selectRed.pattern = n.redWanted := by
  rw [← n.settle_red]; exact n.settle_redPattern

theorem Node.selectAmber_pattern (n : Node) : n.selectAmber.pattern = n.amberWanted := by
  unfold Node.selectAmber
  simp only []
  split
  · next h => exact beq_iff_eq.mp h
  · rfl

theorem Node.FollowsFrom.redWanted {n t : Node} (h : n.FollowsFrom t) : t.redWanted = n.redWanted := by
  simp [Node.redWanted, h.alarmState]

theorem Node.settle_soundWanted (n : Node) : n.settle.soundWanted = n.soundWanted := by
  have h := n.settle_follows
  simp [Node.soundWanted, Node.faultCondition]

theorem Node.settle_amberWanted (n : Node) : n.settle.amberWanted = n.amberWanted := by
  rw [← n.beforeOutputs_amberWanted]
  have h := n.beforeOutputs_follows
  simp [Node.amberWanted, Node.amberRequest, n.beforeOutputs_phase, h.powerParked, h.link, h.alarmNotices,
    h.alarmLastEvent]

/-- After a settling the patterns are those their requests call for (R173, R174). -/
theorem Node.settle_patternsFollow (n : Node) : n.settle.PatternsFollow := by
  rw [Node.patternsFollow_iff, n.settle_sounder, n.settle_red, n.settle_amber, n.settle_soundWanted,
    n.settle_follows.redWanted, n.settle_amberWanted]
  exact ⟨n.selectSound_pattern, n.selectRed_pattern, n.selectAmber_pattern⟩

/-- Where nothing that decides a pattern changes and the patterns stay, they go on following. -/
theorem Node.SameShow.patternsFollow {n t : Node} (h : n.SameShow t)
    (hsounder : t.out.sounder.map (fun p => p.pattern) = n.out.sounder.map (fun p => p.pattern))
    (hred : t.out.red.pattern = n.out.red.pattern) (hamber : t.out.amber.pattern = n.out.amber.pattern)
    (hn : n.PatternsFollow) : t.PatternsFollow where
  sounder := by
    rw [hsounder, h.phase, h.alarmState, h.silenced, h.remote, h.testSound, h.notices, h.battery, h.link]
    exact hn.sounder
  red := by rw [hred, h.alarmState]; exact hn.red
  amber := by
    rw [hamber, h.phase, h.parked, h.link, h.notices, h.lastEvent]
    exact hn.amber

/-! ## The ends of a command -/

/-- A command's own changes, and what follows from them. -/
theorem Node.EndsBy.follows {c : Instr} {n t : Node} (h : n.EndsBy c t) : ∃ m, n.Changes c m ∧ m.FollowsFrom t := by
  cases h with
  | settled h => exact ⟨_, h, Node.settle_follows _⟩
  | aside h _ => exact ⟨_, h, .refl _⟩

theorem exec_powerOnReset_clock (s : State) : s.node.repower.settle.clock = 0 := by simp [Node.repower, Node.powerOn]

/-- The next state of a command, with the queue it was given. -/
theorem exec_next_ends {c : Instr} {s t : State} (h : exec c s = .next t) :
    t.pending = s.pending ∧ s.node.EndsBy c t.node := by
  obtain ⟨n, hn, hends⟩ := exec_endsBy c s
  rw [hn, State.go] at h
  obtain rfl := Host.Outcome.next.inj h
  exact ⟨rfl, hends⟩

end Sys2Proof.Machine

open Sys2Proof.Machine in
/-- Settles O2: every command ends in a next state that keeps the queue, and only POWER_ON_RESET sets the clock. -/
theorem commandsKeepTheQueueAndTheClock : Obligations.CommandsKeepTheQueueAndTheClock := by
  unfold Obligations.CommandsKeepTheQueueAndTheClock
  intro c s
  by_cases hc : c = .powerOnReset
  · subst hc
    exact ⟨{ s with node := s.node.repower.settle }, rfl, rfl, exec_powerOnReset_clock s⟩
  · obtain ⟨n, hn, hends⟩ := exec_endsBy c s
    obtain ⟨m, hchanges, hfollows⟩ := hends.follows
    exact ⟨{ s with node := n }, hn, rfl, by rw [if_neg hc]; exact hfollows.clock.trans (hchanges.clock hc)⟩

open Sys2Proof.Machine in
/-- Settles O9: the count stage is reached by FAST and SLOW where the interval wanted changes, and the interval wanted
agrees with its causes after every command. -/
theorem fastAndSlowAreSentAsTheIntervalChanges : Obligations.FastAndSlowAreSentAsTheIntervalChanges := by
  unfold Obligations.FastAndSlowAreSentAsTheIntervalChanges
  refine ⟨fun c s t h hlist hread => ?_, fun c s t h => (exec_next_ends h).2.wantAgrees⟩
  have hresets : c.changesTimer = false ∧ c.resets = false := by
    cases c <;> first | exact ⟨rfl, rfl⟩ | exact absurd rfl (hread _ _) | simp at hlist
  rw [(exec_next_ends h).2.timer hresets.1 hresets.2]
  refine ⟨fun hw => if_pos hw, fun hn hf => ?_, fun hn hs => ?_⟩
  · simp only [hn, hf, Bool.true_eq_false, if_false, if_true]
    refine ⟨fun hrun hrole => ?_, fun hdiscarded => ?_⟩
    · simp [SampleTimer.fast, hrun, hrole]
    · rcases hdiscarded with hd | hd <;> simp [SampleTimer.fast, hd]
  · simp only [hn, hs, Bool.false_eq_true, if_false]
    refine ⟨fun hrun => ?_, fun hrun => ?_⟩
    · simp [SampleTimer.slow, hrun]
    · simp [SampleTimer.slow, hrun]

open Sys2Proof.Machine in
/-- Settles O60: what a command leaves of its own changes, settling leaves too. -/
theorem blocksAreChangedByTheirOwnCommands : Obligations.BlocksAreChangedByTheirOwnCommands := by
  unfold Obligations.BlocksAreChangedByTheirOwnCommands
  intro c s t h
  obtain ⟨m, hc, hf⟩ := (exec_next_ends h).2.follows
  refine ⟨fun e => hf.sensing.trans (hc.sensing e), fun e => hf.evidence.trans (hc.evidence e),
    fun e => hf.peers.trans (hc.peers e), fun e => hf.loader.trans (hc.loader e), fun e => ?_, fun e => ?_,
    fun e => ?_, fun e => hf.rxCarrier.trans (hc.carrier e), fun e => hf.powerBattery.trans (hc.battery e),
    fun e => hf.txRng.trans (hc.generator e), fun e => hf.serialAnswers.trans (hc.answers e)⟩
  · obtain ⟨hslots, horder, hservice⟩ := hc.slots e
    exact ⟨hf.rxSlots.trans hslots, hf.rxOrder.trans horder, hf.rxService.trans hservice⟩
  · obtain ⟨hstate, horigins, hsilenced, hremote⟩ := hc.alarm e
    exact ⟨hf.alarmState.trans hstate, hf.alarmOrigins.trans horigins, hf.alarmSilenced.trans hsilenced,
      hf.alarmRemote.trans hremote⟩
  · obtain ⟨htamper, hbase, htamperBounce, htest, hpressed, htestBounce⟩ := hc.lines e
    exact ⟨hf.outTamperLine.trans htamper, hf.outOffBase.trans hbase, hf.outTamperDebounce.trans htamperBounce,
      hf.outTestLine.trans htest, hf.outTestPressed.trans hpressed, hf.outTestDebounce.trans htestBounce⟩
end

section
/-! Every command leaves the patterns to their requests: a new one at its beginning, one that stays where it was (R173,
R174). -/

namespace Sys2Proof.Machine

/-! ## What a command does to the patterns before they are selected -/

/-- `u` has `o`'s patterns, or those at rest that a reset leaves; only a pattern's own step command, an overlay's end and
the commands that take a reset or end a read touch a pattern that stays. -/
structure Outputs.MovesTo (c : Instr) (o u : Outputs) : Prop where
  sounder : u.sounder = none ∨ u.sounder.map (fun p => p.pattern) = o.sounder.map (fun p => p.pattern)
  soundStays : c.resets = false → c ≠ .sounderStep → u.sounder = o.sounder
  red : u.red = ⟨.off, 0, none⟩ ∨ u.red.pattern = o.red.pattern
  redStays : c.resets = false → c ≠ .indicatorStep .red → u.red = o.red
  amber : u.amber = ⟨.dark, 0, none⟩ ∨ u.amber.pattern = o.amber.pattern
  amberStays : c.resets = false → c ≠ .indicatorStep .amber → c ≠ .overlayEnd → u.amber = o.amber

theorem Outputs.MovesTo.of_same {c : Instr} {o u : Outputs}
    (h : u.sounder = o.sounder ∧ u.red = o.red ∧ u.amber = o.amber) : o.MovesTo c u := by
  obtain ⟨hs, hr, ha⟩ := h
  exact ⟨.inr (by rw [hs]), fun _ _ => hs, .inr (by rw [hr]), fun _ _ => hr, .inr (by rw [ha]), fun _ _ _ => ha⟩

theorem Outputs.MovesTo.refl (c : Instr) (o : Outputs) : o.MovesTo c o := .of_same ⟨rfl, rfl, rfl⟩

/-- A reset puts the patterns at rest. -/
theorem Outputs.MovesTo.of_rest {c : Instr} {o u : Outputs} (hc : c.resets = true) (hs : u.sounder = none)
    (hr : u.red = ⟨.off, 0, none⟩) (ha : u.amber = ⟨.dark, 0, none⟩) : o.MovesTo c u :=
  ⟨.inl hs, fun h => absurd hc (by simp [h]), .inl hr, fun h => absurd hc (by simp [h]), .inl ha,
    fun h => absurd hc (by simp [h])⟩

/-! ## The patterns after the command -/

/-- A pattern of `t` is one of `n`'s or begins now, and one that stays goes on, but for the commands that move it. -/
structure Node.PlaysFrom (c : Instr) (n t : Node) : Prop where
  sounder : ∀ p, t.out.sounder = some p → n.out.sounder.map (fun q => q.pattern) = some p.pattern ∨
    p = startPattern p.pattern.steps t.clock p.pattern
  soundStays : c.resets = false → c ≠ .sounderStep → ∀ p q, n.out.sounder = some p → t.out.sounder = some q →
    q.pattern = p.pattern → q = p
  red : t.out.red.pattern = n.out.red.pattern ∨
    t.out.red = startPattern t.out.red.pattern.steps t.clock t.out.red.pattern
  redStays : c.resets = false → c ≠ .indicatorStep .red → t.out.red.pattern = n.out.red.pattern → t.out.red = n.out.red
  amber : t.out.amber.pattern = n.out.amber.pattern ∨
    t.out.amber = startPattern t.out.amber.pattern.steps t.clock t.out.amber.pattern
  amberStays : c.resets = false → c ≠ .indicatorStep .amber → c ≠ .overlayEnd →
    t.out.amber.pattern = n.out.amber.pattern → t.out.amber = n.out.amber

theorem Node.PlaysFrom.of_moves {c : Instr} {n t : Node} (h : n.out.MovesTo c t.out) : n.PlaysFrom c t where
  sounder p hp := by
    rcases h.sounder with hs | hs
    · rw [hs] at hp; cases hp
    · left; rw [← hs, hp]; rfl
  soundStays hc hstep p q hp hq _ := by
    rw [h.soundStays hc hstep, hp] at hq
    exact (Option.some.inj hq).symm
  red := h.red.elim (fun hr => .inr (by rw [hr]; rfl)) .inl
  redStays hc hstep _ := h.redStays hc hstep
  amber := h.amber.elim (fun ha => .inr (by rw [ha]; rfl)) .inl
  amberStays hc hstep hov _ := h.amberStays hc hstep hov

/-- A selected sounder pattern is the one that played, or begins now. -/
theorem Node.selectSound_cases (n : Node) (p : Playing Sound) (h : n.selectSound = some p) :
    n.out.sounder = some p ∨ p = startPattern p.pattern.steps n.clock p.pattern := by
  unfold Node.selectSound at h
  split at h
  · cases h
  · split at h
    · obtain rfl := Option.some.inj h; exact .inr rfl
    · next pl hpl =>
      split at h
      · obtain rfl := Option.some.inj h; exact .inl hpl
      · obtain rfl := Option.some.inj h; exact .inr rfl

/-- Where the selected pattern is the one that played, it goes on. -/
theorem Node.selectSound_stays (n : Node) (p q : Playing Sound) (hp : n.out.sounder = some p)
    (hq : n.selectSound = some q) (h : q.pattern = p.pattern) : q = p := by
  have hwanted := n.selectSound_pattern
  rw [hq] at hwanted
  rw [Node.selectSound, ← hwanted] at hq
  simp only [Option.map_some, hp, h, beq_self_eq_true, if_true] at hq
  exact (Option.some.inj hq).symm

theorem Node.selectRed_cases (n : Node) : n.selectRed = n.out.red ∨
    n.selectRed = startPattern n.selectRed.pattern.steps n.clock n.selectRed.pattern := by
  unfold Node.selectRed
  simp only []
  split
  · exact .inl rfl
  · exact .inr rfl

theorem Node.selectRed_stays (n : Node) (h : n.selectRed.pattern = n.out.red.pattern) : n.selectRed = n.out.red := by
  have hwanted : n.redWanted = n.out.red.pattern := n.selectRed_pattern.symm.trans h
  simp [Node.selectRed, hwanted]

theorem Node.selectAmber_cases (n : Node) : n.selectAmber = n.out.amber ∨
    n.selectAmber = startPattern n.selectAmber.pattern.steps n.clock n.selectAmber.pattern := by
  unfold Node.selectAmber
  simp only []
  split
  · exact .inl rfl
  · exact .inr rfl

theorem Node.selectAmber_stays (n : Node) (h : n.selectAmber.pattern = n.out.amber.pattern) :
    n.selectAmber = n.out.amber := by
  have hwanted : n.amberWanted = n.out.amber.pattern := n.selectAmber_pattern.symm.trans h
  simp [Node.selectAmber, hwanted]

theorem Node.PlaysFrom.settled {c : Instr} {n m : Node} (h : n.out.MovesTo c m.out) : n.PlaysFrom c m.settle where
  sounder p hp := by
    rw [m.settle_sounder] at hp
    rw [m.settle_clock]
    rcases m.selectSound_cases p hp with hs | hs
    · rcases h.sounder with hnone | hsame
      · rw [hnone] at hs; cases hs
      · left; rw [← hsame, hs]; rfl
    · exact .inr hs
  soundStays hc hstep p q hp hq hpq := by
    rw [m.settle_sounder] at hq
    exact m.selectSound_stays p q (by rw [h.soundStays hc hstep, hp]) hq hpq
  red := by
    rw [m.settle_red, m.settle_clock]
    rcases m.selectRed_cases with hs | hs
    · rw [hs]; exact h.red.elim (fun hr => .inr (by rw [hr]; rfl)) .inl
    · exact .inr hs
  redStays hc hstep hr := by
    rw [m.settle_red] at hr ⊢
    rw [← h.redStays hc hstep] at hr ⊢
    exact m.selectRed_stays hr
  amber := by
    rw [m.settle_amber, m.settle_clock]
    rcases m.selectAmber_cases with hs | hs
    · rw [hs]; exact h.amber.elim (fun ha => .inr (by rw [ha]; rfl)) .inl
    · exact .inr hs
  amberStays hc hstep hov ha := by
    rw [m.settle_amber] at ha ⊢
    rw [← h.amberStays hc hstep hov] at ha ⊢
    exact m.selectAmber_stays ha

/-! ## The ends of a command -/

/-- A command leaves the patterns to their requests. -/
structure Node.ShowsBy (c : Instr) (n t : Node) : Prop where
  follow : n.PatternsFollow → t.PatternsFollow
  plays : n.PlaysFrom c t

theorem Node.ShowsBy.refl (c : Instr) (n : Node) : n.ShowsBy c n := ⟨id, .of_moves (.refl c n.out)⟩

theorem Node.ShowsBy.ite {c : Instr} {n a b : Node} {p : Prop} [Decidable p] (ha : n.ShowsBy c a)
    (hb : n.ShowsBy c b) : n.ShowsBy c (if p then a else b) := by
  split
  · exact ha
  · exact hb

theorem Node.ShowsBy.settled {c : Instr} {n m : Node} (h : n.out.MovesTo c m.out) : n.ShowsBy c m.settle :=
  ⟨fun _ => m.settle_patternsFollow, .settled h⟩

/-- A command that only moves patterns to their next step. -/
theorem Node.ShowsBy.woken {c : Instr} {n m : Node} (h : n.out.MovesTo c m.out) (hs : n.SameShow m)
    (hsounder : m.out.sounder.map (fun p => p.pattern) = n.out.sounder.map (fun p => p.pattern))
    (hred : m.out.red.pattern = n.out.red.pattern) (hamber : m.out.amber.pattern = n.out.amber.pattern) :
    n.ShowsBy c m.woken := by
  rw [m.woken_eq]
  refine ⟨fun hn => ?_, .of_moves h⟩
  have hm := hs.patternsFollow hsounder hred hamber hn
  exact ⟨hm.sounder, hm.red, hm.amber⟩

/-- A command that moves no pattern. -/
theorem Node.EndsBy.showsBy {c : Instr} {n t : Node} (h : n.EndsBy c t) (hc : c.movesPatterns = false) :
    n.ShowsBy c t := by
  cases h with
  | settled h => exact .settled (.of_same (h.patterns hc))
  | aside h hs =>
    obtain ⟨hsounder, hred, hamber⟩ := h.patterns hc
    exact ⟨hs.patternsFollow (by rw [hsounder]) (by rw [hred]) (by rw [hamber]),
      .of_moves (.of_same ⟨hsounder, hred, hamber⟩)⟩

/-! ## The commands that move a pattern -/

/-- The start of a node leaves the patterns (R179). -/
theorem Node.start_patterns (n : Node) (img : Image) (clamps : List Nat) (noise : Byte) :
    (n.start img clamps noise).out = { n.out with hold := n.out.hold.started n.clock } := by
  simp [Node.start, Node.startPeriod, Node.seed, Node.draw]

theorem Node.attemptEnds_moves (n : Node) (r : Reading) (read : Option (List Byte)) (noise b : Byte)
    (bs : Option (List Byte)) : n.out.MovesTo (.configAttempt bs b) (n.attemptEnds r read noise).out := by
  have hrefused : ∀ cause, n.out.MovesTo (.configAttempt bs b) (n.refuse cause).out := fun cause =>
    ⟨.inr rfl, nofun, .inr rfl, nofun, .inl rfl, nofun⟩
  unfold Node.attemptEnds
  split
  · split
    · exact hrefused _
    · exact .refl _ _
  · split
    · exact hrefused _
    · unfold Node.acceptImage
      split
      · rw [Node.start_patterns]; exact .of_rest rfl rfl rfl rfl
      · rw [Node.start_patterns]; exact .of_same ⟨rfl, rfl, rfl⟩

theorem Node.afterAnswer_moves (n : Node) (a : AnswerAction) : n.out.MovesTo .answerSent (n.afterAnswer a).out := by
  cases a with
  | none => exact .refl _ _
  | park => exact .of_rest rfl rfl rfl rfl
  | restart => exact .of_rest rfl rfl rfl rfl

theorem execConfigAttempt_showsBy (read : Option (List Byte)) (noise : Byte) (s : State) :
    ∃ n, execConfigAttempt read noise s = s.go n ∧ s.node.ShowsBy (.configAttempt read noise) n := by
  refine ⟨_, rfl, ?_⟩
  split
  · exact .refl _ _
  · next r _ => exact .ite (.refl _ _) (.settled (s.node.attemptEnds_moves r read noise noise read))

theorem execAnswerSent_showsBy (s : State) :
    ∃ n, execAnswerSent s = s.go n ∧ s.node.ShowsBy .answerSent n := by
  refine ⟨_, rfl, ?_⟩
  split
  · next a rest _ _ =>
    exact .settled (Node.afterAnswer_moves { s.node with serial := { s.node.serial with tx := .idle, answers := rest } } _)
  · exact .refl _ _

theorem execSounderStep_showsBy (s : State) :
    ∃ n, execSounderStep s = s.go n ∧ s.node.ShowsBy .sounderStep n := by
  refine ⟨_, rfl, ?_⟩
  split
  · exact .refl _ _
  · next pl hpl =>
    refine .ite (.settled ?_) (.refl _ _)
    rw [Node.wake_out]
    exact ⟨.inr (by simp [hpl, Playing.next]), fun _ h => absurd rfl h, .inr rfl, fun _ _ => rfl, .inr rfl,
      fun _ _ _ => rfl⟩

theorem execIndicatorStep_showsBy (led : Led) (s : State) :
    ∃ n, execIndicatorStep led s = s.go n ∧ s.node.ShowsBy (.indicatorStep led) n := by
  cases led with
  | red =>
    refine ⟨_, rfl, .ite (.woken ?_ (by constructor <;> rfl) rfl rfl rfl) (.refl _ _)⟩
    exact ⟨.inr rfl, fun _ _ => rfl, .inr rfl, fun _ h => absurd rfl h, .inr rfl, fun _ _ _ => rfl⟩
  | amber =>
    refine ⟨_, rfl, .ite (.woken ?_ (by constructor <;> rfl) rfl rfl rfl) (.refl _ _)⟩
    exact ⟨.inr rfl, fun _ _ => rfl, .inr rfl, fun _ _ => rfl, .inr rfl, fun _ h => absurd rfl h⟩

theorem execOverlayEnd_showsBy (s : State) :
    ∃ n, execOverlayEnd s = s.go n ∧ s.node.ShowsBy .overlayEnd n := by
  refine ⟨_, rfl, ?_⟩
  split
  · exact .refl _ _
  · refine .ite (.woken ?_ (by constructor <;> rfl) rfl rfl rfl) (.refl _ _)
    exact ⟨.inr rfl, fun _ _ => rfl, .inr rfl, fun _ _ => rfl, .inr rfl, fun _ _ h => absurd rfl h⟩

theorem exec_showsBy (c : Instr) (s : State) : ∃ n, exec c s = s.go n ∧ s.node.ShowsBy c n := by
  cases c with
  | powerOnReset => exact ⟨_, rfl, .settled (.of_rest rfl rfl rfl rfl)⟩
  | configAttempt read noise => exact execConfigAttempt_showsBy read noise s
  | answerSent => exact execAnswerSent_showsBy s
  | sounderStep => exact execSounderStep_showsBy s
  | indicatorStep led => exact execIndicatorStep_showsBy led s
  | overlayEnd => exact execOverlayEnd_showsBy s
  | _ =>
    obtain ⟨n, hn, hends⟩ := exec_endsBy _ s
    exact ⟨n, hn, hends.showsBy rfl⟩

/-! ## What a pattern at its beginning shows -/

/-- A sounder pattern at its beginning sounds. -/
theorem Outputs.tone_of_start {o : Outputs} {k : Sound} {now : Stamp} (h : o.sounder = some (startPattern k.steps now k)) :
    o.tone = true := by
  cases k <;> simp [Outputs.tone, h, startPattern, stepOn, Sound.steps]

theorem Outputs.redLit_of_start {o : Outputs} {k : RedPattern} {now : Stamp} (h : o.red = startPattern k.steps now k)
    (hov : o.overlay = none) : o.redLit = decide (k ≠ .off) := by
  cases k <;> simp [Outputs.redLit, h, hov, startPattern, stepOn, RedPattern.steps]

theorem Outputs.amberLit_of_start {o : Outputs} {k : AmberPattern} {now : Stamp}
    (h : o.amber = startPattern k.steps now k) (hov : o.overlay = none) : o.amberLit = decide (k ≠ .dark) := by
  cases k <;> simp [Outputs.amberLit, h, hov, startPattern, stepOn, AmberPattern.steps]

/-- The commands that take a reset or end a read are the three the statement names. -/
theorem Instr.resets_false {c : Instr}
    (h : ¬(c = .powerOnReset ∨ c = .answerSent ∨ ∃ read noise, c = .configAttempt read noise)) : c.resets = false := by
  cases c with
  | powerOnReset => exact absurd (.inl rfl) h
  | answerSent => exact absurd (.inr (.inl rfl)) h
  | configAttempt read noise => exact absurd (.inr (.inr ⟨read, noise, rfl⟩)) h
  | _ => rfl

end Sys2Proof.Machine

open Sys2Proof.Machine in
/-- Settles O48: the patterns are those their requests call for after every settling, and stay where nothing settles. -/
theorem patternsFollowTheirRequests : Obligations.PatternsFollowTheirRequests := by
  unfold Obligations.PatternsFollowTheirRequests
  intro c s t h
  obtain ⟨n, hn, hfollow, hplays⟩ := exec_showsBy c s
  rw [hn, State.go] at h
  obtain rfl := Host.Outcome.next.inj h
  refine ⟨hfollow, fun p hp hnew => ?_, fun hs hc => ?_, fun p q hp hq hpq hr hc => ?_, fun hnew => ?_,
    fun hsame hr hc => ?_, fun hnew => ?_, fun hsame hr hc hov => ?_⟩
  · have hp' := (hplays.sounder p hp).resolve_left hnew
    refine ⟨Outputs.tone_of_start (hp' ▸ hp), by rw [hp']; rfl, ?_⟩
    rw [hp']
    cases p.pattern <;> rfl
  · have hs : n.out.sounder = none := hs
    have hc : n.out.chirp = none := hc
    simp [Outputs.tone, hs, hc]
  · exact hplays.soundStays (Instr.resets_false hr) hc p q hp hq hpq
  · have hred : n.out.red = _ := hplays.red.resolve_left hnew
    refine ⟨fun hov => Outputs.redLit_of_start hred hov, by rw [hred]; rfl, ?_⟩
    show n.out.red.ends = _
    rw [hred]
    show (startPattern n.out.red.pattern.steps n.clock n.out.red.pattern).ends =
      match n.out.red.pattern with | .off => _ | .alarmFlash => _ | .watchBlink => _
    cases n.out.red.pattern <;> rfl
  · exact hplays.redStays (Instr.resets_false hr) hc hsame
  · have hamber : n.out.amber = _ := hplays.amber.resolve_left hnew
    refine ⟨fun hov => Outputs.amberLit_of_start hamber hov, by rw [hamber]; rfl, ?_⟩
    rw [hamber]
    cases n.out.amber.pattern <;> rfl
  · exact hplays.amberStays (Instr.resets_false hr) hc hov hsame
end

section
/-! What settling gives to the alarm unit, the receiver, the engine and the power holds. -/

namespace Sys2Proof.Machine

/-! ## The node before its receiver is switched -/

/-- The node once the interval wanted and the power state have followed (R88, R165). -/
def Node.poweredNode (n : Node) : Node := n.settleInterval.settlePower

theorem Node.poweredNode_follows (n : Node) : n.FollowsFrom n.poweredNode :=
  n.settleInterval_follows.trans (Node.settlePower_follows _)

@[simp] theorem Node.settleInterval_tx (n : Node) : n.settleInterval.tx = n.tx := by
  unfold Node.settleInterval; simp only []; split <;> rfl

@[simp] theorem Node.settleInterval_rx (n : Node) : n.settleInterval.rx = n.rx := by
  unfold Node.settleInterval; simp only []; split <;> rfl

@[simp] theorem Node.settleInterval_serial (n : Node) : n.settleInterval.serial = n.serial := by
  unfold Node.settleInterval; simp only []; split <;> rfl

/-- Settling changes nothing of the alarm unit but the interval wanted (R88). -/
theorem Node.settleInterval_alarm (n : Node) :
    n.settleInterval.alarm = { n.alarm with wantFast := n.wantsFast } := by
  unfold Node.settleInterval
  simp only []
  split
  · next h => rw [beq_iff_eq.mp h]
  · rfl

theorem Node.settle_alarm (n : Node) : n.settle.alarm = { n.alarm with wantFast := n.wantsFast } := by
  simp [Node.settle, Node.settleInterval_alarm]

theorem Node.poweredNode_phase (n : Node) : n.poweredNode.power.phase = n.settle.power.phase := by
  simp [Node.poweredNode, Node.settle]

/-- While the power state stays, telling it the alarm side's cause is all that is done (R165). -/
theorem Node.settlePower_of_stays (n : Node) (h : n.settlePower.power.phase = n.power.phase) :
    n.settlePower = { n with power := { n.power with alarmCause := n.alarmSideCause } } := by
  rw [Node.settlePower_phase] at h
  unfold Node.settlePower
  simp only []
  split
  · next hp =>
    have hp : n.power.phase = .patrol := hp
    split
    · next hc =>
      have hc : (n.onPanel || n.alarmSideCause || n.power.runHold.isSome) = true := hc
      simp [Node.active, hp, hc] at h
    · rfl
  · next hp =>
    have hp : n.power.phase = .run := hp
    split
    · rfl
    · next hc =>
      have hc : ¬(n.onPanel || n.alarmSideCause || n.power.runHold.isSome) = true := hc
      simp only [Node.active, hp, if_neg hc] at h
      cases h
  · rfl

/-- The power state stays over a settling. -/
def Node.PhaseStays (n : Node) : Prop := n.settle.power.phase = n.power.phase

section
variable {n : Node} (h : n.PhaseStays)
include h

theorem Node.PhaseStays.powered : n.poweredNode =
    { n.settleInterval with power := { n.power with alarmCause := n.alarmSideCause } } := by
  have hphase : n.settleInterval.settlePower.power.phase = n.settleInterval.power.phase := by
    have := n.poweredNode_phase.trans h
    simpa [Node.poweredNode] using this
  have := Node.settlePower_of_stays _ hphase
  simpa [Node.poweredNode] using this

theorem Node.PhaseStays.tx : n.poweredNode.tx = n.tx := by rw [h.powered]; simp
theorem Node.PhaseStays.rx : n.poweredNode.rx = n.rx := by rw [h.powered]; simp
theorem Node.PhaseStays.power :
    n.poweredNode.power = { n.power with alarmCause := n.alarmSideCause } := by rw [h.powered]

/-- Whether the receiver is wanted turns on the holds and the engine alone, while the power state stays (R164). -/
theorem Node.PhaseStays.rxWanted : n.poweredNode.rxWanted = n.rxWanted := by
  simp [Node.rxWanted, h.power, h.tx]

end

/-- START-UP and DORMANT stay. -/
theorem Node.phaseStays_of_inactive {n : Node} (h : n.active = false) : n.PhaseStays := by
  simp [Node.PhaseStays, Node.settle_phase, h]

/-- RUN stays while a cause stands. -/
theorem Node.phaseStays_of_run {n : Node} (h : n.power.phase = .run)
    (hc : (n.onPanel || n.alarmSideCause || n.power.runHold.isSome) = true) : n.PhaseStays := by
  simp only [Node.PhaseStays, Node.settle_phase, hc, h]; simp [Node.active, h]

/-- PATROL stays while none stands. -/
theorem Node.phaseStays_of_patrol {n : Node} (h : n.power.phase = .patrol)
    (hc : (n.onPanel || n.alarmSideCause || n.power.runHold.isSome) = false) : n.PhaseStays := by
  simp only [Node.PhaseStays, Node.settle_phase, hc, h]; simp [Node.active, h]

theorem Node.Patrolling.stays {n : Node} (h : n.Patrolling) : n.PhaseStays :=
  Node.phaseStays_of_patrol h.phase (by simp [h.role, h.alarmSide, h.hold])

theorem Node.RunByRole.stays {n : Node} (h : n.RunByRole) : n.PhaseStays :=
  Node.phaseStays_of_run h.phase (by simp [h.role])

/-! ## The receiver's switch -/

theorem Node.switchRx_state (n : Node) : n.switchRx.rx.state =
    if n.rxWanted then (if n.rx.state = .off then (if n.rx.carrier then .syncHunt else .listening) else n.rx.state)
    else .off := by
  unfold Node.switchRx
  simp only [beq_iff_eq]
  split
  · split
    · rfl
    · rfl
  · split
    · next h => exact h
    · rfl

theorem Node.switchRx_assembly (n : Node) : n.switchRx.rx.assembly =
    if n.rxWanted = true ∨ n.rx.state = .off then n.rx.assembly else none := by
  unfold Node.switchRx
  simp only [beq_iff_eq]
  split
  · next hw => simp only [hw, true_or, if_true]; split <;> rfl
  · next hw =>
    split
    · next ho => simp [ho]
    · next ho => simp [hw, ho]

theorem Node.switchRx_grid (n : Node) : n.switchRx.tx.grid =
    if n.rxWanted = true ∨ n.rx.state = .off then n.tx.grid else none := by
  unfold Node.switchRx
  simp only [beq_iff_eq]
  split
  · next hw => simp only [hw, true_or, if_true]; split <;> rfl
  · next hw =>
    split
    · next ho => simp [ho]
    · next ho => simp [hw, ho]

theorem Node.switchRx_frameHold (n : Node) : n.switchRx.power.frameHold =
    if n.rxWanted = true ∨ n.rx.state = .off then n.power.frameHold else false := by
  unfold Node.switchRx
  simp only [beq_iff_eq]
  split
  · next hw => simp only [hw, true_or, if_true]; split <;> rfl
  · next hw =>
    split
    · next ho => simp [ho]
    · next ho => simp [hw, ho]

@[simp] theorem Node.switchRx_engine (n : Node) : n.switchRx.tx.engine = n.tx.engine := by
  unfold Node.switchRx
  split
  · split <;> rfl
  · split <;> rfl

@[simp] theorem Node.switchRx_powerHolds (n : Node) : n.switchRx.power.listen = n.power.listen ∧
    n.switchRx.power.hunt = n.power.hunt ∧ n.switchRx.power.linger = n.power.linger := by
  unfold Node.switchRx
  split
  · split <;> exact ⟨rfl, rfl, rfl⟩
  · split <;> exact ⟨rfl, rfl, rfl⟩

@[simp] theorem Node.deferToCarrier_rx (n : Node) : n.deferToCarrier.rx = n.rx := by
  unfold Node.deferToCarrier; split <;> rfl

@[simp] theorem Node.settleOutputs_rx (n : Node) : n.settleOutputs.rx = n.rx := rfl
@[simp] theorem Node.settleOutputs_tx (n : Node) : n.settleOutputs.tx = n.tx := rfl
@[simp] theorem Node.settleOscillator_rx (n : Node) : n.settleOscillator.rx = n.rx := rfl
@[simp] theorem Node.settleOscillator_tx (n : Node) : n.settleOscillator.tx = n.tx := rfl
@[simp] theorem Node.settleSerial_rx (n : Node) : n.settleSerial.rx = n.rx := by
  unfold Node.settleSerial; split <;> rfl
@[simp] theorem Node.settleSerial_tx (n : Node) : n.settleSerial.tx = n.tx := by
  unfold Node.settleSerial; split <;> rfl

theorem Node.settle_rx (n : Node) : n.settle.rx = n.poweredNode.switchRx.rx := by
  simp [Node.settle, Node.poweredNode]

theorem Node.settle_tx (n : Node) : n.settle.tx = n.poweredNode.switchRx.deferToCarrier.tx := by
  simp [Node.settle, Node.poweredNode]

theorem Node.rxWanted_of_inactive {n : Node} (h : n.active = false) : n.rxWanted = false := by
  unfold Node.rxWanted
  cases hp : n.power.phase <;> simp_all [Node.active]

/-- Outside PATROL and RUN the receiver is OFF (R164). -/
theorem Node.settle_rx_off {n : Node} (h : n.active = false) : n.settle.rx.state = .off := by
  have hstays := Node.phaseStays_of_inactive h
  rw [n.settle_rx, Node.switchRx_state, hstays.rxWanted, Node.rxWanted_of_inactive h]
  rfl

/-- The receiver's state after a settling that leaves the power state (R124, R164). -/
theorem Node.PhaseStays.rxState {n : Node} (h : n.PhaseStays) : n.settle.rx.state =
    if n.rxWanted then (if n.rx.state = .off then (if n.rx.carrier then .syncHunt else .listening) else n.rx.state)
    else .off := by
  rw [n.settle_rx, Node.switchRx_state, h.rxWanted, h.rx]

theorem Node.PhaseStays.assembly {n : Node} (h : n.PhaseStays) : n.settle.rx.assembly =
    if n.rxWanted = true ∨ n.rx.state = .off then n.rx.assembly else none := by
  rw [n.settle_rx, Node.switchRx_assembly, h.rxWanted, h.rx]

/-- The holds that settling leaves, while the power state stays (R164). -/
theorem Node.PhaseStays.holds {n : Node} (h : n.PhaseStays) : n.settle.power.listen = n.power.listen ∧
    n.settle.power.hunt = n.power.hunt ∧ n.settle.power.linger = n.power.linger := by
  obtain ⟨hlisten, hhunt, hlinger⟩ := Node.switchRx_powerHolds n.poweredNode
  have hpower : n.settle.power.listen = n.poweredNode.switchRx.power.listen ∧
      n.settle.power.hunt = n.poweredNode.switchRx.power.hunt ∧
      n.settle.power.linger = n.poweredNode.switchRx.power.linger := by
    unfold Node.settle
    rw [Node.settleSerial_power]
    simp [Node.settleOscillator, Node.poweredNode]
  obtain ⟨hl, hh, hg⟩ := hpower
  rw [hl, hh, hg, hlisten, hhunt, hlinger, h.power]
  exact ⟨rfl, rfl, rfl⟩

theorem Node.PhaseStays.frameHold {n : Node} (h : n.PhaseStays) : n.settle.power.frameHold =
    if n.rxWanted = true ∨ n.rx.state = .off then n.power.frameHold else false := by
  have hpower : n.settle.power.frameHold = n.poweredNode.switchRx.power.frameHold := by
    unfold Node.settle
    rw [Node.settleSerial_power]
    simp [Node.settleOscillator, Node.poweredNode]
  rw [hpower, Node.switchRx_frameHold, h.rxWanted, h.rx, h.power]

/-- An engine in GAP or WAIT defers to the carrier that a receiver that is on hears (R113). -/
def Node.defers (n : Node) : Prop :=
  (n.tx.engine = .gap ∨ n.tx.engine = .wait) ∧ n.rx.carrier = true ∧ n.rxWanted = true

theorem Node.switchRx_on_iff (n : Node) : n.switchRx.rx.state ≠ .off ↔ n.rxWanted = true := by
  rw [Node.switchRx_state]
  split
  · next hw =>
    refine ⟨fun _ => hw, fun _ => ?_⟩
    split
    · split <;> nofun
    · next ho => exact ho
  · next hw => exact ⟨fun h => absurd rfl h, fun h => absurd h hw⟩

@[simp] theorem Node.switchRx_carrier (n : Node) : n.switchRx.rx.carrier = n.rx.carrier :=
  n.switchRx_follows.rxCarrier

open Classical in
theorem Node.PhaseStays.engine {n : Node} (h : n.PhaseStays) :
    n.settle.tx.engine = if n.defers then .deferred else n.tx.engine := by
  rw [n.settle_tx]
  have hcond : ((n.poweredNode.switchRx.tx.engine == .gap || n.poweredNode.switchRx.tx.engine == .wait) &&
      n.poweredNode.switchRx.rx.carrier && n.poweredNode.switchRx.rx.state != .off) = true ↔ n.defers := by
    simp only [Bool.and_eq_true, Bool.or_eq_true, beq_iff_eq, bne_iff_ne, Node.switchRx_on_iff, Node.switchRx_engine,
      Node.switchRx_carrier, h.tx, h.rx, h.rxWanted, Node.defers, and_assoc]
  unfold Node.deferToCarrier
  by_cases hd : n.defers
  · rw [if_pos (hcond.mpr hd), if_pos hd]
  · rw [if_neg (fun hb => hd (hcond.mp hb)), if_neg hd, Node.switchRx_engine, h.tx]

/-- The boundary grid after a settling that leaves the power state (R113). -/
theorem Node.PhaseStays.grid {n : Node} (h : n.PhaseStays) (hd : ¬n.defers) : n.settle.tx.grid =
    if n.rxWanted = true ∨ n.rx.state = .off then n.tx.grid else none := by
  have hengine : n.poweredNode.switchRx.deferToCarrier = n.poweredNode.switchRx := by
    refine if_neg (fun hb => hd ?_)
    simp only [Bool.and_eq_true, Bool.or_eq_true, beq_iff_eq, bne_iff_ne, Node.switchRx_on_iff, Node.switchRx_engine,
      Node.switchRx_carrier, h.tx, h.rx, h.rxWanted] at hb
    exact ⟨hb.1.1, hb.1.2, hb.2⟩
  rw [n.settle_tx, hengine, Node.switchRx_grid, h.rxWanted, h.rx, h.tx]

end Sys2Proof.Machine
end

section
/-! Time, the reset, and the configuration read. -/

namespace Sys2Proof.Machine

/-! ## Time -/

theorem mem_dueIf {b : Bool} {c d : Instr} : c ∈ dueIf b d ↔ b = true ∧ c = d := by
  unfold dueIf
  cases b <;> simp

/-- No timer's command is the prescaler's underflow (R160). -/
theorem Node.prescaler_not_due (n : Node) : Instr.prescalerUnderflow ∉ n.dueNow := by
  intro h
  unfold Node.dueNow at h
  simp only [List.mem_append, mem_dueIf, reduceCtorEq, and_false, or_false] at h

/-- A tick makes the prescaler underflow at each multiple of 128 (R2). -/
theorem Node.prescaler_mem_tick (n : Node) : Instr.prescalerUnderflow ∈ n.tickEvents ++ n.dueNow ↔
    n.clock.toNat % 128 = 0 := by
  rw [List.mem_append, or_iff_left n.prescaler_not_due]
  simp [Node.tickEvents, mem_dueIf]

/-! ## The count stage -/

theorem Node.underflow_timer (n : Node) (h : n.wantsFast = n.alarm.wantFast) :
    n.underflow.timer.count = n.timer.reload := by
  unfold Node.underflow Node.settleWoken
  rw [Node.settle_timer, if_pos]
  · simp [Node.request]
  · simpa [Node.wantsFast, Node.request, Node.cfg] using h

/-! ## The reset -/

/-- The power-on values need no settling. -/
theorem Node.repower_settle (n : Node) : n.repower.settle = n.repower := by
  cases htamper : n.out.tamperLine <;> cases htest : n.out.testLine <;>
    simp [Node.settle, Node.repower, Outputs.repowered, htamper, htest] <;> rfl

/-! ## The start -/

/-- The start of a node whose head is on its base reports nothing (R179). -/
theorem Node.start_of_onBase (n : Node) (img : Image) (clamps : List Nat) (noise : Byte) (h : n.out.offBase = false) :
    n.start img clamps noise = Node.startPeriod (Node.seed
      { n with
        loader := ⟨some img, clamps, none, none⟩
        timer := .started
        power := n.power.started img.role n.clock
        out := { n.out with hold := n.out.hold.started n.clock } } img.address noise) := by
  simp [Node.start, Node.startPeriod, Node.seed, Node.draw, h, Node.scheduleBeacons, Node.deliver]

end Sys2Proof.Machine

open Sys2Proof.Machine in
/-- Settles O1: a step is its definition's case of a queue that is not empty. -/
theorem stepRunsFrontCommand : Obligations.StepRunsFrontCommand := by
  unfold Obligations.StepRunsFrontCommand
  intro s c rest h
  simp [step, h]

open Sys2Proof.Machine in
/-- Settles O3: what an idle step does, and the three cases of a prescaler underflow. -/
theorem tickFeedsPrescaler : Obligations.TickFeedsPrescaler := by
  unfold Obligations.TickFeedsPrescaler
  refine ⟨fun s hempty hdue => ?_, fun s hclock => ⟨fun hstopped => ?_, fun hrun hcount => ?_, fun hrun hcount hw => ?_⟩⟩
  · refine ⟨s.idle, by simp [step, hempty], ?_⟩
    have hidle : s.idle = { s with node := s.node.ticked, pending := s.node.ticked.tickEvents ++ s.node.ticked.dueNow } := by
      simp [State.idle, hdue]
    rw [hidle]
    exact ⟨rfl, s.node.ticked.prescaler_mem_tick⟩
  · simp [exec, execPrescalerUnderflow, hclock, Node.beat, hstopped, State.go]
  · have hle : ¬s.node.timer.count ≤ 1 := by omega
    simp [exec, execPrescalerUnderflow, hclock, Node.beat, hrun, hle, State.go]
  · refine ⟨{ s with node := s.node.underflow }, ?_, s.node.underflow_timer hw⟩
    simp [exec, execPrescalerUnderflow, hclock, Node.beat, hrun, hcount, State.go]

open Sys2Proof.Machine in
/-- Settles O4, by evaluation of the reset state. -/
theorem resetLeavesStartUp : Obligations.ResetLeavesStartUp := by
  unfold Obligations.ResetLeavesStartUp
  have hbounded : State.reset.node.Bounded := by constructor <;> decide
  have hsilent : State.reset.node.Silent := by constructor <;> decide
  have hfollow : State.reset.node.PatternsFollow := by constructor <;> decide
  have hserves : State.reset.node.OscillatorServes := by constructor <;> decide
  have hagrees : State.reset.node.wantAgrees := by rw [Node.wantAgrees_iff]; rfl
  exact ⟨rfl, rfl, rfl, rfl, rfl, rfl, rfl, rfl, rfl, rfl, rfl, rfl, rfl, rfl, rfl, rfl, rfl, rfl, rfl, rfl, rfl, rfl,
    rfl, rfl, rfl, rfl, rfl, rfl, rfl, rfl, hagrees, by decide, hbounded, ⟨rfl, rfl⟩, hsilent, hfollow, hserves⟩

open Sys2Proof.Machine in
/-- Settles O5: the reset's node is its own settling, and its debounces begin from the lines' levels. -/
theorem powerOnResetGivesPowerOnValues : Obligations.PowerOnResetGivesPowerOnValues := by
  unfold Obligations.PowerOnResetGivesPowerOnValues
  intro s
  show State.go s s.node.repower.settle = _
  rw [s.node.repower_settle, State.go]
  cases htamper : s.node.out.tamperLine <;> cases htest : s.node.out.testLine <;>
    simp [Node.repower, Outputs.repowered, debounceFrom, htamper, htest] <;> decide
end

section
/-! The configuration read: the accepted image that starts the node, the refused read and the failed attempt. -/

namespace Sys2Proof.Machine

/-- A wake source whose change nothing follows from leaves the changed node but for the oscillator and its claims. -/
theorem State.go_woken (s : State) (m : Node) : ∃ claims osc, s.go m.woken =
    .next { s with node := { m with power := { m.power with claims := claims, oscillator := osc } } } :=
  ⟨_, _, congrArg s.go m.woken_eq⟩

/-- What an exit read sets before the start, and a start-up read leaves (R168, R179). -/
def Node.readEnds (n : Node) (exit : Bool) : Node := if exit then n.leaveDormant else n

theorem Node.acceptImage_eq (n : Node) (exit : Bool) (img : Image) (clamps : List Nat) (noise : Byte) :
    n.acceptImage exit img clamps noise = (n.readEnds exit).start img clamps noise := by
  cases exit <;> rfl

/-- An attempt that ends, on the running oscillator and outside its gap (R178). -/
theorem exec_configAttempt {s : State} {r : Reading} {read : Option (List Byte)} {noise : Byte}
    (hread : s.node.loader.read = some r) (hgap : r.gap = none) (hosc : s.node.power.oscillator = .running) :
    exec (.configAttempt read noise) s = .next { s with node := (s.node.attemptEnds r read noise).settle } := by
  simp [exec, execConfigAttempt, hread, hgap, hosc, State.go]

/-- The started node before its settling: the image and its clamps in force, and what R179 sets. -/
structure Node.Started (n : Node) (img : Image) (clamps : List Nat) (noise : Byte) (t : Node) : Prop where
  clock : t.clock = n.clock
  loader : t.loader = ⟨some img, clamps, none, none⟩
  timer : t.timer = .started
  sensing : t.sensing = n.sensing
  evidence : t.evidence = n.evidence
  peers : t.peers = { n.peers with periodEnd := some (later n.clock img.period) }
  alarm : t.alarm = n.alarm
  relay : t.relay = { n.relay with originSeq := (rngDraw (img.address ++ noise)).setWidth 8 }
  link : t.link = n.link
  power : t.power = n.power.started img.role n.clock
  rng : t.tx.rng = rngDraw (rngDraw (img.address ++ noise))
  beaconDue : t.tx.beaconDue = some (later n.clock ((rngDraw (rngDraw (img.address ++ noise))).toNat % 2048))
  halfMark : t.tx.halfMark = some (later n.clock (img.period / 2))
  queue : t.tx.queue = n.tx.queue
  oneHop : t.tx.oneHop = n.tx.oneHop

theorem Node.start_started (n : Node) (img : Image) (clamps : List Nat) (noise : Byte) (h : n.out.offBase = false) :
    n.Started img clamps noise (n.start img clamps noise) := by
  rw [n.start_of_onBase img clamps noise h]
  constructor <;> rfl

/-- The RUN causes of a started node whose alarm side is at rest and which no report holds: its role alone. -/
theorem Node.Started.phase {n t : Node} {img : Image} {clamps : List Nat} {noise : Byte}
    (h : n.Started img clamps noise t) (halarm : n.alarm = .atReset) (hhold : n.power.runHold = none) :
    t.PhaseStays ∧ t.power.phase = if img.role = .panelAttached then .run else .patrol := by
  have hcause : t.alarmSideCause = false := by simp [Node.alarmSideCause, h.alarm, halarm, AlarmUnit.atReset]
  have hrun : t.power.runHold = none := by rw [h.power]; exact hhold
  have hpanel : t.onPanel = (img.role == .panelAttached) := by simp [Node.onPanel, h.loader]
  by_cases hrole : img.role = .panelAttached
  · have hphase : t.power.phase = .run := by simp [h.power, Power.started, hrole]
    exact ⟨Node.phaseStays_of_run hphase (by simp [hpanel, hrole]), by rw [if_pos hrole]; exact hphase⟩
  · have hphase : t.power.phase = .patrol := by simp [h.power, Power.started, hrole]
    exact ⟨Node.phaseStays_of_patrol hphase (by simp [hpanel, hrole, hcause, hrun]), by rw [if_neg hrole]; exact hphase⟩

/-- A rested alarm side wants SLOW, as it was told. -/
theorem Node.wantsFast_of_rest {n : Node} (h : n.alarm = .atReset) : n.wantsFast = false := by
  simp [Node.wantsFast, h, AlarmUnit.atReset]

/-- The refused read leaves the node DORMANT, and the settling keeps it there (R167). -/
theorem Node.refuse_inactive (n : Node) (cause : ReadCause) : (n.refuse cause).active = false := rfl

theorem Node.refuse_amber (n : Node) (cause : ReadCause) :
    (n.refuse cause).settle.out.amber = ⟨.config, 0, some (later n.clock 512)⟩ := by
  rw [Node.settle_amber]
  rfl

end Sys2Proof.Machine

open Sys2Proof.Machine in
/-- Settles O6: the started node, and the little that its settling changes. -/
theorem acceptedImageStartsNode : Obligations.AcceptedImageStartsNode := by
  unfold Obligations.AcceptedImageStartsNode
  intro s r bs noise img clamps hread hgap hosc hjudge halarm hhold hbase
  have hready : (s.node.readEnds r.exit).out.offBase = false ∧ (s.node.readEnds r.exit).alarm = .atReset ∧
      (s.node.readEnds r.exit).power.runHold = none := by
    cases r.exit <;> exact ⟨hbase, halarm, hhold⟩
  have hsame : (s.node.readEnds r.exit).clock = s.node.clock ∧ (s.node.readEnds r.exit).peers = s.node.peers ∧
      (s.node.readEnds r.exit).relay = s.node.relay ∧ (s.node.readEnds r.exit).link = s.node.link ∧
      (s.node.readEnds r.exit).power = s.node.power ∧ (s.node.readEnds r.exit).tx.queue = s.node.tx.queue := by
    cases r.exit <;> exact ⟨rfl, rfl, rfl, rfl, rfl, rfl⟩
  obtain ⟨hbase', halarm', hhold'⟩ := hready
  obtain ⟨hclock, hpeers, hrelay, hlink, hpower, hqueue⟩ := hsame
  have h := (s.node.readEnds r.exit).start_started img clamps noise hbase'
  obtain ⟨hstays, hphase⟩ := h.phase halarm' hhold'
  have hrest := Node.wantsFast_of_rest (h.alarm.trans halarm')
  have hexec : exec (.configAttempt (some bs) noise) s =
      .next { s with node := ((s.node.readEnds r.exit).start img clamps noise).settle } := by
    rw [exec_configAttempt hread hgap hosc, ← Node.acceptImage_eq]
    simp [Node.attemptEnds, hjudge]
  refine ⟨_, hexec, rfl, ?_⟩
  simp only [Node.settle_clock, Node.settle_loader, Node.settle_peers, Node.settle_txRng, Node.settle_relay,
    Node.settle_txBeaconDue, Node.settle_txHalfMark, Node.settle_txQueue, Node.settle_link, Node.settle_powerBattery,
    Node.settle_evidence, Node.settle_sensing, Node.settle_txOneHop, Node.settle_alarm, hrest, hstays.holds.2.2]
  rw [hstays, h.clock, h.loader, h.peers, h.rng, h.relay, h.beaconDue, h.halfMark, h.queue, h.link, h.evidence,
    h.sensing, h.oneHop, h.alarm, hclock, hpeers, hrelay, hlink, hqueue, hphase]
  refine ⟨rfl, rfl, ?_, rfl, rfl, rfl, rfl, rfl, rfl, ?_, rfl, fun hp => ?_, fun hp => ?_, fun he => ?_, fun he => ?_⟩
  · have hwant : ((s.node.readEnds r.exit).start img clamps noise).alarm.wantFast = false := by
      rw [h.alarm, halarm']; rfl
    rw [Node.settle_timer, hrest, hwant, h.timer]
    rfl
  · rw [halarm', halarm]; rfl
  · rw [h.power]; simp [Power.started, startBattery, hp]
  · rw [h.power]; simp [Power.started, startBattery, hp, hclock]
  · rw [he]; exact ⟨rfl, rfl, rfl⟩
  · rw [he]; exact ⟨rfl, rfl, rfl⟩

open Sys2Proof.Machine in
/-- Settles O7: the refusal, the failed attempt's gap, and the next attempt. -/
theorem readsFailOrAreRefused : Obligations.ReadsFailOrAreRefused := by
  unfold Obligations.ReadsFailOrAreRefused
  refine ⟨fun s r read noise cause hread hgap hosc hrefused => ?_, fun s a exit noise hread ha hosc => ?_,
    fun s a gap exit hread hreached => ?_⟩
  · have hends : s.node.attemptEnds r read noise = s.node.refuse cause := by
      rcases hrefused with ⟨rfl, hthird, rfl⟩ | ⟨bs, rfl, hjudge⟩
      · simp [Node.attemptEnds, hthird]
      · simp [Node.attemptEnds, hjudge]
    have hinactive := s.node.refuse_inactive cause
    refine ⟨_, exec_configAttempt hread hgap hosc, rfl, ?_⟩
    simp only [hends, Node.settle_loader, Node.settle_powerParked, Node.settle_evidence, Node.settle_sensing, Node.settle_peers,
      Node.settle_txQueue, Node.settle_clock, Node.settle_rx_off hinactive, s.node.refuse_amber cause]
    exact ⟨rfl, Node.phaseStays_of_inactive hinactive, rfl, trivial, trivial, rfl, rfl, rfl, rfl, rfl⟩
  · have hends : s.node.attemptEnds ⟨a, none, exit⟩ none noise =
        { s.node with loader := { s.node.loader with read := some ⟨a, some (later s.node.clock 10), exit⟩ } } := by
      simp only [Node.attemptEnds, if_neg (show ¬3 ≤ a by omega)]
      rfl
    refine ⟨_, exec_configAttempt hread rfl hosc, rfl, ?_⟩
    rw [← hends]
    exact Node.settle_follows _
  · obtain ⟨claims, osc, hwoken⟩ := s.go_woken
      { s.node with loader := { s.node.loader with read := some ⟨a + 1, none, exit⟩ } }
    refine ⟨claims, osc, ?_⟩
    rw [← hwoken]
    simp [exec, execConfigRetryGap, hread, due, hreached]
end

section
/-! The sensing path: sample requests, the stages of a cycle, conversions, and the record mover. -/

namespace Sys2Proof.Machine

/-! ## Buffers -/

section
variable (s : Sensing) (i : Bool) (b : Buffer)

@[simp] theorem Sensing.setBuf_buf_self : (s.setBuf i b).buf i = b := by cases i <;> rfl
@[simp] theorem Sensing.setBuf_buf_not : (s.setBuf i b).buf (!i) = s.buf (!i) := by cases i <;> rfl
@[simp] theorem Sensing.setBuf_pendingRequest : (s.setBuf i b).pendingRequest = s.pendingRequest := by cases i <;> rfl
@[simp] theorem Sensing.setBuf_cycleCounter : (s.setBuf i b).cycleCounter = s.cycleCounter := by cases i <;> rfl
@[simp] theorem Sensing.setBuf_cycle : (s.setBuf i b).cycle = s.cycle := by cases i <;> rfl
@[simp] theorem Sensing.setBuf_buffer : (s.setBuf i b).buffer = s.buffer := by cases i <;> rfl
@[simp] theorem Sensing.setBuf_rail : (s.setBuf i b).rail = s.rail := by cases i <;> rfl
@[simp] theorem Sensing.setBuf_divider : (s.setBuf i b).divider = s.divider := by cases i <;> rfl
@[simp] theorem Sensing.setBuf_converting : (s.setBuf i b).converting = s.converting := by cases i <;> rfl
@[simp] theorem Sensing.setBuf_holding : (s.setBuf i b).holding = s.holding := by cases i <;> rfl
@[simp] theorem Sensing.setBuf_stampWaiting : (s.setBuf i b).stampWaiting = s.stampWaiting := by cases i <;> rfl
@[simp] theorem Sensing.setBuf_mover : (s.setBuf i b).mover = s.mover := by cases i <;> rfl
@[simp] theorem Sensing.setBuf_input : (s.setBuf i b).input = s.input := by cases i <;> rfl
@[simp] theorem Sensing.setBuf_skipped : (s.setBuf i b).skipped = s.skipped := by cases i <;> rfl

end

/-! ## Sample requests -/

/-- The count stage's underflow raises one request, whatever follows from it (R3, R7). -/
theorem Node.underflow_sensing (n : Node) : n.underflow.sensing = n.sensing.request n.cfg.role := by
  simp [Node.underflow, Node.settleWoken, Node.request, Node.cfg]

theorem Node.underflow_follows (n : Node) : (Node.request { n with timer := { n.timer with count := n.timer.reload } }).FollowsFrom
    n.underflow := Node.settleWoken_follows _

theorem exec_countStageUnderflow {s : State} (hrun : s.node.timer.running = true) (hcount : s.node.timer.count ≤ 1) :
    exec .countStageUnderflow s = .next { s with node := s.node.underflow } := by
  simp [exec, execCountStageUnderflow, hrun, hcount, State.go]

/-- A RUNNING sequencer only takes the flag (R7). -/
theorem Sensing.request_of_running {s : Sensing} {role : Role} (h : s.stage ≠ .idle) :
    s.request role = { s with pendingRequest := true } := by
  simp [Sensing.request, h]

theorem Sensing.request_of_idle {s : Sensing} {role : Role} (h : s.stage = .idle) :
    s.request role = s.startCycle role := by
  simp [Sensing.request, h]

/-- A cycle's start, on a node that reads the optical path (R8, R15). -/
theorem Sensing.startCycle_of_optical {s : Sensing} {role : Role} (h : role ≠ .repeater) :
    s.startCycle role =
      { (Sensing.markBuf { s with cycleCounter := s.cycleCounter + 1, pendingRequest := false, stage := .idle }
          s.chooseBuffer.1 .filling) with
        stage := .settle, cycle := s.cycleCounter, buffer := s.chooseBuffer.1, rail := true, divider := false
        skipped := if s.chooseBuffer.2 then countUp s.skipped else s.skipped } := by
  simp [Sensing.startCycle, h]

/-- On a REPEATER a cycle starts at a multiple of 64 only (R20). -/
theorem Sensing.startCycle_of_repeater (s : Sensing) :
    (s.cycleCounter.toNat % 64 ≠ 0 → s.startCycle .repeater =
      { s with cycleCounter := s.cycleCounter + 1, pendingRequest := false, stage := .idle }) ∧
    (s.cycleCounter.toNat % 64 = 0 → (s.startCycle .repeater).stage = .settle ∧ (s.startCycle .repeater).rail = true ∧
      (s.startCycle .repeater).divider = true ∧ (s.startCycle .repeater).cycle = s.cycleCounter) := by
  refine ⟨fun h => ?_, fun h => ?_⟩
  · simp [Sensing.startCycle, batteryCycle, h]
  · simp [Sensing.startCycle, batteryCycle, h]

theorem Sensing.chooseBuffer_eq (s : Sensing) :
    (s.buffer0.state = .free → s.chooseBuffer = (false, false)) ∧
    (s.buffer0.state ≠ .free → s.buffer1.state = .free → s.chooseBuffer = (true, false)) ∧
    (s.buffer0.state = .complete → s.buffer1.state = .copying → s.chooseBuffer = (false, true)) ∧
    (s.buffer0.state = .copying → s.buffer1.state = .complete → s.chooseBuffer = (true, true)) := by
  refine ⟨fun h => ?_, fun h0 h1 => ?_, fun h0 h1 => ?_, fun h0 h1 => ?_⟩
  · simp [Sensing.chooseBuffer, h]
  · simp [Sensing.chooseBuffer, h0, h1]
  · simp [Sensing.chooseBuffer, h0, h1]
  · simp [Sensing.chooseBuffer, h0, h1]

/-! ## The free port -/

/-- The first stage of a cycle: with the port free, its stamp is written at once (R9, R17). -/
theorem Sensing.requestPort_firstStage {s : Sensing} (role : Role) (st : Stage) (k : Conversion) (now : Stamp)
    (hmover : s.mover = none) (hholding : s.holding = none) :
    Sensing.requestPort { s with stage := st, stampWaiting := some now, converting := some k } role =
      { (s.setBuf s.buffer { s.buf s.buffer with record := { (s.buf s.buffer).record with stamp := now } }) with
        stage := st, stampWaiting := none, converting := some k } := by
  cases hb : s.buffer <;>
    simp [Sensing.requestPort, hmover, Sensing.grantWrites, hholding, hb, Sensing.setBuf, Sensing.buf]

end Sys2Proof.Machine

open Sys2Proof.Machine in
/-- Settles O8: the request of an underflow, by the sequencer's state and the role. -/
theorem sampleRequestsStartCycles : Obligations.SampleRequestsStartCycles := by
  unfold Obligations.SampleRequestsStartCycles
  refine ⟨fun s hrun hcount => ?_, fun s hrun hcount hrole hidle => ?_, fun s hrole hosc hsettle hmover hholding => ?_⟩
  · have hf := s.node.underflow_follows
    refine ⟨_, exec_countStageUnderflow hrun hcount, rfl, hf.clock, s.node.underflow_timer, hf.evidence, hf.txQueue, ?_⟩
    simp only [Node.underflow_sensing]
    refine ⟨Sensing.request_of_running, fun hidle hrole => ?_⟩
    rw [Sensing.request_of_idle hidle, Sensing.startCycle_of_optical hrole]
    obtain ⟨hfree0, hfree1, hcomplete0, hcomplete1⟩ := s.node.sensing.chooseBuffer_eq
    refine ⟨rfl, rfl, by simp [Sensing.markBuf], rfl, by simp [Sensing.markBuf], fun h0 => ?_, fun h0 h1 => ?_,
      fun h0 h1 => ?_, fun h0 h1 => ?_⟩
    · rw [hfree0 h0]; exact ⟨rfl, rfl, rfl, rfl⟩
    · rw [hfree1 h0 h1]; exact ⟨rfl, rfl, rfl, rfl⟩
    · rw [hcomplete0 h0 h1]; exact ⟨rfl, rfl, rfl, rfl⟩
    · rw [hcomplete1 h0 h1]; exact ⟨rfl, rfl, rfl, rfl⟩
  · obtain ⟨hadvances, hstarts⟩ := s.node.sensing.startCycle_of_repeater
    refine ⟨_, exec_countStageUnderflow hrun hcount, ?_⟩
    simp only [Node.underflow_sensing, hrole, Sensing.request_of_idle hidle]
    refine ⟨fun h => ?_, hstarts⟩
    rw [hadvances h, hidle]
  · refine ⟨{ s with node := { s.node with sensing := s.node.sensing.nextStage s.node.cfg.role s.node.clock } },
      by simp [exec, execStageStart, hosc, State.go], rfl, ?_⟩
    have hstage : s.node.sensing.nextStage s.node.cfg.role s.node.clock =
        Sensing.requestPort { s.node.sensing with
          stage := .battery, stampWaiting := some s.node.clock, converting := some .battery } .repeater := by
      simp [Sensing.nextStage, hsettle, hrole]
    simp only [hstage]
    rw [Sensing.requestPort_firstStage _ _ _ _ hmover hholding]
    cases hb : s.node.sensing.buffer <;> exact ⟨rfl, rfl, rfl⟩

open Sys2Proof.Machine in
/-- Settles O10: each stage's case of STAGE_START, and the one-shot's two commands. -/
theorem stagesAndPulsesOfACycle : Obligations.StagesAndPulsesOfACycle := by
  unfold Obligations.StagesAndPulsesOfACycle
  refine ⟨fun s hosc hrole => ?_, fun s harmed => ?_, fun s hfired => ⟨fun ⟨hblue, hrole, hcycle⟩ => ?_, fun hno => ?_⟩⟩
  · have hexec : exec .stageStart s = .next { s with node :=
        { s.node with sensing := s.node.sensing.nextStage s.node.cfg.role s.node.clock } } := by
      simp [exec, execStageStart, hosc, State.go]
    refine ⟨fun hstage hmover hholding => ?_, fun hstage hquiet => ?_, fun hstage hquiet => ?_,
      fun hstage hquiet => ?_, fun hstage hbattery hquiet => ?_⟩
    · refine ⟨_, hexec, ?_⟩
      have hdark : s.node.sensing.nextStage s.node.cfg.role s.node.clock =
          Sensing.requestPort { s.node.sensing with
            stage := .dark, stampWaiting := some s.node.clock, converting := some .dark } s.node.cfg.role := by
        simp [Sensing.nextStage, hstage, hrole]
      rw [hdark, Sensing.requestPort_firstStage _ _ _ _ hmover hholding]
      cases hb : s.node.sensing.buffer <;> exact ⟨rfl, rfl, rfl, rfl, rfl⟩
    · simp [hexec, Sensing.nextStage, hstage, hquiet]
    · simp [hexec, Sensing.nextStage, hstage, hquiet]
    · simp [hexec, Sensing.nextStage, hstage, hquiet]
    · simp [hexec, Sensing.nextStage, hstage, hbattery, hquiet]
  · by_cases hstage : s.node.sensing.stage = .infrared <;>
      simp [exec, execOneShotFire, Sensing.fireOneShot, harmed, hstage, State.go]
  · simp [exec, execEmitterOff, Sensing.emittersOff, hfired, hblue, batteryCycle, hrole, hcycle, State.go]
  · have hdivider : (s.node.sensing.blueEmitter && batteryCycle s.node.cfg.role s.node.sensing.cycle) = false := by
      cases hb : s.node.sensing.blueEmitter with
      | false => rfl
      | true => simpa [batteryCycle, hb] using hno
    simp [exec, execEmitterOff, Sensing.emittersOff, hfired, hdivider, State.go]
end

section
/-! The notice set under requests and reports: a request changes its own item only, and what follows from it LINK_STRAINED
only (R84, R156). -/

namespace Sys2Proof.Machine

/-- The task is a request for this very item. -/
def Task.concerns (x : NoticeItem) : Task → Bool
  | .raise k s => NoticeItem.mk k s == x
  | .clear k s => NoticeItem.mk k s == x
  | _ => false

/-- Other blocks' work leaves the notice set. -/
theorem Node.noticeTasks_notices (n : Node) (k : NoticeKind) (b : Bool) (s : Option Byte) :
    (n.noticeTasks k b s).1.alarm.notices = n.alarm.notices := by
  unfold Node.noticeTasks; split <;> rfl

@[simp] theorem Node.record_alarm (n : Node) (r : EventRecord) : (n.record r).alarm = n.alarm := by
  unfold Node.record; split <;> rfl

theorem Node.noticeTasks_offers (n : Node) (k : NoticeKind) (b : Bool) (s : Option Byte) (u : Task)
    (h : u ∈ (n.noticeTasks k b s).2) (x : NoticeItem) : u.concerns x = false := by
  unfold Node.noticeTasks at h
  split at h
  · cases h
  · rw [List.mem_singleton.mp h]; rfl

theorem Node.dropNotice_notices (n : Node) (k : NoticeKind) (s : Option Byte) :
    (n.dropNotice k s).alarm.notices = n.alarm.notices.filter (· != NoticeItem.mk k s) := by
  unfold Node.dropNotice
  split
  · simp
  · next h =>
    refine (List.filter_eq_self.mpr fun y hy => ?_).symm
    simp only [List.contains_eq_mem, decide_eq_true_eq] at h
    simp only [bne_iff_ne, ne_eq]
    exact fun hk => h (hk ▸ hy)

/-! ## One task -/

/-- A raise of an item in PATROL and RUN leaves it in the set (R84). -/
theorem Node.raise_mem (n : Node) (k : NoticeKind) (s : Option Byte) (h : n.active = true) :
    NoticeItem.mk k s ∈ (n.raise k s).1.alarm.notices := by
  unfold Node.raise
  split
  · next hc => simpa [h] using hc
  · rw [Node.noticeTasks_notices]; simp

/-- A clear of an item in PATROL and RUN leaves it out of the set (R84). -/
theorem Node.clear_not_mem (n : Node) (k : NoticeKind) (s : Option Byte) (h : n.active = true) :
    NoticeItem.mk k s ∉ (n.clear k s).1.alarm.notices := by
  unfold Node.clear
  split
  · next hc => simpa [h] using hc
  · rw [Node.noticeTasks_notices, Node.dropNotice_notices]; simp

theorem Node.raise_other (n : Node) (k : NoticeKind) (s : Option Byte) (x : NoticeItem) (h : NoticeItem.mk k s ≠ x) :
    x ∈ (n.raise k s).1.alarm.notices ↔ x ∈ n.alarm.notices := by
  unfold Node.raise
  split
  · rfl
  · rw [Node.noticeTasks_notices]; simp [Ne.symm h]

theorem Node.clear_other (n : Node) (k : NoticeKind) (s : Option Byte) (x : NoticeItem) (h : NoticeItem.mk k s ≠ x) :
    x ∈ (n.clear k s).1.alarm.notices ↔ x ∈ n.alarm.notices := by
  unfold Node.clear
  split
  · rfl
  · rw [Node.noticeTasks_notices, Node.dropNotice_notices]; simp [Ne.symm h]

@[simp] theorem Node.setLink_notices (n : Node) (l : Link) : (n.setLink l).1.alarm.notices = n.alarm.notices := by
  unfold Node.setLink
  simp only []
  split <;> rfl

@[simp] theorem Node.offer_notices (n : Node) (f : Frame) (own : Bool) (e : Stamp) (a : Option Nat) :
    (n.offer f own e a).1.alarm.notices = n.alarm.notices := by
  unfold Node.offer
  split
  · rfl
  · simp only []
    unfold Node.afterOffer
    simp only []
    split
    · rfl
    · split <;> rfl

@[simp] theorem Node.ownEvicted_notices (n : Node) (q : Byte) : (n.ownEvicted q).1.alarm.notices = n.alarm.notices := by
  unfold Node.ownEvicted
  split
  · rfl
  · simp only []
    split <;> rfl

/-- A task that is no request for the item leaves its standing. -/
theorem Task.run_mem_iff (n : Node) (t : Task) (x : NoticeItem) (h : t.concerns x = false) :
    x ∈ (t.run n).1.alarm.notices ↔ x ∈ n.alarm.notices := by
  cases t with
  | raise k s => exact n.raise_other k s x (by simpa [Task.concerns] using h)
  | clear k s => exact n.clear_other k s x (by simpa [Task.concerns] using h)
  | event k s =>
    show x ∈ (n.event k s).1.alarm.notices ↔ _
    unfold Node.event
    split
    · rfl
    · rw [Node.noticeTasks_notices]; simp
  | offer f a => simp [Task.run]
  | echo b => simp [Task.run]
  | frame b => simp [Task.run]
  | ownEvicted q => simp [Task.run]

theorem Node.setLink_follows (n : Node) (l : Link) (u : Task) (hu : u ∈ (n.setLink l).2) (x : NoticeItem)
    (hx : x.kind ≠ .linkStrained) : u.concerns x = false := by
  have hne : NoticeItem.mk .linkStrained none ≠ x := fun h => hx (h ▸ rfl)
  unfold Node.setLink at hu
  simp only [] at hu
  split at hu
  · rw [List.mem_singleton.mp hu]; simpa [Task.concerns] using hne
  · split at hu
    · rw [List.mem_singleton.mp hu]; simpa [Task.concerns] using hne
    · cases hu

theorem noPathTasks_concerns (f : Frame) (u : Task) (hu : u ∈ noPathTasks f) (x : NoticeItem) : u.concerns x = false := by
  unfold noPathTasks at hu
  split at hu
  · cases hu
  · rw [List.mem_singleton.mp hu]; rfl

/-- What follows from a task requests no item but LINK_STRAINED. -/
theorem Task.run_follows (n : Node) (t : Task) (u : Task) (hu : u ∈ (t.run n).2) (x : NoticeItem)
    (hx : x.kind ≠ .linkStrained) : u.concerns x = false := by
  cases t with
  | raise k s =>
    change u ∈ (n.raise k s).2 at hu
    unfold Node.raise at hu
    split at hu
    · cases hu
    · exact Node.noticeTasks_offers _ _ _ _ _ hu x
  | clear k s =>
    change u ∈ (n.clear k s).2 at hu
    unfold Node.clear at hu
    split at hu
    · cases hu
    · exact Node.noticeTasks_offers _ _ _ _ _ hu x
  | event k s =>
    change u ∈ (n.event k s).2 at hu
    unfold Node.event at hu
    split at hu
    · cases hu
    · exact Node.noticeTasks_offers _ _ _ _ _ hu x
  | offer f a =>
    change u ∈ (n.offer f true n.clock a).2.2 at hu
    unfold Node.offer at hu
    split at hu
    · cases hu
    · simp only [] at hu
      unfold Node.afterOffer at hu
      simp only [] at hu
      have hmiss : ∀ b : Bool, u ∈ (if b then [Task.echo false] else []) → u.concerns x = false := by
        intro b hb
        cases b with
        | false => cases hb
        | true => rw [List.mem_singleton.mp hb]; rfl
      split at hu
      · exact hmiss _ hu
      · split at hu
        · split at hu
          · rcases List.mem_append.mp hu with hu | hu
            · exact hmiss _ hu
            · simp only [List.mem_cons, List.not_mem_nil, or_false] at hu
              rcases hu with rfl | rfl <;> rfl
          · exact hmiss _ hu
        · exact hmiss _ hu
  | echo b => exact n.setLink_follows _ u hu x hx
  | frame b => exact n.setLink_follows _ u hu x hx
  | ownEvicted q =>
    change u ∈ (n.ownEvicted q).2 at hu
    unfold Node.ownEvicted at hu
    split at hu
    · cases hu
    · simp only [] at hu
      split at hu
      · exact noPathTasks_concerns _ _ hu x
      · cases hu
      · cases hu

/-! ## A task with all that follows from it -/

theorem foldl_mem_iff {x : NoticeItem} (step : Node → Task → Node)
    (hstep : ∀ (m : Node) (u : Task), u.concerns x = false → (x ∈ (step m u).alarm.notices ↔ x ∈ m.alarm.notices))
    (ts : List Task) : ∀ n : Node, (∀ u ∈ ts, u.concerns x = false) →
      (x ∈ (ts.foldl step n).alarm.notices ↔ x ∈ n.alarm.notices) := by
  induction ts with
  | nil => exact fun _ _ => Iff.rfl
  | cons t ts ih =>
    intro n h
    rw [List.foldl_cons, ih _ (fun u hu => h u (List.mem_cons_of_mem _ hu))]
    exact hstep n t (h t List.mem_cons_self)

/-- A task that is no request for the item leaves its standing, with all that follows (R84). -/
theorem deliver_mem_iff {x : NoticeItem} (hx : x.kind ≠ .linkStrained) (d : Nat) : ∀ (t : Task) (n : Node),
    t.concerns x = false → (x ∈ (deliver d t n).alarm.notices ↔ x ∈ n.alarm.notices) := by
  induction d with
  | zero => exact fun _ _ _ => Iff.rfl
  | succ d ih =>
    intro t n h
    unfold deliver
    simp only []
    rw [foldl_mem_iff _ (fun m u hu => ih u m hu) _ _ (fun u hu => Task.run_follows n t u hu x hx)]
    exact Task.run_mem_iff n t x h

/-- A request's item stands as the request leaves it, whatever follows. -/
theorem deliver_own_iff {x : NoticeItem} (hx : x.kind ≠ .linkStrained) (d : Nat) (t : Task) (n : Node) :
    x ∈ (deliver (d + 1) t n).alarm.notices ↔ x ∈ (t.run n).1.alarm.notices := by
  show x ∈ ((t.run n).2.foldl (fun m u => deliver d u m) (t.run n).1).alarm.notices ↔ _
  exact foldl_mem_iff _ (fun m u hu => deliver_mem_iff hx d u m hu) _ _ (fun u hu => Task.run_follows n t u hu x hx)

/-! ## Tasks in their order -/

/-- The task asks for the item to stand, or not to. -/
theorem Node.deliver_mem_iff {x : NoticeItem} (hx : x.kind ≠ .linkStrained) (ts : List Task) (n : Node)
    (h : ∀ t ∈ ts, t.concerns x = false) : x ∈ (n.deliver ts).alarm.notices ↔ x ∈ n.alarm.notices :=
  foldl_mem_iff _ (fun m u hu => Machine.deliver_mem_iff hx 12 u m hu) ts n h

@[simp] theorem Node.deliver_active (n : Node) (ts : List Task) : (n.deliver ts).active = n.active := by
  simp [Node.active]

theorem deliver_one_active (d : Nat) (t : Task) (n : Node) : (deliver d t n).active = n.active := by
  unfold Node.active
  rw [(deliver_reported d t n).power]

theorem Node.deliver_cons (n : Node) (t : Task) (ts : List Task) :
    n.deliver (t :: ts) = (Machine.deliver 12 t n).deliver ts := rfl

/-- Of several requests for an item, with no clear among them, a raise leaves it standing. -/
theorem Node.deliver_raised {k : NoticeKind} {s : Option Byte} (hk : k ≠ .linkStrained) (ts : List Task) :
    ∀ n : Node, n.active = true → Task.clear k s ∉ ts → (NoticeItem.mk k s ∈ n.alarm.notices ∨ Task.raise k s ∈ ts) →
      NoticeItem.mk k s ∈ (n.deliver ts).alarm.notices := by
  induction ts with
  | nil => exact fun n _ _ h => h.elim id (fun h => by cases h)
  | cons t ts ih =>
    intro n hact hclear h
    rw [Node.deliver_cons]
    refine ih _ (by rw [deliver_one_active]; exact hact) (fun hc => hclear (List.mem_cons_of_mem _ hc)) ?_
    by_cases ht : t = .raise k s
    · subst ht
      exact .inl ((deliver_own_iff hk 11 _ n).mpr (n.raise_mem k s hact))
    · have hconcerns : t.concerns ⟨k, s⟩ = false := by
        cases t with
        | raise k' s' => simpa [Task.concerns] using ht
        | clear k' s' =>
          have hne : Task.clear k' s' ≠ .clear k s := fun he => hclear (he ▸ List.mem_cons_self)
          simpa [Task.concerns] using hne
        | _ => rfl
      refine h.imp (fun hm => (Machine.deliver_mem_iff hk 12 t n hconcerns).mpr hm) (fun hm => ?_)
      exact (List.mem_cons.mp hm).resolve_left (Ne.symm ht)

/-- Of several requests for an item, with no raise among them, a clear leaves it out. -/
theorem Node.deliver_cleared {k : NoticeKind} {s : Option Byte} (hk : k ≠ .linkStrained) (ts : List Task) :
    ∀ n : Node, n.active = true → Task.raise k s ∉ ts → (NoticeItem.mk k s ∉ n.alarm.notices ∨ Task.clear k s ∈ ts) →
      NoticeItem.mk k s ∉ (n.deliver ts).alarm.notices := by
  induction ts with
  | nil => exact fun n _ _ h => h.elim id (fun h => by cases h)
  | cons t ts ih =>
    intro n hact hraise h
    rw [Node.deliver_cons]
    refine ih _ (by rw [deliver_one_active]; exact hact) (fun hc => hraise (List.mem_cons_of_mem _ hc)) ?_
    by_cases ht : t = .clear k s
    · subst ht
      exact .inl (fun hm => n.clear_not_mem k s hact ((deliver_own_iff hk 11 _ n).mp hm))
    · have hconcerns : t.concerns ⟨k, s⟩ = false := by
        cases t with
        | clear k' s' => simpa [Task.concerns] using ht
        | raise k' s' =>
          have hne : Task.raise k' s' ≠ .raise k s := fun he => hraise (he ▸ List.mem_cons_self)
          simpa [Task.concerns] using hne
        | _ => rfl
      refine h.imp (fun hm => fun hm' => hm ((Machine.deliver_mem_iff hk 12 t n hconcerns).mp hm')) (fun hm => ?_)
      exact (List.mem_cons.mp hm).resolve_left (Ne.symm ht)

/-- Tasks with no request for the item leave its standing. -/
theorem Node.deliver_unasked {k : NoticeKind} {s : Option Byte} (hk : k ≠ .linkStrained) (ts : List Task) (n : Node)
    (hraise : Task.raise k s ∉ ts) (hclear : Task.clear k s ∉ ts) :
    NoticeItem.mk k s ∈ (n.deliver ts).alarm.notices ↔ NoticeItem.mk k s ∈ n.alarm.notices := by
  refine n.deliver_mem_iff hk ts (fun t ht => ?_)
  cases t with
  | clear k' s' =>
    have hne : Task.clear k' s' ≠ .clear k s := fun he => hclear (he ▸ ht)
    simpa [Task.concerns] using hne
  | raise k' s' =>
    have hne : Task.raise k' s' ≠ .raise k s := fun he => hraise (he ▸ ht)
    simpa [Task.concerns] using hne
  | _ => rfl

end Sys2Proof.Machine
end

section
/-! Conversions and the record mover (R11 to R17, R170). -/

namespace Sys2Proof.Machine

/-! ## The port's writes -/

/-- The record of the cycle's buffer once a waiting stamp is written (R17). -/
def Sensing.stampedRecord (s : Sensing) : SampleRecord :=
  match s.stampWaiting with
  | none => (s.buf s.buffer).record
  | some t => { (s.buf s.buffer).record with stamp := t }

/-- The sensing path with the port's writes made: the cycle's buffer holds the record, and nothing waits. -/
def Sensing.written (s : Sensing) (r : SampleRecord) : Sensing :=
  { (s.setBuf s.buffer { s.buf s.buffer with record := r }) with stampWaiting := none, holding := none }

/-- With no result held, a granted port takes the stamp at most. -/
theorem Sensing.grantWrites_of_none {s : Sensing} {role : Role} (h : s.holding = none) :
    s.grantWrites role = s.written s.stampedRecord := by
  cases hs : s.stampWaiting with
  | none =>
    cases hb : s.buffer <;> cases s <;>
      simp_all [Sensing.grantWrites, Sensing.written, Sensing.stampedRecord, Sensing.setBuf, Sensing.buf]
  | some t =>
    cases hb : s.buffer <;>
      simp [Sensing.grantWrites, Sensing.written, Sensing.stampedRecord, Sensing.setBuf, Sensing.buf, h, hs, hb]

/-- A result held is written after the stamp; the last one ends the cycle (R13, R14). -/
theorem Sensing.grantWrites_of_some {s : Sensing} {role : Role} {k : Conversion} {v : Nat} (h : s.holding = some (k, v)) :
    s.grantWrites role =
      if lastConversion role s.cycle k then (s.written (s.stampedRecord.write k v)).endCycle role
      else s.written (s.stampedRecord.write k v) := by
  cases hs : s.stampWaiting with
  | none =>
    cases hb : s.buffer <;> cases s <;>
      simp_all [Sensing.grantWrites, Sensing.written, Sensing.stampedRecord, Sensing.setBuf, Sensing.buf]
  | some t =>
    cases hb : s.buffer <;>
      simp [Sensing.grantWrites, Sensing.written, Sensing.stampedRecord, Sensing.setBuf, Sensing.buf, h, hs, hb]

section
variable (s : Sensing) (r : SampleRecord)

@[simp] theorem Sensing.written_buf_self : (s.written r).buf s.buffer = { s.buf s.buffer with record := r } :=
  s.setBuf_buf_self s.buffer _
@[simp] theorem Sensing.written_buf_not : (s.written r).buf (!s.buffer) = s.buf (!s.buffer) :=
  s.setBuf_buf_not s.buffer _
@[simp] theorem Sensing.written_stage : (s.written r).stage = s.stage := s.setBuf_stage ..
@[simp] theorem Sensing.written_buffer : (s.written r).buffer = s.buffer := s.setBuf_buffer ..
@[simp] theorem Sensing.written_cycle : (s.written r).cycle = s.cycle := s.setBuf_cycle ..
@[simp] theorem Sensing.written_cycleCounter : (s.written r).cycleCounter = s.cycleCounter := s.setBuf_cycleCounter ..
@[simp] theorem Sensing.written_rail : (s.written r).rail = s.rail := s.setBuf_rail ..
@[simp] theorem Sensing.written_pendingRequest : (s.written r).pendingRequest = s.pendingRequest :=
  s.setBuf_pendingRequest ..
@[simp] theorem Sensing.written_mover : (s.written r).mover = s.mover := s.setBuf_mover ..
@[simp] theorem Sensing.written_converting : (s.written r).converting = s.converting := s.setBuf_converting ..
@[simp] theorem Sensing.written_skipped : (s.written r).skipped = s.skipped := s.setBuf_skipped ..
@[simp] theorem Sensing.written_input : (s.written r).input = s.input := s.setBuf_input ..

end

/-! ## The end of a cycle -/

/-- The ended cycle, its buffer in the state given (R13). -/
def Sensing.cycleEnded (s : Sensing) (role : Role) (st : BufferState) : Sensing :=
  { (s.setBuf s.buffer ⟨st, (s.buf s.buffer).record.finished (batteryCycle role s.cycle)⟩) with
    rail := false, divider := false, stage := .idle }

/-- While a copy is under way the completed buffer waits for it (R16). -/
theorem Sensing.endCycle_of_copying {s : Sensing} {role : Role} (hm : s.mover.isSome = true)
    (hp : s.pendingRequest = false) : s.endCycle role = s.cycleEnded role .complete := by
  simp [Sensing.endCycle, Sensing.cycleEnded, Sensing.beginCopy, hm, hp]

/-- With an idle mover and no other COMPLETE buffer, this buffer's copy begins at once (R16). -/
theorem Sensing.endCycle_of_idle {s : Sensing} {role : Role} (hm : s.mover = none)
    (ho : (s.buf (!s.buffer)).state ≠ .complete) : s.endCycle role =
      let ended := { (s.cycleEnded role .copying) with
        mover := some ⟨s.buffer, recordFields role ((s.buf s.buffer).record.finished (batteryCycle role s.cycle))⟩ }
      if s.pendingRequest then ended.startCycle role else ended := by
  cases hb : s.buffer <;>
    simp_all [Sensing.endCycle, Sensing.cycleEnded, Sensing.beginCopy, Sensing.setBuf, Sensing.buf, Sensing.markBuf]

@[simp] theorem Sensing.cycleEnded_buf_self (s : Sensing) (role : Role) (st : BufferState) :
    (s.cycleEnded role st).buf s.buffer = ⟨st, (s.buf s.buffer).record.finished (batteryCycle role s.cycle)⟩ :=
  s.setBuf_buf_self s.buffer _

@[simp] theorem Sensing.cycleEnded_buf_not (s : Sensing) (role : Role) (st : BufferState) :
    (s.cycleEnded role st).buf (!s.buffer) = s.buf (!s.buffer) := s.setBuf_buf_not s.buffer _

@[simp] theorem Sensing.cycleEnded_mover (s : Sensing) (role : Role) (st : BufferState) :
    (s.cycleEnded role st).mover = s.mover := s.setBuf_mover ..

@[simp] theorem Sensing.cycleEnded_stampWaiting (s : Sensing) (role : Role) (st : BufferState) :
    (s.cycleEnded role st).stampWaiting = s.stampWaiting := s.setBuf_stampWaiting ..

@[simp] theorem Sensing.cycleEnded_holding (s : Sensing) (role : Role) (st : BufferState) :
    (s.cycleEnded role st).holding = s.holding := s.setBuf_holding ..

/-- The next cycle, started at once in the other, FREE buffer (R7, R15). -/
theorem Sensing.startCycle_of_other {s : Sensing} {role : Role} (i : Bool) (hrole : role ≠ .repeater)
    (hthis : (s.buf i).state = .copying) (hother : (s.buf (!i)).state = .free) :
    s.startCycle role =
      { (Sensing.markBuf { s with cycleCounter := s.cycleCounter + 1, pendingRequest := false, stage := .idle }
          (!i) .filling) with
        stage := .settle, cycle := s.cycleCounter, buffer := !i, rail := true, divider := false } := by
  have hchoice : s.chooseBuffer = (!i, false) := by
    cases i <;> simp_all [Sensing.chooseBuffer, Sensing.buf]
  rw [Sensing.startCycle_of_optical hrole, hchoice]
  cases i <;> rfl

/-- The end of a cycle whose buffer's copy begins at once: IDLE, or the next cycle in the other buffer (R7, R13, R16). -/
structure Sensing.EndsTo (u : Sensing) (role : Role) (y : Sensing) : Prop where
  converting : y.converting = u.converting
  holding : y.holding = u.holding
  stampWaiting : y.stampWaiting = u.stampWaiting
  completed : y.buf u.buffer = ⟨.copying, (u.buf u.buffer).record.finished (batteryCycle role u.cycle)⟩
  mover : y.mover.map (fun m => m.buffer) = some u.buffer
  rests : u.pendingRequest = false → y.stage = .idle ∧ y.rail = false ∧ y.divider = false ∧ y.pendingRequest = false ∧
    y.cycleCounter = u.cycleCounter ∧ y.buf (!u.buffer) = u.buf (!u.buffer)
  goesOn : u.pendingRequest = true → y.stage = .settle ∧ y.rail = true ∧ y.divider = false ∧ y.pendingRequest = false ∧
    y.cycle = u.cycleCounter ∧ y.cycleCounter = u.cycleCounter + 1 ∧ y.buffer = (!u.buffer) ∧
    y.buf (!u.buffer) = { u.buf (!u.buffer) with state := .filling } ∧ y.skipped = u.skipped

theorem Sensing.endCycle_endsTo {u : Sensing} {role : Role} (hm : u.mover = none)
    (ho : (u.buf (!u.buffer)).state ≠ .complete)
    (hready : u.pendingRequest = true → role ≠ .repeater ∧ (u.buf (!u.buffer)).state = .free) :
    u.EndsTo role (u.endCycle role) := by
  rw [Sensing.endCycle_of_idle hm ho]
  cases hp : u.pendingRequest with
  | false =>
    cases hb : u.buffer <;> constructor <;>
      simp [Sensing.cycleEnded, Sensing.setBuf, Sensing.buf, hb, hp]
  | true =>
    obtain ⟨hrole, hfree⟩ := hready hp
    simp only [if_true]
    rw [Sensing.startCycle_of_other u.buffer hrole]
    · cases hb : u.buffer <;> constructor <;>
        simp [Sensing.cycleEnded, Sensing.markBuf, Sensing.setBuf, Sensing.buf, hb, hp]
    · exact congrArg Buffer.state (u.cycleEnded_buf_self role .copying)
    · exact (congrArg Buffer.state (u.cycleEnded_buf_not role .copying)).trans hfree

theorem limitNat_eq (input : Int) : limitNat 1023 input = (max 0 (min 1023 input)).toNat := by
  unfold limitNat; omega

theorem SampleRecord.finished_eq (r : SampleRecord) (b : Bool) : r.finished b = { r with
    opticalValid := decide (r.dark ≤ 999), heatValid := decide (9 ≤ r.heat ∧ r.heat ≤ 1014)
    battery := if b then r.battery else none } := by
  cases b <;> rfl

/-- A limited result in the output holding (R11, R14). -/
def Sensing.held (s : Sensing) (k : Conversion) (v : Nat) : Sensing :=
  { s with converting := none, holding := some (k, v) }

section
variable (s : Sensing) (k : Conversion) (v : Nat)

@[simp] theorem Sensing.held_buf (i : Bool) : (s.held k v).buf i = s.buf i := rfl
@[simp] theorem Sensing.held_buffer : (s.held k v).buffer = s.buffer := rfl
@[simp] theorem Sensing.held_mover : (s.held k v).mover = s.mover := rfl
@[simp] theorem Sensing.held_stage : (s.held k v).stage = s.stage := rfl
@[simp] theorem Sensing.held_cycle : (s.held k v).cycle = s.cycle := rfl
@[simp] theorem Sensing.held_cycleCounter : (s.held k v).cycleCounter = s.cycleCounter := rfl
@[simp] theorem Sensing.held_pendingRequest : (s.held k v).pendingRequest = s.pendingRequest := rfl
@[simp] theorem Sensing.held_skipped : (s.held k v).skipped = s.skipped := rfl
@[simp] theorem Sensing.held_converting : (s.held k v).converting = none := rfl
@[simp] theorem Sensing.held_holding : (s.held k v).holding = some (k, v) := rfl
@[simp] theorem Sensing.written_holding (r : SampleRecord) : (s.written r).holding = none := rfl
@[simp] theorem Sensing.written_stampWaiting (r : SampleRecord) : (s.written r).stampWaiting = none := rfl

theorem Sensing.held_stampedRecord (h : s.stampWaiting = none) :
    (s.held k v).stampedRecord = (s.buf s.buffer).record := by
  simp only [Sensing.stampedRecord, Sensing.held, h]
  rfl

end

theorem exec_conversionDone (s : State) (input : Int) : exec (.conversionDone input) s =
    .next { s with node := { s.node with sensing := s.node.sensing.deliverResult s.node.cfg.role input } } := rfl

/-- A result delivered to the free port, with no stamp waiting. -/
theorem Sensing.deliverResult_eq {s : Sensing} {role : Role} {k : Conversion} (input : Int)
    (hk : s.converting = some k) (hh : s.holding = none) (hm : s.mover = none) :
    s.deliverResult role input =
      (s.held k (limitNat 1023 input)).grantWrites role := by
  simp [Sensing.deliverResult, hk, hh, Sensing.requestPort, hm, Sensing.held]

end Sys2Proof.Machine

open Sys2Proof.Machine in
/-- Settles O11: the held result, the result written at once, and the cycle's last one. -/
theorem conversionResultsAreMoved : Obligations.ConversionResultsAreMoved := by
  unfold Obligations.ConversionResultsAreMoved
  refine ⟨fun s k input hk hh => ⟨fun m hm => ?_, fun hm hstamp hlast => ?_⟩,
    fun s k input hk hh hm hstamp hother hready hlast => ?_⟩
  · simp [exec_conversionDone, Sensing.deliverResult, hk, hh, Sensing.requestPort, hm, limitNat_eq]
  · refine ⟨_, exec_conversionDone s input, ?_⟩
    rw [Sensing.deliverResult_eq input hk hh hm, Sensing.grantWrites_of_some rfl, Sensing.held_cycle, hlast,
      Sensing.held_stampedRecord _ _ _ hstamp, limitNat_eq]
    generalize hu : s.node.sensing.held k (max 0 (min 1023 input)).toNat = u
    have hbuffer : u.buffer = s.node.sensing.buffer := by rw [← hu]; rfl
    have hself := Sensing.written_buf_self u
    have hnot := Sensing.written_buf_not u
    simp only [hbuffer] at hself hnot
    simp only [Bool.false_eq_true, if_false, hself, hnot]
    simp [← hu]
  · refine ⟨_, exec_conversionDone s input, ?_⟩
    rw [Sensing.deliverResult_eq input hk hh hm, Sensing.grantWrites_of_some rfl, Sensing.held_cycle, if_pos hlast,
      Sensing.held_stampedRecord _ _ _ hstamp, limitNat_eq]
    obtain ⟨hconverting, hholding, -, hcompleted, hmover, hrests, hgoesOn⟩ := Sensing.endCycle_endsTo
      (role := s.node.cfg.role) (u := (s.node.sensing.held k (max 0 (min 1023 input)).toNat).written
        ((s.node.sensing.buf s.node.sensing.buffer).record.write k (max 0 (min 1023 input)).toNat))
      (by simpa using hm)
      (by rw [Sensing.written_buffer, Sensing.written_buf_not]; exact hother)
      (fun hp => by
        rw [Sensing.written_buffer, Sensing.written_buf_not]
        exact hready (by simpa using hp))
    have hself := Sensing.written_buf_self (s.node.sensing.held k (max 0 (min 1023 input)).toNat)
    have hnot := Sensing.written_buf_not (s.node.sensing.held k (max 0 (min 1023 input)).toNat)
    simp only [Sensing.held_buffer, Sensing.held_buf] at hself hnot
    simp only [Sensing.written_buffer, Sensing.held_buffer, hself, hnot, Sensing.written_cycle,
      Sensing.written_pendingRequest, Sensing.written_cycleCounter, Sensing.written_skipped,
      Sensing.written_converting, Sensing.held_cycle, Sensing.held_pendingRequest, Sensing.held_cycleCounter,
      Sensing.held_skipped, Sensing.held_converting, Sensing.written_holding, SampleRecord.finished_eq]
      at hconverting hholding hcompleted hmover hrests hgoesOn
    exact ⟨hconverting, hholding, by rw [hcompleted], hmover, by rw [hcompleted], hrests, hgoesOn⟩
end

section
/-! The record mover's hand-over, and the battery class that Vb moves (R16, R17, R170). -/

namespace Sys2Proof.Machine

theorem Sensing.grantWrites_of_nothing {s : Sensing} {role : Role} (hs : s.stampWaiting = none) (hh : s.holding = none) :
    s.grantWrites role = s := by
  simp [Sensing.grantWrites, hs, hh]

theorem Sensing.beginCopy_of_none {s : Sensing} {role : Role} (h0 : s.buffer0.state ≠ .complete)
    (h1 : s.buffer1.state ≠ .complete) : s.beginCopy role = s := by
  simp [Sensing.beginCopy, h0, h1]

theorem Sensing.beginCopy_of_copying {s : Sensing} {role : Role} (h : s.mover.isSome = true) :
    s.beginCopy role = s := by
  simp [Sensing.beginCopy, h]

/-- The copied buffer given back, and its record in the Evidence Unit's input (R16). -/
def Sensing.handedOver (s : Sensing) (role : Role) (b : Bool) : Sensing :=
  Sensing.placeInput { (s.markBuf b .free) with mover := none } role (s.buf b).record

section
variable (s : Sensing) (role : Role) (b : Bool)

theorem Sensing.handedOver_eq : s.handedOver role b =
    { (s.markBuf b .free) with
      mover := none
      input := if role = .repeater then s.input else some (s.buf b).record
      skipped := if role ≠ .repeater ∧ s.input.isSome = true then countUp s.skipped else s.skipped } := by
  unfold Sensing.handedOver Sensing.placeInput
  by_cases hr : role = .repeater
  · cases b <;> simp [hr, Sensing.markBuf, Sensing.setBuf]
  · cases b <;> simp [hr, Sensing.markBuf, Sensing.setBuf]

@[simp] theorem Sensing.handedOver_mover : (s.handedOver role b).mover = none := by rw [s.handedOver_eq]
@[simp] theorem Sensing.handedOver_buf_self : (s.handedOver role b).buf b = { s.buf b with state := .free } := by
  rw [s.handedOver_eq]; cases b <;> rfl
@[simp] theorem Sensing.handedOver_buf_not : (s.handedOver role b).buf (!b) = s.buf (!b) := by
  rw [s.handedOver_eq]; cases b <;> rfl
@[simp] theorem Sensing.handedOver_buffer : (s.handedOver role b).buffer = s.buffer := by
  rw [s.handedOver_eq]; cases b <;> rfl
@[simp] theorem Sensing.handedOver_stage : (s.handedOver role b).stage = s.stage := by
  rw [s.handedOver_eq]; cases b <;> rfl
@[simp] theorem Sensing.handedOver_cycle : (s.handedOver role b).cycle = s.cycle := by
  rw [s.handedOver_eq]; cases b <;> rfl
@[simp] theorem Sensing.handedOver_rail : (s.handedOver role b).rail = s.rail := by
  rw [s.handedOver_eq]; cases b <;> rfl
@[simp] theorem Sensing.handedOver_pendingRequest : (s.handedOver role b).pendingRequest = s.pendingRequest := by
  rw [s.handedOver_eq]; cases b <;> rfl
@[simp] theorem Sensing.handedOver_stampWaiting : (s.handedOver role b).stampWaiting = s.stampWaiting := by
  rw [s.handedOver_eq]; cases b <;> rfl
@[simp] theorem Sensing.handedOver_holding : (s.handedOver role b).holding = s.holding := by
  rw [s.handedOver_eq]; cases b <;> rfl

end

/-! ## The copy's fields -/

@[simp] theorem Node.takeVb_sensing (n : Node) (v : Option Nat) : (n.takeVb v).sensing = n.sensing := by
  unfold Node.takeVb; split <;> simp

@[simp] theorem Node.takeVb_evidence (n : Node) (v : Option Nat) : (n.takeVb v).evidence = n.evidence := by
  unfold Node.takeVb; split <;> simp

/-- A field that is not the last: the port goes to the writes that wait, then on with the copy (R16, R17). -/
theorem Node.copyField_of_more {n : Node} {b : Bool} {f g : RecordField} {rest : List RecordField}
    (h : n.sensing.mover = some ⟨b, f :: g :: rest⟩) : n.copyField =
      { n with sensing := Sensing.grantWrites { n.sensing with mover := some ⟨b, g :: rest⟩ } n.cfg.role } := by
  simp [Node.copyField, h]

/-- The last field: the hand-over, the writes that wait, the next copy, and Vb (R16, R170). -/
theorem Node.copyField_of_last {n : Node} {b : Bool} {f : RecordField} (h : n.sensing.mover = some ⟨b, [f]⟩) :
    n.copyField = (Node.takeVb
      { n with sensing := ((n.sensing.handedOver n.cfg.role b).grantWrites n.cfg.role).beginCopy n.cfg.role }
      (n.sensing.buf b).record.battery).takeRecord := by
  simp [Node.copyField, h, Sensing.handedOver]

/-- The Evidence Unit's taking changes the input only, of the sensing path (R18). -/
theorem Node.takeRecord_sensing (n : Node) : ∃ i, n.takeRecord.sensing = { n.sensing with input := i } := by
  unfold Node.takeRecord
  split
  · exact ⟨none, rfl⟩
  · exact ⟨n.sensing.input, rfl⟩

theorem Node.takeRecord_of_idle {n : Node} {r : SampleRecord} (he : n.evidence.inHand = none)
    (hi : n.sensing.input = some r) : n.takeRecord =
      { n with evidence := { n.evidence with inHand := some r }, sensing := { n.sensing with input := none } } := by
  simp [Node.takeRecord, he, hi]

theorem Node.takeRecord_of_busy {n : Node} (h : n.evidence.inHand.isSome = true) : n.takeRecord = n := by
  obtain ⟨r, hr⟩ := Option.isSome_iff_exists.mp h
  simp [Node.takeRecord, hr]

/-! ## The writes within a copy -/

/-- The sensing path while buffer `b` is copied and the cycle fills the other. -/
structure Sensing.CopiesBeside (x : Sensing) (b : Bool) : Prop where
  copying : (x.buf b).state = .copying
  buffer : x.buffer = !b
  filling : (x.buf (!b)).state = .filling

theorem Sensing.not_complete {s : Sensing} (b : Bool) (h : (s.buf b).state ≠ .complete)
    (h' : (s.buf (!b)).state ≠ .complete) : s.buffer0.state ≠ .complete ∧ s.buffer1.state ≠ .complete := by
  cases b
  · exact ⟨h, h'⟩
  · exact ⟨h', h⟩

@[simp] theorem Sensing.markBuf_holding (s : Sensing) (i : Bool) (st : BufferState) :
    (s.markBuf i st).holding = s.holding := s.setBuf_holding ..
@[simp] theorem Sensing.markBuf_stampWaiting (s : Sensing) (i : Bool) (st : BufferState) :
    (s.markBuf i st).stampWaiting = s.stampWaiting := s.setBuf_stampWaiting ..

/-- Neither a copy's beginning nor a cycle's end or start makes a write wait for the port. -/
theorem Sensing.beginCopy_port (s : Sensing) (role : Role) :
    (s.beginCopy role).holding = s.holding ∧ (s.beginCopy role).stampWaiting = s.stampWaiting := by
  unfold Sensing.beginCopy
  split
  · exact ⟨rfl, rfl⟩
  · split
    · simp
    · split
      · simp
      · exact ⟨rfl, rfl⟩

theorem Sensing.startCycle_port (s : Sensing) (role : Role) :
    (s.startCycle role).holding = s.holding ∧ (s.startCycle role).stampWaiting = s.stampWaiting := by
  unfold Sensing.startCycle
  simp only []
  split
  · exact ⟨rfl, rfl⟩
  · simp

theorem Sensing.endCycle_port (s : Sensing) (role : Role) :
    (s.endCycle role).holding = s.holding ∧ (s.endCycle role).stampWaiting = s.stampWaiting := by
  unfold Sensing.endCycle
  simp only []
  split
  · simp [Sensing.startCycle_port, Sensing.beginCopy_port]
  · simp [Sensing.beginCopy_port]

/-- After the port is granted no write waits (R17). -/
theorem Sensing.grantWrites_port (s : Sensing) (role : Role) :
    (s.grantWrites role).holding = none ∧ (s.grantWrites role).stampWaiting = none := by
  cases h : s.holding with
  | none => rw [Sensing.grantWrites_of_none h]; exact ⟨rfl, rfl⟩
  | some kv =>
    obtain ⟨k, v⟩ := kv
    rw [Sensing.grantWrites_of_some h]
    split
    · rw [(Sensing.endCycle_port _ role).1, (Sensing.endCycle_port _ role).2]; exact ⟨rfl, rfl⟩
    · exact ⟨rfl, rfl⟩

/-- `u` is the sensing path `x` with its writes still to be made, whatever the copy has done. -/
structure Sensing.StillWrites (x u : Sensing) : Prop where
  buffer : u.buffer = x.buffer
  cycle : u.cycle = x.cycle
  stage : u.stage = x.stage
  rail : u.rail = x.rail
  pendingRequest : u.pendingRequest = x.pendingRequest
  stampWaiting : u.stampWaiting = x.stampWaiting
  holding : u.holding = x.holding
  filled : u.buf x.buffer = x.buf x.buffer

theorem Sensing.StillWrites.stampedRecord {x u : Sensing} (h : x.StillWrites u) : u.stampedRecord = x.stampedRecord := by
  simp [Sensing.stampedRecord, h.stampWaiting, h.buffer, h.filled]

/-- What the writes within a copy come to, with `copied` and `mover` what the copy leaves of its buffer and the mover
(R13, R14, R16, R17). -/
structure Sensing.WritesMade (x : Sensing) (role : Role) (b : Bool) (copied : Buffer) (mover : Option Mover)
    (y : Sensing) : Prop where
  stampWaiting : y.stampWaiting = none
  holding : y.holding = none
  noResult : x.holding = none → y.buf (!b) = { x.buf (!b) with record := x.stampedRecord } ∧ y.buf b = copied ∧
    y.mover = mover ∧ y.stage = x.stage ∧ y.rail = x.rail ∧ y.pendingRequest = x.pendingRequest
  result : ∀ k v, x.holding = some (k, v) → lastConversion role x.cycle k = false →
    y.buf (!b) = { x.buf (!b) with record := x.stampedRecord.write k v } ∧ y.buf b = copied ∧
      y.mover = mover ∧ y.stage = x.stage ∧ y.rail = x.rail ∧ y.pendingRequest = x.pendingRequest
  last : ∀ k v, x.holding = some (k, v) → lastConversion role x.cycle k = true → x.pendingRequest = false →
    (y.buf (!b)).record = (x.stampedRecord.write k v).finished (batteryCycle role x.cycle) ∧ y.buf b = copied ∧
      y.stage = .idle ∧ y.rail = false ∧ y.divider = false ∧
      (mover.isSome = true → (y.buf (!b)).state = .complete ∧ y.mover = mover) ∧
      (mover = none → (y.buf (!b)).state = .copying ∧ y.mover.map (fun m => m.buffer) = some (!b))

/-- A cycle's end beside a copy, whether it goes on or has ended. -/
theorem Sensing.StillWrites.made {x u : Sensing} {role : Role} {b : Bool} (h : x.StillWrites u) (hb : x.buffer = !b)
    (hcopied : u.mover = none → (u.buf b).state ≠ .complete) :
    x.WritesMade role b (u.buf b) u.mover (u.grantWrites role) := by
  have hbu : u.buffer = !b := h.buffer.trans hb
  have hnot : (!u.buffer) = b := by rw [hbu, Bool.not_not]
  have hfilled : u.buf (!b) = x.buf (!b) := by rw [← hb]; exact h.filled
  have hself := fun r => by simpa [hbu, hfilled] using u.written_buf_self r
  have hother := fun r => by simpa [hnot] using u.written_buf_not r
  have hport := u.grantWrites_port role
  refine ⟨hport.2, hport.1, fun hh => ?_, fun k v hh hlast => ?_, fun k v hh hlast hp => ?_⟩
  · rw [Sensing.grantWrites_of_none (h.holding.trans hh), h.stampedRecord]
    exact ⟨hself _, hother _, by simp, by simp [h.stage], by simp [h.rail], by simp [h.pendingRequest]⟩
  · rw [Sensing.grantWrites_of_some (h.holding.trans hh), h.cycle, hlast, h.stampedRecord]
    exact ⟨hself _, hother _, by simp, by simp [h.stage], by simp [h.rail], by simp [h.pendingRequest]⟩
  · rw [Sensing.grantWrites_of_some (h.holding.trans hh), h.cycle, hlast, h.stampedRecord, if_pos rfl]
    generalize hw : u.written (x.stampedRecord.write k v) = w
    have hwbuffer : w.buffer = !b := by rw [← hw]; simpa using hbu
    have hwpending : w.pendingRequest = false := by rw [← hw]; simpa [h.pendingRequest] using hp
    have hwmover : w.mover = u.mover := by rw [← hw]; simp
    have hwcycle : w.cycle = x.cycle := by rw [← hw]; simp [h.cycle]
    have hwself : (w.buf (!b)).record = x.stampedRecord.write k v := by rw [← hw, hself]
    have hwother : w.buf b = u.buf b := by rw [← hw]; exact hother _
    cases hm : u.mover with
    | some m =>
      rw [Sensing.endCycle_of_copying (by rw [hwmover, hm]; rfl) hwpending]
      have hbuf := Sensing.cycleEnded_buf_self w role .complete
      have hbuf' := Sensing.cycleEnded_buf_not w role .complete
      rw [hwbuffer] at hbuf hbuf'
      rw [Bool.not_not] at hbuf'
      refine ⟨by rw [hbuf, hwself, hwcycle], by rw [hbuf', hwother], rfl, rfl, rfl,
        fun _ => ⟨by rw [hbuf], by rw [Sensing.cycleEnded_mover, hwmover, hm]⟩, nofun⟩
    | none =>
      obtain ⟨-, -, -, hcompleted, hmover, hrests, -⟩ := Sensing.endCycle_endsTo (role := role) (u := w)
        (hwmover.trans hm) (by rw [hwbuffer, Bool.not_not, hwother]; exact hcopied hm)
        (fun hp' => by rw [hwpending] at hp'; cases hp')
      obtain ⟨hstage, hrail, hdivider, -, -, hrest⟩ := hrests hwpending
      rw [hwbuffer] at hcompleted hmover hrest
      rw [Bool.not_not] at hrest
      exact ⟨by rw [hcompleted, hwself, hwcycle], by rw [hrest, hwother], hstage, hrail, hdivider, nofun,
        fun _ => ⟨by rw [hcompleted], hmover⟩⟩

/-- The next copy is begun already where a cycle ended, and has no buffer to begin with where none did. -/
theorem Sensing.WritesMade.beginCopy {x y : Sensing} {role : Role} {b : Bool} {copied : Buffer}
    (h : x.WritesMade role b copied none y) (hc : copied.state = .free) (hf : (x.buf (!b)).state = .filling) :
    x.WritesMade role b copied none (y.beginCopy role) := by
  have hport := y.beginCopy_port role
  have hnone : ∀ r, y.buf (!b) = { x.buf (!b) with record := r } → y.buf b = copied → y.beginCopy role = y := by
    intro r hfill hcopy
    have hstates := Sensing.not_complete (s := y) b (by rw [hcopy, hc]; nofun) (by rw [hfill]; simp [hf])
    exact Sensing.beginCopy_of_none hstates.1 hstates.2
  refine ⟨hport.2.trans h.stampWaiting, hport.1.trans h.holding, fun hh => ?_, fun k v hh hlast => ?_,
    fun k v hh hlast hp => ?_⟩
  · have hy := h.noResult hh
    rw [hnone _ hy.1 hy.2.1]; exact hy
  · have hy := h.result k v hh hlast
    rw [hnone _ hy.1 hy.2.1]; exact hy
  · have hy := h.last k v hh hlast hp
    have hmover : y.mover.map (fun m => m.buffer) = some (!b) := by
      obtain ⟨-, -, -, -, -, -, hcopying⟩ := hy
      exact (hcopying rfl).2
    have hsome : y.mover.isSome = true := by
      cases hm : y.mover with
      | none => rw [hm] at hmover; cases hmover
      | some m => rfl
    rw [Sensing.beginCopy_of_copying hsome]
    exact hy

/-- The Evidence Unit's input is no part of it. -/
theorem Sensing.WritesMade.withInput {x y : Sensing} {role : Role} {b : Bool} {copied : Buffer} {mover : Option Mover}
    (h : x.WritesMade role b copied mover y) (i : Option SampleRecord) :
    x.WritesMade role b copied mover { y with input := i } :=
  ⟨h.stampWaiting, h.holding, h.noResult, h.result, h.last⟩

/-- The copy's end of a field with the writes made in between (R17). -/
theorem Node.copyField_writesMade {n : Node} {b : Bool} {f : RecordField} {rest : List RecordField}
    (hm : n.sensing.mover = some ⟨b, f :: rest⟩) (h : n.sensing.CopiesBeside b) :
    n.sensing.WritesMade n.cfg.role b { n.sensing.buf b with state := if rest.length = 0 then .free else .copying }
      (if rest.length = 0 then none else some ⟨b, rest⟩) n.copyField.sensing := by
  cases rest with
  | nil =>
    have hstill : n.sensing.StillWrites (n.sensing.handedOver n.cfg.role b) :=
      ⟨by simp, by simp, by simp, by simp, by simp, by simp, by simp,
        by rw [h.buffer]; exact Sensing.handedOver_buf_not _ _ b⟩
    have hmade := hstill.made (role := n.cfg.role) h.buffer (fun _ => by simp)
    rw [Sensing.handedOver_buf_self, Sensing.handedOver_mover] at hmade
    rw [Node.copyField_of_last hm]
    obtain ⟨i, hi⟩ := Node.takeRecord_sensing (Node.takeVb
      { n with sensing := ((n.sensing.handedOver n.cfg.role b).grantWrites n.cfg.role).beginCopy n.cfg.role }
      (n.sensing.buf b).record.battery)
    rw [Node.takeVb_sensing] at hi
    rw [hi]
    exact (hmade.beginCopy rfl h.filling).withInput i
  | cons g rest =>
    have hstill : n.sensing.StillWrites { n.sensing with mover := some ⟨b, g :: rest⟩ } := by constructor <;> rfl
    have hmade := hstill.made (role := n.cfg.role) h.buffer nofun
    rw [Node.copyField_of_more hm]
    have hbuf : { n.sensing.buf b with state := .copying } = n.sensing.buf b := by rw [← h.copying]
    simp only [List.length_cons, Nat.add_one_ne_zero, if_false, hbuf]
    exact hmade

/-! ## The battery class -/

/-- What Vb makes of the class, with its notice requests. -/
theorem Node.takeVb_some (n : Node) (v : Nat) : n.takeVb (some v) =
    Node.deliver { n with power := { n.power with battery := (batteryAfter n.power.battery v).1 } }
      (batteryAfter n.power.battery v).2 := rfl

@[simp] theorem Node.takeVb_battery (n : Node) (v : Nat) :
    (n.takeVb (some v)).power.battery = (batteryAfter n.power.battery v).1 := by
  simp [Node.takeVb_some]

/-- A notice item stands as the requests leave it: raised, cleared, or as it stood (R84). -/
def Turns (before after : List NoticeItem) (item : NoticeItem) (on off : Prop) : Prop :=
  (on → item ∈ after) ∧ (off → item ∉ after) ∧ (¬on → ¬off → (item ∈ after ↔ item ∈ before))

/-- Requests of one kind only, told apart by whether a raise or a clear of the item is among them. -/
theorem Node.deliver_turns {n : Node} {ts : List Task} {k : NoticeKind} {s : Option Byte} {on off : Prop}
    (hk : k ≠ .linkStrained) (hact : n.active = true) (hraise : Task.raise k s ∈ ts ↔ on)
    (hclear : Task.clear k s ∈ ts ↔ off) (hone : ¬(on ∧ off)) :
    Turns n.alarm.notices (n.deliver ts).alarm.notices ⟨k, s⟩ on off :=
  ⟨fun h => Node.deliver_raised hk ts n hact (fun hc => hone ⟨h, hclear.mp hc⟩) (.inr (hraise.mpr h)),
    fun h => Node.deliver_cleared hk ts n hact (fun hr => hone ⟨hraise.mp hr, h⟩) (.inr (hclear.mpr h)),
    fun h h' => n.deliver_unasked hk ts (fun hr => h (hraise.mp hr)) (fun hc => h' (hclear.mp hc))⟩

/-- The class that Vb gives, by Table 10-2's bounds (R170). -/
theorem batteryAfter_class (b : Battery) (vb : Nat) :
    (b = .normal → (batteryAfter b vb).1 = if vb < 682 then .critical else if vb < 739 then .low else .normal) ∧
    (b = .low → (batteryAfter b vb).1 = if vb < 682 then .critical else if vb < 759 then .low else .normal) ∧
    (b = .critical → (batteryAfter b vb).1 = if vb < 702 then .critical else if vb < 759 then .low else .normal) ∧
    (b = .external → (batteryAfter b vb).1 = .external) := by
  refine ⟨?_, ?_, ?_, ?_⟩ <;> rintro rfl <;> simp only [batteryAfter]
  · split
    · rfl
    · split <;> rfl
  · split
    · rfl
    · split
      · rw [if_neg (by omega)]
      · rw [if_pos (by omega)]
  · split
    · rw [if_neg (by omega), if_neg (by omega)]
    · split
      · rw [if_neg (by omega), if_pos (by omega)]
      · rw [if_pos (by omega)]

/-- The requests that go with a change of class: BATTERY_CRITICAL with CRITICAL, BATTERY_LOW with NORMAL's end (R170). -/
theorem batteryAfter_tasks (b : Battery) (vb : Nat) :
    (Task.raise .batteryCritical none ∈ (batteryAfter b vb).2 ↔ b ≠ .critical ∧ (batteryAfter b vb).1 = .critical) ∧
    (Task.clear .batteryCritical none ∈ (batteryAfter b vb).2 ↔ b = .critical ∧ (batteryAfter b vb).1 ≠ .critical) ∧
    (Task.raise .batteryLow none ∈ (batteryAfter b vb).2 ↔ b = .normal ∧ (batteryAfter b vb).1 ≠ .normal) ∧
    (Task.clear .batteryLow none ∈ (batteryAfter b vb).2 ↔ b ≠ .normal ∧ (batteryAfter b vb).1 = .normal) := by
  cases b with
  | external => simp [batteryAfter]
  | normal =>
    simp only [batteryAfter]
    split
    · simp
    · split <;> simp
  | low =>
    simp only [batteryAfter]
    split
    · simp
    · split <;> simp
  | critical =>
    simp only [batteryAfter]
    split
    · simp
    · split <;> simp

end Sys2Proof.Machine

open Sys2Proof.Machine in
/-- Settles O12: the copy's fields, the writes between them, and the battery class. -/
theorem copiedRecordsAreHandedOver : Obligations.CopiedRecordsAreHandedOver := by
  unfold Obligations.CopiedRecordsAreHandedOver
  refine ⟨fun s hstamp hholding => ⟨fun b f g rest hmover => ?_, fun b f hmover hrole hother => ?_⟩,
    fun s b left hmover hleft hcopying hbuffer hfilling => ?_, fun s b f vb hmover hvb => ?_⟩
  · refine ⟨_, rfl, rfl, ?_⟩
    have hgrant := Sensing.grantWrites_of_nothing (role := s.node.cfg.role)
      (s := { s.node.sensing with mover := some ⟨b, g :: rest⟩ }) hstamp hholding
    have hcopy := Node.copyField_of_more hmover
    rw [hgrant] at hcopy
    rw [← hcopy]
    exact Node.settle_follows _
  · refine ⟨_, rfl, ?_⟩
    simp only [Node.settle_sensing, Node.settle_evidence]
    rw [Node.copyField_of_last hmover,
      Sensing.grantWrites_of_nothing (by simpa using hstamp) (by simpa using hholding),
      Sensing.beginCopy_of_none (Sensing.not_complete b (by simp) (by simpa using hother)).1
        (Sensing.not_complete b (by simp) (by simpa using hother)).2]
    obtain ⟨i, hi⟩ := Node.takeRecord_sensing (Node.takeVb
      { s.node with sensing := s.node.sensing.handedOver s.node.cfg.role b } (s.node.sensing.buf b).record.battery)
    have hsensing : (Node.takeVb { s.node with sensing := s.node.sensing.handedOver s.node.cfg.role b }
        (s.node.sensing.buf b).record.battery).sensing = s.node.sensing.handedOver s.node.cfg.role b := by simp
    have hinput : (s.node.sensing.handedOver s.node.cfg.role b).input = some (s.node.sensing.buf b).record := by
      rw [Sensing.handedOver_eq, if_neg hrole]
    refine ⟨?_, ?_, ?_, fun hidle => ?_, fun hbusy => ?_⟩
    · rw [hi, hsensing]
      exact congrArg Buffer.state (Sensing.handedOver_buf_self _ _ b)
    · rw [hi, hsensing]
      exact Sensing.handedOver_mover _ _ b
    · rw [hi, hsensing]
      exact Sensing.handedOver_buf_not _ _ b
    · rw [Node.takeRecord_of_idle (by simpa using hidle) (by rw [hsensing]; exact hinput)]
      simp
    · rw [Node.takeRecord_of_busy (by simpa using hbusy), hsensing]
      refine ⟨by simp, hinput, fun hwaiting => ?_⟩
      rw [Sensing.handedOver_eq]
      exact if_pos ⟨hrole, hwaiting⟩
  · obtain ⟨f, rest, rfl⟩ := List.exists_cons_of_ne_nil hleft
    have hmade := Node.copyField_writesMade hmover ⟨hcopying, hbuffer, hfilling⟩
    have hlength : (f :: rest).length = 1 ↔ rest.length = 0 := by simp
    intro x w stamped
    have hrecord : stamped = s.node.sensing.stampedRecord := by
      cases hs : s.node.sensing.stampWaiting with
      | none => simp only [stamped, x, w, Sensing.stampedRecord, hbuffer, hs]
      | some v => simp only [stamped, x, w, Sensing.stampedRecord, hbuffer, hs]
    refine ⟨_, rfl, rfl, ?_⟩
    simp only [Node.settle_sensing, hrecord, hlength, List.drop_one, List.tail_cons]
    refine ⟨hmade.stampWaiting, hmade.holding, fun hh => ?_, fun k v hh => ⟨fun hlast => ?_, fun hlast hp => ?_⟩⟩
    · obtain ⟨hfill, hcopied, hgoes⟩ := hmade.noResult hh
      exact ⟨hfill, ⟨by rw [hcopied], by rw [hcopied]⟩, hgoes⟩
    · obtain ⟨hfill, hcopied, hgoes⟩ := hmade.result k v hh hlast
      exact ⟨hfill, ⟨by rw [hcopied], by rw [hcopied]⟩, hgoes⟩
    · obtain ⟨hfill, hcopied, hstage, hrail, hdivider, hmore, hnone⟩ := hmade.last k v hh hlast hp
      refine ⟨hfill.trans (SampleRecord.finished_eq _ _), ⟨by rw [hcopied], by rw [hcopied]⟩,
        hstage, hrail, hdivider, fun htwo => ?_, fun hone => ?_⟩
      · have hne : rest.length ≠ 0 := by simp only [List.length_cons] at htwo; omega
        rw [if_neg hne] at hmore
        exact hmore rfl
      · rw [if_pos hone] at hnone
        exact hnone rfl
  · refine ⟨_, rfl, ?_⟩
    simp only [Node.settle_powerBattery, Node.settle_alarmNotices]
    rw [Node.copyField_of_last hmover, hvb, Node.takeRecord_power, Node.takeRecord_alarm, Node.takeVb_battery]
    obtain ⟨hnormal, hlow, hcritical, hexternal⟩ := batteryAfter_class s.node.power.battery vb
    obtain ⟨hraiseC, hclearC, hraiseL, hclearL⟩ := batteryAfter_tasks s.node.power.battery vb
    refine ⟨hnormal, hlow, hcritical, hexternal, fun hact => ⟨?_, ?_⟩⟩
    · exact Node.deliver_turns (n := { s.node with
          sensing := ((s.node.sensing.handedOver s.node.cfg.role b).grantWrites s.node.cfg.role).beginCopy s.node.cfg.role
          power := { s.node.power with battery := (batteryAfter s.node.power.battery vb).1 } }) nofun hact hraiseC hclearC
        (fun h => h.1.1 h.2.1)
    · exact Node.deliver_turns (n := { s.node with
          sensing := ((s.node.sensing.handedOver s.node.cfg.role b).grantWrites s.node.cfg.role).beginCopy s.node.cfg.role
          power := { s.node.power with battery := (batteryAfter s.node.power.battery vb).1 } }) nofun hact hraiseL hclearL
        (fun h => h.2.1 h.1.1)
end

section
/-! Own relayable frames while the queue has room and holds none of the sequences to come: each takes the next place
(R99, R107). -/

namespace Sys2Proof.Machine

/-- The queue's sequences are the last ones the origin sequence counter gave: as many as the queue has entries. -/
structure Node.Lined (n : Node) : Prop where
  active : n.active = true
  seqs : ∀ e ∈ n.tx.queue, ∃ i, 1 ≤ i ∧ i ≤ n.tx.queue.length ∧ e.frame.hdr.seq = n.relay.originSeq - BitVec.ofNat 8 i

theorem Node.lined_of_empty {n : Node} (hact : n.active = true) (hq : n.tx.queue = []) : n.Lined :=
  ⟨hact, fun e he => by rw [hq] at he; cases he⟩

/-- It speaks of the phase, the queue and the counter only. -/
theorem Node.Lined.of_same {n t : Node} (h : n.Lined) (hact : t.active = n.active) (hq : t.tx.queue = n.tx.queue)
    (hs : t.relay.originSeq = n.relay.originSeq) : t.Lined :=
  ⟨hact.trans h.active, by rw [hq, hs]; exact h.seqs⟩

/-- A relayable own frame as the newest entry, of attempt 1 (R99, R107). -/
def Node.pushOwn (n : Node) (test : Bool) (b : Body) : Node :=
  { n.nextSeq with tx := n.tx.accept n.clock (n.relayableFrame test b) true n.clock (some 1) }

/-- The entry of a relayable own frame. -/
def Node.ownEntry (n : Node) (test : Bool) (b : Body) : TxEntry :=
  ⟨n.relayableFrame test b, true, .waiting, n.clock, some 1⟩

theorem reached_self (s : Stamp) : reached s s = true := by simp [reached, elapsed]

theorem newEntry_now (now : Stamp) (f : Frame) (own : Bool) (attempt : Option Nat) :
    newEntry now f own now attempt = ⟨f, own, .waiting, now, attempt⟩ := by
  simp [newEntry, reached_self]

section
variable (n : Node) (test : Bool) (b : Body)

@[simp] theorem Node.pushOwn_clock : (n.pushOwn test b).clock = n.clock := rfl
@[simp] theorem Node.pushOwn_timer : (n.pushOwn test b).timer = n.timer := rfl
@[simp] theorem Node.pushOwn_sensing : (n.pushOwn test b).sensing = n.sensing := rfl
@[simp] theorem Node.pushOwn_evidence : (n.pushOwn test b).evidence = n.evidence := rfl
@[simp] theorem Node.pushOwn_peers : (n.pushOwn test b).peers = n.peers := rfl
@[simp] theorem Node.pushOwn_alarm : (n.pushOwn test b).alarm = n.alarm := rfl
@[simp] theorem Node.pushOwn_rx : (n.pushOwn test b).rx = n.rx := rfl
@[simp] theorem Node.pushOwn_link : (n.pushOwn test b).link = n.link := rfl
@[simp] theorem Node.pushOwn_power : (n.pushOwn test b).power = n.power := rfl
@[simp] theorem Node.pushOwn_out : (n.pushOwn test b).out = n.out := rfl
@[simp] theorem Node.pushOwn_loader : (n.pushOwn test b).loader = n.loader := rfl
@[simp] theorem Node.pushOwn_serial : (n.pushOwn test b).serial = n.serial := rfl
@[simp] theorem Node.pushOwn_seen : (n.pushOwn test b).relay.seen = n.relay.seen := rfl
@[simp] theorem Node.pushOwn_watch : (n.pushOwn test b).relay.watch = n.relay.watch := rfl
@[simp] theorem Node.pushOwn_originSeq : (n.pushOwn test b).relay.originSeq = n.relay.originSeq + 1 := rfl
@[simp] theorem Node.pushOwn_active : (n.pushOwn test b).active = n.active := rfl

theorem Node.pushOwn_queue (h : b.cls.relayable = true) :
    (n.pushOwn test b).tx.queue = n.tx.queue ++ [n.ownEntry test b] := by
  have hcls : (n.relayableFrame test b).cls.relayable = true := h
  show (n.tx.accept n.clock (n.relayableFrame test b) true n.clock (some 1)).queue = _
  rw [Transmitter.accept_queue, if_pos hcls, newEntry_now]
  rfl

end

/-- The next sequence is none of those in the queue. -/
theorem Node.Lined.fresh {n : Node} (h : n.Lined) (hl : n.tx.queue.length < 8) (origin : Byte) :
    ∀ e ∈ n.tx.queue, e.holds origin n.relay.originSeq = false := by
  intro e he
  obtain ⟨i, hi, hlen, hseq⟩ := h.seqs e he
  have hne : e.frame.hdr.seq ≠ n.relay.originSeq := by
    rw [hseq]
    intro heq
    have hnat := congrArg BitVec.toNat heq
    have hlt := n.relay.originSeq.isLt
    simp only [BitVec.toNat_sub, BitVec.toNat_ofNat] at hnat
    omega
  simp [TxEntry.holds, hne]

theorem Node.Lined.pushOwn {n : Node} (h : n.Lined) (test : Bool) (b : Body) (hb : b.cls.relayable = true) :
    (n.pushOwn test b).Lined := by
  refine ⟨h.active, fun e he => ?_⟩
  rw [n.pushOwn_queue test b hb] at he ⊢
  rw [Node.pushOwn_originSeq, List.length_append, List.length_singleton]
  rcases List.mem_append.mp he with he | he
  · obtain ⟨i, hi, hlen, hseq⟩ := h.seqs e he
    refine ⟨i + 1, by omega, by omega, ?_⟩
    rw [hseq, BitVec.ofNat_add]
    bv_omega
  · rw [List.mem_singleton.mp he]
    exact ⟨1, Nat.le_refl 1, by omega, by
      show n.relay.originSeq = n.relay.originSeq + 1 - 1
      bv_omega⟩

/-! ## Offers -/

/-- The offer of the next own frame is accepted, and nothing is left to report (R107). -/
theorem Node.Lined.run_offer {n : Node} (h : n.Lined) (hl : n.tx.queue.length < 8) (test : Bool) (b : Body)
    (hb : b.cls.relayable = true) :
    Task.run n.nextSeq (.offer (n.relayableFrame test b) (some 1)) = (n.pushOwn test b, []) := by
  have hact : n.nextSeq.active = true := h.active
  have hoffer := Transmitter.offer_fresh n.tx n.clock (n.relayableFrame test b) true n.clock (some 1) hb hl
    (h.fresh hl _)
  simp only [Task.run, Node.offer, hact, Bool.not_true, Bool.false_eq_true, if_false, Node.nextSeq_tx,
    Node.nextSeq_clock, hoffer, Node.afterOffer_none]
  simp [Node.pushOwn]

theorem Node.Lined.deliver_offer {n : Node} (h : n.Lined) (hl : n.tx.queue.length < 8) (test : Bool) (b : Body)
    (hb : b.cls.relayable = true) (d : Nat) :
    Machine.deliver (d + 1) (.offer (n.relayableFrame test b) (some 1)) n.nextSeq = n.pushOwn test b := by
  unfold Machine.deliver
  rw [h.run_offer hl test b hb]
  rfl

/-- An origination takes the next place (R99, R107). -/
theorem Node.Lined.originate {n : Node} (h : n.Lined) (hl : n.tx.queue.length < 8) (test : Bool) (b : Body)
    (hb : b.cls.relayable = true) : n.originate test b = n.pushOwn test b := h.deliver_offer hl test b hb 11

/-! ## Notice requests and event reports -/

/-- The notice frame of a request or an event; RADIO is never framed (R84). -/
def Node.framed (n : Node) (k : NoticeKind) (set : Bool) (s : Option Byte) : Node :=
  if k = .radio then n else n.pushOwn false (.notice k set s)

/-- The item in the set, and its own record (R84, R183). -/
def Node.withNotice (n : Node) (k : NoticeKind) (s : Option Byte) : Node :=
  Node.record { n with alarm := { n.alarm with notices := n.alarm.notices ++ [NoticeItem.mk k s] } }
    (n.ownNoticeRecord .ownNotice k true s)

/-- The event's stamp, and its own record (R85, R183). -/
def Node.withEvent (n : Node) (k : NoticeKind) (s : Option Byte) : Node :=
  Node.record { n with alarm := { n.alarm with lastEvent := some n.clock } } (n.ownNoticeRecord .ownEvent k true s)

theorem Node.record_eq (n : Node) (r : EventRecord) : n.record r =
    { n with serial := if n.onPanel then n.serial.push r else n.serial } := by
  unfold Node.record; split <;> rfl

@[simp] theorem Node.record_relay (n : Node) (r : EventRecord) : (n.record r).relay = n.relay := by rw [n.record_eq]
@[simp] theorem Node.record_active (n : Node) (r : EventRecord) : (n.record r).active = n.active := by
  rw [n.record_eq]; rfl

theorem Node.dropNotice_eq (n : Node) (k : NoticeKind) (s : Option Byte) (h : NoticeItem.mk k s ∈ n.alarm.notices) :
    n.dropNotice k s = Node.record
      { n with alarm := { n.alarm with notices := n.alarm.notices.filter (· != NoticeItem.mk k s) } }
      (n.ownNoticeRecord .ownNotice k false s) := by
  unfold Node.dropNotice
  rw [if_pos (by simpa using h)]
  rfl

theorem Node.dropNotice_of_absent (n : Node) (k : NoticeKind) (s : Option Byte)
    (h : NoticeItem.mk k s ∉ n.alarm.notices) : n.dropNotice k s = n := by
  unfold Node.dropNotice
  rw [if_neg (by simpa using h)]

@[simp] theorem Node.dropNotice_relay (n : Node) (k : NoticeKind) (s : Option Byte) :
    (n.dropNotice k s).relay = n.relay := by
  unfold Node.dropNotice; split <;> simp
@[simp] theorem Node.dropNotice_active (n : Node) (k : NoticeKind) (s : Option Byte) :
    (n.dropNotice k s).active = n.active := by
  unfold Node.dropNotice
  split
  · rw [Node.record_active]; rfl
  · rfl

/-- A frame of a notice, delivered in its turn. -/
theorem Node.Lined.deliver_noticeTasks {n : Node} (h : n.Lined) (hl : n.tx.queue.length < 8) (k : NoticeKind)
    (set : Bool) (s : Option Byte) (d : Nat) :
    (n.noticeTasks k set s).2.foldl (fun m u => Machine.deliver (d + 1) u m) (n.noticeTasks k set s).1 =
      n.framed k set s := by
  unfold Node.noticeTasks Node.framed
  by_cases hk : k = .radio
  · simp [hk]
  · simp only [beq_iff_eq, hk, if_false, List.foldl_cons, List.foldl_nil]
    exact h.deliver_offer hl false _ rfl d

/-- A raise of an item that does not stand: the item, its record, and its frame (R84). -/
theorem Node.Lined.deliver_raise {n : Node} (h : n.Lined) (hl : n.tx.queue.length < 8) (k : NoticeKind)
    (s : Option Byte) (hm : NoticeItem.mk k s ∉ n.alarm.notices) :
    n.deliver [.raise k s] = (n.withNotice k s).framed k true s := by
  have hrun : Task.run n (.raise k s) = (n.withNotice k s).noticeTasks k true s := by
    show n.raise k s = _
    unfold Node.raise
    rw [if_neg (by simp [h.active, hm])]
    rfl
  have hlined : (n.withNotice k s).Lined := h.of_same (Node.record_active _ _) (by simp [Node.withNotice])
    (by simp [Node.withNotice])
  show (Task.run n (.raise k s)).2.foldl _ (Task.run n (.raise k s)).1 = _
  rw [hrun]
  exact hlined.deliver_noticeTasks (by simpa [Node.withNotice] using hl) k true s 10

/-- A raise of an item that stands changes nothing (R84). -/
theorem Node.deliver_raise_standing {n : Node} {k : NoticeKind} {s : Option Byte}
    (hm : NoticeItem.mk k s ∈ n.alarm.notices) : n.deliver [.raise k s] = n := by
  have hrun : Task.run n (.raise k s) = (n, []) := by
    show n.raise k s = _
    unfold Node.raise
    rw [if_pos (by simp [hm])]
  show (Task.run n (.raise k s)).2.foldl _ (Task.run n (.raise k s)).1 = _
  rw [hrun]
  rfl

/-- A clear of an item that stands: the item gone, its record, and its frame (R84). -/
theorem Node.Lined.deliver_clear {n : Node} (h : n.Lined) (hl : n.tx.queue.length < 8) (k : NoticeKind)
    (s : Option Byte) (hm : NoticeItem.mk k s ∈ n.alarm.notices) :
    n.deliver [.clear k s] = (n.dropNotice k s).framed k false s := by
  have hrun : Task.run n (.clear k s) = (n.dropNotice k s).noticeTasks k false s := by
    show n.clear k s = _
    unfold Node.clear
    rw [if_neg (by simp [h.active, hm])]
  have hlined : (n.dropNotice k s).Lined := h.of_same (by simp) (by simp) (by simp)
  show (Task.run n (.clear k s)).2.foldl _ (Task.run n (.clear k s)).1 = _
  rw [hrun]
  exact hlined.deliver_noticeTasks (by simpa using hl) k false s 10

theorem Node.deliver_clear_absent {n : Node} {k : NoticeKind} {s : Option Byte}
    (hm : NoticeItem.mk k s ∉ n.alarm.notices) : n.deliver [.clear k s] = n := by
  have hrun : Task.run n (.clear k s) = (n, []) := by
    show n.clear k s = _
    unfold Node.clear
    rw [if_pos (by simp [hm])]
  show (Task.run n (.clear k s)).2.foldl _ (Task.run n (.clear k s)).1 = _
  rw [hrun]
  rfl

/-- An event: its stamp, its record, and its frame (R85). -/
theorem Node.Lined.deliver_event {n : Node} (h : n.Lined) (hl : n.tx.queue.length < 8) (k : NoticeKind)
    (s : Option Byte) : n.deliver [.event k s] = (n.withEvent k s).framed k true s := by
  have hrun : Task.run n (.event k s) = (n.withEvent k s).noticeTasks k true s := by
    show n.event k s = _
    unfold Node.event
    rw [if_neg (by simp [h.active])]
    rfl
  have hlined : (n.withEvent k s).Lined := h.of_same (Node.record_active _ _) (by simp [Node.withEvent])
    (by simp [Node.withEvent])
  show (Task.run n (.event k s)).2.foldl _ (Task.run n (.event k s)).1 = _
  rw [hrun]
  exact hlined.deliver_noticeTasks (by simpa [Node.withEvent] using hl) k true s 10

/-- A request or report outside PATROL and RUN is discarded (R87). -/
theorem Node.deliver_inactive {n : Node} (hact : n.active = false) (t : Task)
    (ht : (∃ k s, t = .raise k s) ∨ (∃ k s, t = .clear k s) ∨ ∃ k s, t = .event k s) : n.deliver [t] = n := by
  have hrun : Task.run n t = (n, []) := by
    rcases ht with ⟨k, s, rfl⟩ | ⟨k, s, rfl⟩ | ⟨k, s, rfl⟩
    · simp [Task.run, Node.raise, hact]
    · simp [Task.run, Node.clear, hact]
    · simp [Task.run, Node.event, hact]
  show (Task.run n t).2.foldl _ (Task.run n t).1 = _
  rw [hrun]
  rfl

/-! ## Several notices -/

/-- `t` comes of `n` by at most `k` notice frames of the node's own, and the queue is still in line. -/
structure Node.Notifies (n : Node) (k : Nat) (t : Node) : Prop where
  lined : t.Lined
  link : t.link = n.link
  seen : t.relay.seen = n.relay.seen
  watch : t.relay.watch = n.relay.watch
  added : ∃ es : List TxEntry, t.tx.queue = n.tx.queue ++ es ∧ es.length ≤ k ∧ ∀ e ∈ es, e.frame.cls = .notice

theorem Node.Notifies.refl {n : Node} (h : n.Lined) : n.Notifies 0 n :=
  ⟨h, rfl, rfl, rfl, [], by simp⟩

theorem Node.Notifies.mono {n t : Node} {k k' : Nat} (h : n.Notifies k t) (hk : k ≤ k') : n.Notifies k' t := by
  obtain ⟨hl, hlink, hs, hw, es, hq, hlen, hall⟩ := h
  exact ⟨hl, hlink, hs, hw, es, hq, by omega, hall⟩

theorem Node.Notifies.trans {a b c : Node} {j k : Nat} (h : a.Notifies j b) (h' : b.Notifies k c) :
    a.Notifies (j + k) c := by
  obtain ⟨-, hlink, hs, hw, es, hq, hlen, hall⟩ := h
  obtain ⟨hl', hlink', hs', hw', es', hq', hlen', hall'⟩ := h'
  refine ⟨hl', hlink'.trans hlink, hs'.trans hs, hw'.trans hw, es ++ es', by rw [hq', hq, List.append_assoc],
    by simp; omega, fun e he => ?_⟩
  exact (List.mem_append.mp he).elim (hall e) (hall' e)

theorem Node.Notifies.length_le {n t : Node} {k : Nat} (h : n.Notifies k t) :
    t.tx.queue.length ≤ n.tx.queue.length + k := by
  obtain ⟨-, -, -, -, es, hq, hlen, -⟩ := h
  simp only [hq, List.length_append]; omega

/-- A change that touches neither the queue nor the Relay Engine nor the link. -/
theorem Node.Notifies.of_same {n t : Node} (h : n.Lined) (hact : t.active = n.active) (htx : t.tx = n.tx)
    (hrelay : t.relay = n.relay) (hlink : t.link = n.link) : n.Notifies 0 t :=
  ⟨h.of_same hact (by rw [htx]) (by rw [hrelay]), hlink, by rw [hrelay], by rw [hrelay], [], by simp [htx]⟩

theorem Node.framed_notifies {n : Node} (h : n.Lined) (k : NoticeKind) (set : Bool) (s : Option Byte) :
    n.Notifies 1 (n.framed k set s) := by
  unfold Node.framed
  split
  · exact (Node.Notifies.refl h).mono (by omega)
  · exact ⟨h.pushOwn _ _ rfl, rfl, rfl, rfl, [n.ownEntry false (.notice k set s)], n.pushOwn_queue _ _ rfl,
      by simp, by simp [Node.ownEntry, Node.relayableFrame, Frame.cls, Body.cls]⟩

/-- The task is a notice request or an event report. -/
def Task.notices : Task → Bool
  | .raise _ _ => true
  | .clear _ _ => true
  | .event _ _ => true
  | _ => false

theorem Node.Lined.deliver_one {n : Node} (h : n.Lined) (hl : n.tx.queue.length < 8) {t : Task}
    (ht : t.notices = true) : n.Notifies 1 (n.deliver [t]) := by
  have hsame : ∀ m : Node, m.active = n.active → m.tx = n.tx → m.relay = n.relay → m.link = n.link →
      ∀ k set s, n.Notifies 1 (m.framed k set s) := fun m ha htx hr hlk k set s =>
    (Node.Notifies.of_same h ha htx hr hlk).trans
      (Node.framed_notifies (h.of_same ha (by rw [htx]) (by rw [hr])) k set s)
  have hlink : ∀ (m : Node) r, (m.record r).link = m.link := fun m r => by rw [m.record_eq]
  cases t with
  | raise k s =>
    by_cases hm : NoticeItem.mk k s ∈ n.alarm.notices
    · rw [Node.deliver_raise_standing hm]; exact (Node.Notifies.refl h).mono (by omega)
    · rw [h.deliver_raise hl k s hm]
      exact hsame (n.withNotice k s) (Node.record_active _ _) (Node.record_tx _ _) (Node.record_relay _ _)
        (hlink _ _) k true s
  | clear k s =>
    by_cases hm : NoticeItem.mk k s ∈ n.alarm.notices
    · rw [h.deliver_clear hl k s hm]
      exact hsame _ (by simp) (by simp) (by simp) (by rw [n.dropNotice_eq k s hm]; exact hlink _ _) k false s
    · rw [Node.deliver_clear_absent hm]; exact (Node.Notifies.refl h).mono (by omega)
  | event k s =>
    rw [h.deliver_event hl k s]
    exact hsame (n.withEvent k s) (Node.record_active _ _) (Node.record_tx _ _) (Node.record_relay _ _)
      (hlink _ _) k true s
  | _ => cases ht

/-- Notice requests and event reports, while there is room for a frame of each. -/
theorem Node.Lined.deliver_all {ts : List Task} : ∀ {n : Node}, n.Lined → n.tx.queue.length + ts.length ≤ 8 →
    (∀ t ∈ ts, t.notices = true) → n.Notifies ts.length (n.deliver ts) := by
  induction ts with
  | nil => exact fun h _ _ => Node.Notifies.refl h
  | cons t ts ih =>
    intro n h hl ht
    simp only [List.length_cons] at hl ⊢
    have hone := h.deliver_one (by omega) (ht t List.mem_cons_self)
    have hrest := ih hone.lined (by have := hone.length_le; omega) (fun u hu => ht u (List.mem_cons_of_mem _ hu))
    exact (hone.trans hrest).mono (by omega)

end Sys2Proof.Machine
end

section
/-! The publication of a record: the evidence it leaves, the sensor notices, and the settling count (R22 to R40). -/

namespace Sys2Proof.Machine

/-! ## What a publication leaves -/

theorem Node.takeResult_evidence (n : Node) (e : EvidenceResult) : (n.takeResult e).evidence = n.evidence :=
  (n.takeResult_acts e).evidence

theorem Node.takeResult_sensing (n : Node) (e : EvidenceResult) : (n.takeResult e).sensing = n.sensing :=
  (n.takeResult_acts e).sensing

/-- The Evidence Unit after a publication: the record's stages, and the record that waited in its input (R23). -/
theorem Node.publish_evidence {n : Node} {r : SampleRecord} (h : n.evidence.inHand = some r) :
    n.publish.evidence = { evidenceAfter n.cfg (n.alarm.state == .quiet) n.evidence r with inHand := n.sensing.input } ∧
      n.publish.sensing.input = none := by
  rw [n.publish_eq r h]
  unfold Node.takeRecord
  rw [Node.takeResult_evidence, Node.takeResult_sensing, Node.published, Node.deliver_evidence, Node.deliver_sensing]
  cases hi : n.sensing.input with
  | none => exact ⟨by simp [Node.takeResult_evidence], by simp [Node.takeResult_sensing, hi]⟩
  | some i => exact ⟨rfl, rfl⟩

theorem exec_evidencePublication (s : State) :
    exec .evidencePublication s = .next { s with node := s.node.publish.settle } := rfl

/-- Every command but a power-on reset leaves the node clock (section 1.1). -/
theorem exec_next_clock {c : Instr} {s t : State} (h : exec c s = .next t) (hc : c ≠ .powerOnReset) :
    t.node.clock = s.node.clock := by
  obtain ⟨m, hchanges, hfollows⟩ := (exec_next_ends h).2.follows
  exact hfollows.clock.trans (hchanges.clock hc)

theorem Node.publish_clock (s : State) : s.node.publish.clock = s.node.clock := by
  rw [← Node.settle_clock s.node.publish]
  exact exec_next_clock (c := .evidencePublication) (t := { s with node := s.node.publish.settle }) rfl (by decide)

/-- A publication's evidence, in the next state. -/
theorem Node.published_evidence {n : Node} {r : SampleRecord} (h : n.evidence.inHand = some r) :
    n.publish.settle.evidence =
      { evidenceAfter n.cfg (n.alarm.state == .quiet) n.evidence r with inHand := n.sensing.input } := by
  rw [Node.settle_evidence]; exact (Node.publish_evidence h).1

/-! ## The lanes -/

theorem scatter_eq (lit dark : Nat) : scatter lit dark = min 1023 (lit - dark) := by
  unfold scatter limitNat; omega

theorem excess_eq (s acc : Nat) : excess s acc = min 1023 (s - acc / 64) := by
  unfold excess limitNat baseline; omega

/-- The optical lane's fields are not touched by the stages after it. -/
theorem evidenceAfter_optical (cfg : Image) (quiet : Bool) (e : Evidence) (r : SampleRecord) :
    (evidenceAfter cfg quiet e r).q = (opticalLane cfg.gain quiet e r).q ∧
    (evidenceAfter cfg quiet e r).accI = (opticalLane cfg.gain quiet e r).accI ∧
    (evidenceAfter cfg quiet e r).accB = (opticalLane cfg.gain quiet e r).accB ∧
    (evidenceAfter cfg quiet e r).seedPending = (opticalLane cfg.gain quiet e r).seedPending ∧
    (evidenceAfter cfg quiet e r).dirtyRaised = (opticalLane cfg.gain quiet e r).dirtyRaised := by
  unfold evidenceAfter closingStages thermalLane
  split <;> exact ⟨rfl, rfl, rfl, rfl, rfl⟩

/-- The thermal lane reads nothing that the optical lane changes. -/
theorem evidenceAfter_thermal (cfg : Image) (quiet : Bool) (e : Evidence) (r : SampleRecord) :
    (evidenceAfter cfg quiet e r).ring = (thermalLane cfg.heatFloor e r).ring ∧
    (evidenceAfter cfg quiet e r).hx = (thermalLane cfg.heatFloor e r).hx := by
  unfold evidenceAfter closingStages thermalLane opticalLane
  split
  · split <;> exact ⟨rfl, rfl⟩
  · split <;> exact ⟨rfl, rfl⟩

/-- The closing stages' own fields (R37 to R40). -/
theorem evidenceAfter_closing (cfg : Image) (quiet : Bool) (e : Evidence) (r : SampleRecord) :
    (evidenceAfter cfg quiet e r).lv =
      (if r.opticalValid || r.heatValid then
        localEvidence (evidenceAfter cfg quiet e r).q (evidenceAfter cfg quiet e r).hx else e.lv) ∧
    (evidenceAfter cfg quiet e r).settling = e.settling - 1 ∧
    ((evidenceAfter cfg quiet e r).opticalRun, (evidenceAfter cfg quiet e r).opticalRaised) =
      runCount e.opticalRun e.opticalRaised r.opticalValid ∧
    ((evidenceAfter cfg quiet e r).heatRun, (evidenceAfter cfg quiet e r).heatRaised) =
      runCount e.heatRun e.heatRaised r.heatValid := by
  unfold evidenceAfter closingStages thermalLane opticalLane
  split
  · split <;> exact ⟨rfl, rfl, rfl, rfl⟩
  · split <;> exact ⟨rfl, rfl, rfl, rfl⟩

/-- Three records in a row that speak against a raised flag change it (R39, R40). -/
theorem runCount_spec (count : Nat) (raised valid : Bool) :
    (valid ≠ raised → (runCount count raised valid).2 = raised ∧ (runCount count raised valid).1 = 0) ∧
    (valid = raised → count < 2 →
      (runCount count raised valid).2 = raised ∧ (runCount count raised valid).1 = count + 1) ∧
    (valid = raised → 2 ≤ count →
      (runCount count raised valid).2 = !raised ∧ (runCount count raised valid).1 = 0) := by
  refine ⟨fun h => ?_, fun h hc => ?_, fun h hc => ?_⟩
  · simp [runCount, h]
  · have hlt : ¬3 ≤ count + 1 := by omega
    simp [runCount, h, hlt]
  · have hle : 3 ≤ count + 1 := by omega
    simp [runCount, h, hle]

theorem dirtyAfter_spec (raised : Bool) (bi : Nat) :
    (600 < bi → dirtyAfter raised bi = true) ∧ (bi < 560 → dirtyAfter raised bi = false) ∧
      (560 ≤ bi → bi ≤ 600 → dirtyAfter raised bi = raised) := by
  cases raised with
  | true => simp [dirtyAfter]; omega
  | false => simp [dirtyAfter]; omega

/-- The contamination flag, judged on Bi after the record unless the seed is pending (R29). -/
theorem opticalLane_dirty (gain : Nat) (quiet : Bool) (e : Evidence) (r : SampleRecord) :
    (opticalLane gain quiet e r).dirtyRaised =
      if e.seedPending then e.dirtyRaised else dirtyAfter e.dirtyRaised ((opticalLane gain quiet e r).accI / 64) := by
  unfold opticalLane
  split <;> rfl

/-! ## The sensor notices -/

theorem flagTask_mem {kind k : NoticeKind} {changed raised : Bool} :
    (Task.raise k none ∈ flagTask kind changed raised ↔ kind = k ∧ changed = true ∧ raised = true) ∧
    (Task.clear k none ∈ flagTask kind changed raised ↔ kind = k ∧ changed = true ∧ raised = false) := by
  cases changed <;> cases raised <;> simp [flagTask, eq_comm]

/-- An item stands after a change of its flag as the flag says, and else as it stood (R29, R39, R40). -/
theorem told_of_turns {before after : List NoticeItem} {item : NoticeItem} {b a : Bool}
    (h : Turns before after item (b ≠ a ∧ a = true) (b ≠ a ∧ a = false)) :
    item ∈ after ↔ if b = a then item ∈ before else a = true := by
  obtain ⟨hon, hoff, hkeep⟩ := h
  by_cases hba : b = a
  · rw [if_pos hba]
    exact hkeep (fun hc => hc.1 hba) (fun hc => hc.1 hba)
  · rw [if_neg hba]
    cases ha : a with
    | true => exact ⟨fun _ => rfl, fun _ => hon ⟨hba, ha⟩⟩
    | false => exact ⟨fun hm => absurd hm (hoff ⟨hba, ha⟩), nofun⟩

/-- The sensor flags and their items. -/
theorem evidenceTasks_mem (before after : Evidence) :
    ((Task.raise .opticalSaturated none ∈ evidenceTasks before after ↔
        before.opticalRaised ≠ after.opticalRaised ∧ after.opticalRaised = true) ∧
      (Task.clear .opticalSaturated none ∈ evidenceTasks before after ↔
        before.opticalRaised ≠ after.opticalRaised ∧ after.opticalRaised = false)) ∧
    ((Task.raise .heatSensor none ∈ evidenceTasks before after ↔
        before.heatRaised ≠ after.heatRaised ∧ after.heatRaised = true) ∧
      (Task.clear .heatSensor none ∈ evidenceTasks before after ↔
        before.heatRaised ≠ after.heatRaised ∧ after.heatRaised = false)) ∧
    ((Task.raise .chamberDirty none ∈ evidenceTasks before after ↔
        before.dirtyRaised ≠ after.dirtyRaised ∧ after.dirtyRaised = true) ∧
      (Task.clear .chamberDirty none ∈ evidenceTasks before after ↔
        before.dirtyRaised ≠ after.dirtyRaised ∧ after.dirtyRaised = false)) := by
  simp [evidenceTasks, flagTask_mem]

theorem evidenceTasks_notices (before after : Evidence) (t : Task) (h : t ∈ evidenceTasks before after) :
    t.notices = true := by
  have hflag : ∀ (k : NoticeKind) (c r : Bool), t ∈ flagTask k c r → t.notices = true := by
    intro k c r hm
    cases c <;> cases r <;> simp [flagTask] at hm <;> rw [hm] <;> rfl
  simp only [evidenceTasks, List.mem_append] at h
  rcases h with (h | h) | h
  · exact hflag _ _ _ h
  · exact hflag _ _ _ h
  · exact hflag _ _ _ h

/-! ## The judgement leaves the other items -/

/-- Every item but PRE_ALARM and LINK_STRAINED stands as it stood. -/
def Node.KeepsItems (n t : Node) : Prop :=
  ∀ x : NoticeItem, x.kind ≠ .preAlarm → x.kind ≠ .linkStrained → (x ∈ t.alarm.notices ↔ x ∈ n.alarm.notices)

theorem Node.KeepsItems.refl (n : Node) : n.KeepsItems n := fun _ _ _ => Iff.rfl

theorem Node.KeepsItems.trans {a b c : Node} (h : a.KeepsItems b) (h' : b.KeepsItems c) : a.KeepsItems c :=
  fun x hp hl => (h' x hp hl).trans (h x hp hl)

theorem Node.KeepsItems.of_same {n t : Node} (h : t.alarm.notices = n.alarm.notices) : n.KeepsItems t :=
  fun _ _ _ => by rw [h]

theorem Node.deliver_keepsItems (n : Node) (ts : List Task)
    (h : ∀ t ∈ ts, t = .raise .preAlarm none ∨ t = .clear .preAlarm none ∨ (∃ f a, t = .offer f a) ∨
      ∃ k s, t = .event k s) : n.KeepsItems (n.deliver ts) := by
  intro x hp hl
  refine n.deliver_mem_iff hl ts (fun t ht => ?_)
  have hne : NoticeItem.mk .preAlarm none ≠ x := fun he => hp (he ▸ rfl)
  rcases h t ht with rfl | rfl | ⟨f, a, rfl⟩ | ⟨k, s, rfl⟩
  · simpa [Task.concerns] using hne
  · simpa [Task.concerns] using hne
  · rfl
  · rfl

theorem Node.originate_keepsItems (n : Node) (test : Bool) (b : Body) : n.KeepsItems (n.originate test b) :=
  Node.KeepsItems.trans (b := n.nextSeq) (.of_same rfl)
    (Node.deliver_keepsItems _ _ (by simp))

theorem Node.record_keepsItems (n : Node) (r : EventRecord) : n.KeepsItems (n.record r) := .of_same (by simp)

theorem Node.sendEvidence_keepsItems (n : Node) : n.KeepsItems n.sendEvidence := n.deliver_keepsItems _ (by simp)

theorem Node.testConfirm_keepsItems (n : Node) (lv : Nat) : n.KeepsItems (n.testConfirm lv) := by
  unfold Node.testConfirm
  refine .trans ?_ (Node.record_keepsItems _ _)
  refine .trans ?_ (Node.deliver_keepsItems _ _ (by simp))
  exact (n.originate_keepsItems true _).trans (.of_same rfl)

theorem Node.enterAlarm_keepsItems (n : Node) (lv : Nat) : n.KeepsItems (n.enterAlarm lv) := by
  unfold Node.enterAlarm
  refine .trans ?_ (Node.record_keepsItems _ _)
  refine .trans ?_ (Node.originate_keepsItems _ _ _)
  intro x hp _
  have hne : x ≠ NoticeItem.mk .preAlarm none := fun he => hp (he ▸ rfl)
  rw [Node.dropNotice_notices]
  simp [hne]

theorem Node.confirm_keepsItems (n : Node) (lv : Nat) : n.KeepsItems (n.confirm lv) := by
  unfold Node.confirm
  split
  · exact n.testConfirm_keepsItems lv
  · exact n.enterAlarm_keepsItems lv

theorem Node.decideConfirmation_keepsItems (n : Node) (lv : Nat) : n.KeepsItems (n.decideConfirmation lv) := by
  unfold Node.decideConfirmation
  split
  · exact n.confirm_keepsItems lv
  · exact .of_same rfl

theorem Node.judge_keepsItems (n : Node) (lv : Nat) : n.KeepsItems (n.judge lv) := by
  have hraise : n.KeepsItems (Node.deliver { n with
      alarm := { n.alarm with state := .confirming, confirmCount := 1 } } [.raise .preAlarm none]) :=
    .trans (b := { n with alarm := { n.alarm with state := .confirming, confirmCount := 1 } }) (.of_same rfl)
      (Node.deliver_keepsItems _ _ (by simp))
  unfold Node.judge
  split
  · split
    · exact .of_same rfl
    · exact .refl n
  · unfold Node.judgeWatch
    simp only []
    split
    · split
      · exact hraise.trans (Node.decideConfirmation_keepsItems _ lv)
      · exact hraise
    · split
      · exact .of_same rfl
      · split <;> exact .of_same rfl
  · unfold Node.judgeConfirming
    simp only []
    split
    · split
      · exact .trans (b := { n with alarm := { n.alarm with
            confirmCount := min n.cfg.confirm (n.alarm.confirmCount + 1) } }) (.of_same rfl)
          (Node.decideConfirmation_keepsItems _ lv)
      · exact .of_same rfl
    · exact .trans (b := { n with alarm := n.alarm.toWatch }) (.of_same rfl) (Node.deliver_keepsItems _ _ (by simp))
  · exact .refl n

theorem Node.takeResult_keepsItems (n : Node) (e : EvidenceResult) : n.KeepsItems (n.takeResult e) := by
  unfold Node.takeResult
  split
  · exact .refl n
  · split
    · split
      · exact .refl n
      · exact n.sendEvidence_keepsItems
    · simp only []
      split
      · exact n.judge_keepsItems _
      · exact (n.judge_keepsItems _).trans (Node.sendEvidence_keepsItems _)

/-- The sensor notices after a publication are those its record told (R29, R39, R40). -/
theorem Node.publish_turns {n : Node} {r : SampleRecord} (h : n.evidence.inHand = some r) (hact : n.active = true)
    {k : NoticeKind} (hk : k ≠ .preAlarm) (hl : k ≠ .linkStrained) {b a : Bool}
    (hm : (Task.raise k none ∈ evidenceTasks n.evidence (evidenceAfter n.cfg (n.alarm.state == .quiet) n.evidence r) ↔
        b ≠ a ∧ a = true) ∧
      (Task.clear k none ∈ evidenceTasks n.evidence (evidenceAfter n.cfg (n.alarm.state == .quiet) n.evidence r) ↔
        b ≠ a ∧ a = false)) :
    NoticeItem.mk k none ∈ n.publish.alarm.notices ↔
      if b = a then NoticeItem.mk k none ∈ n.alarm.notices else a = true := by
  rw [n.publish_eq r h, Node.takeRecord_alarm, (Node.takeResult_keepsItems _ _) _ hk hl]
  refine told_of_turns (Node.deliver_turns (n := { n with
    evidence := { evidenceAfter n.cfg (n.alarm.state == .quiet) n.evidence r with inHand := none } }) hl hact hm.1 hm.2 ?_)
  exact fun hc => by rw [hc.1.2] at hc; exact absurd hc.2.2 (by decide)

/-- A settling result is not judged (R38, R65). -/
theorem Node.publish_settling {n : Node} {r : SampleRecord} (h : n.evidence.inHand = some r)
    (hs : 0 < n.evidence.settling) : n.publish.alarm.state = n.alarm.state := by
  rw [n.publish_eq r h, Node.takeRecord_alarm, Node.takeResult, if_pos (by simp [evidenceResult, hs]), Node.published]
  simp

/-! ## The heat ring and the rate -/

theorem temperature_eq {h : Nat} (hh : h ≤ 1023) : ∃ t0 t1 : Int, thermistorTable[h / 64]? = some t0 ∧
    thermistorTable[h / 64 + 1]? = some t1 ∧
    temperature h = t0 + ((t1 - t0) * ((h % 64 : Nat) : Int)).tdiv 64 := by
  have hk : h / 64 + 1 < thermistorTable.length := by
    show h / 64 + 1 < 17
    omega
  refine ⟨thermistorTable[h / 64], thermistorTable[h / 64 + 1], List.getElem?_eq_getElem (by omega),
    List.getElem?_eq_getElem hk, ?_⟩
  have hrest : (h : Int) - 64 * ((h / 64 : Nat) : Int) = ((h % 64 : Nat) : Int) := by omega
  simp only [temperature, List.getD_eq_getElem?_getD, List.getElem?_eq_getElem hk,
    List.getElem?_eq_getElem (show h / 64 < thermistorTable.length by omega), Option.getD_some, hrest]

/-- The entries a new one joins: none after a gap of more than 300 s, and of 8 not the oldest (R34). -/
def keptEntries (ring : List RingEntry) (stamp : Stamp) : List RingEntry :=
  let kept :=
    match ring.getLast? with
    | none => []
    | some last => if 307200 < elapsed stamp last.stamp then [] else ring
  if 8 ≤ kept.length then kept.drop 1 else kept

theorem ringWith_eq (ring : List RingEntry) (e : RingEntry) : ringWith ring e = keptEntries ring e.stamp ++ [e] := rfl

theorem keptEntries_append (before : List RingEntry) (last : RingEntry) (stamp : Stamp) :
    (307200 < elapsed stamp last.stamp → keptEntries (before ++ [last]) stamp = []) ∧
    (elapsed stamp last.stamp ≤ 307200 → keptEntries (before ++ [last]) stamp =
      if 8 ≤ (before ++ [last]).length then (before ++ [last]).drop 1 else before ++ [last]) := by
  refine ⟨fun h => ?_, fun h => ?_⟩
  · simp [keptEntries, h]
  · simp [keptEntries, Nat.not_lt.mpr h]

theorem rateOfRise_two (oldest e : RingEntry) (rest : List RingEntry) (h : elapsed e.stamp oldest.stamp ≠ 0) :
    rateOfRise (oldest :: rest ++ [e]) =
      max (-255) (min 255 (((e.temp - oldest.temp) * 61440).tdiv (elapsed e.stamp oldest.stamp))) := by
  cases rest with
  | nil => simp [rateOfRise, h, limitInt]
  | cons x xs =>
    have hlast : (x :: (xs ++ [e])).getLast?.getD oldest = e := by
      rw [← List.cons_append, List.getLast?_concat]; rfl
    simp [rateOfRise, hlast, h, limitInt]

theorem heatIndex_rate (floor : Nat) (t r : Int) :
    heatIndex floor t r = max (min 255 ((t - floor) * 3).toNat) (min 255 (r * 8).toNat) := by
  have hr : (if 0 < r then r * 8 else 0).toNat = (r * 8).toNat := by split <;> omega
  simp only [heatIndex, limitNat, hr]

theorem heatIndex_static (floor : Nat) (t : Int) : heatIndex floor t 0 = min 255 ((t - floor) * 3).toNat := by
  rw [heatIndex_rate]; omega

end Sys2Proof.Machine

open Sys2Proof.Machine in
/-- Settles O13: the optical lane's fields of the published evidence. -/
theorem opticalLane : Obligations.OpticalLane := by
  unfold Obligations.OpticalLane
  intro s r h
  obtain ⟨hq, hI, hB, hseed, -⟩ := evidenceAfter_optical s.node.cfg (s.node.alarm.state == .quiet) s.node.evidence r
  refine ⟨_, exec_evidencePublication s, fun hv => ?_, fun hv => ?_⟩
  · simp only [Node.published_evidence h, hq, hI, hB, hseed]
    simp [Sys2Proof.Machine.opticalLane, hv]
  · simp only [Node.published_evidence h, hq, hI, hB, hseed]
    simp only [Sys2Proof.Machine.opticalLane, hv, if_true, scatter_eq, excess_eq, stageBaseline, beq_iff_eq]
    exact ⟨rfl, rfl, trivial, rfl⟩

open Sys2Proof.Machine in
/-- Settles O14: Lv and the counts of the published evidence, and the notices its record told. -/
theorem publicationFormsLv : Obligations.PublicationFormsLv := by
  unfold Obligations.PublicationFormsLv
  intro s r h
  obtain ⟨-, hI, -, -, hdirty⟩ := evidenceAfter_optical s.node.cfg (s.node.alarm.state == .quiet) s.node.evidence r
  obtain ⟨hring, hhx⟩ := evidenceAfter_thermal s.node.cfg (s.node.alarm.state == .quiet) s.node.evidence r
  obtain ⟨hlv, hsettling, hoptical, hheat⟩ :=
    evidenceAfter_closing s.node.cfg (s.node.alarm.state == .quiet) s.node.evidence r
  obtain ⟨hor, hol⟩ := Prod.mk.inj hoptical
  obtain ⟨hhr, hhl⟩ := Prod.mk.inj hheat
  obtain ⟨hmo, hmh, hmd⟩ := evidenceTasks_mem s.node.evidence
    (evidenceAfter s.node.cfg (s.node.alarm.state == .quiet) s.node.evidence r)
  refine ⟨_, exec_evidencePublication s, rfl, ?_⟩
  simp only [Node.published_evidence h, Node.settle_sensing, (Node.publish_evidence h).2, Node.settle_alarmState,
    Node.settle_alarmNotices, Node.settle_clock]
  refine ⟨Node.publish_clock _, trivial, trivial, fun hv => ?_, fun ho hh => ?_, fun hh => ?_, hsettling, fun hs => ?_,
    ?_, ?_, fun hs => ?_, fun hs => ?_, fun hact => ⟨?_, ?_, ?_⟩⟩
  · rw [hlv, if_pos (by simpa using hv)]; rfl
  · rw [hlv, if_neg (by simp [ho, hh])]
  · rw [hring, hhx]; simp [Sys2Proof.Machine.thermalLane, hh]
  · exact Node.publish_settling h hs
  · rw [hor, hol]; exact runCount_spec _ _ _
  · rw [hhr, hhl]; exact runCount_spec _ _ _
  · rw [hdirty, opticalLane_dirty, if_pos hs]
  · rw [hI, hdirty, opticalLane_dirty, if_neg (by simp [hs])]; exact dirtyAfter_spec _ _
  · exact Node.publish_turns (k := .opticalSaturated) h hact (by decide) (by decide) hmo
  · exact Node.publish_turns (k := .heatSensor) h hact (by decide) (by decide) hmh
  · exact Node.publish_turns (k := .chamberDirty) h hact (by decide) (by decide) hmd

open Sys2Proof.Machine in
/-- Settles O15: the ring and the heat index of the published evidence. -/
theorem thermalLane : Obligations.ThermalLane := by
  unfold Obligations.ThermalLane
  intro s r h hv hle
  obtain ⟨t0, t1, ht0, ht1, htemp⟩ := temperature_eq hle
  obtain ⟨hring, hhx⟩ := evidenceAfter_thermal s.node.cfg (s.node.alarm.state == .quiet) s.node.evidence r
  refine ⟨_, temperature r.heat, t0, t1, keptEntries s.node.evidence.ring r.stamp, exec_evidencePublication s, ht0, ht1,
    htemp, ?_⟩
  simp only [Node.published_evidence h, hring, hhx]
  simp only [Sys2Proof.Machine.thermalLane, hv, if_true, ringWith_eq]
  refine ⟨trivial, fun hnil => by simp [hnil, keptEntries], fun before last hlast => ?_, fun hnil => ?_,
    fun oldest rest hcons hspan => ?_⟩
  · rw [hlast]; exact keptEntries_append before last r.stamp
  · rw [hnil]; exact heatIndex_static _ _
  · rw [hcons, rateOfRise_two oldest _ rest hspan, heatIndex_rate]
end

section
/-! The judgement of a sample outside QUIET: WATCH, CONFIRMING, the corroboration test and its two outcomes (R67 to R75,
R82). -/

namespace Sys2Proof.Machine

/-! ## The partner count (R69) -/

theorem mem_distinct {xs : List Byte} {a : Byte} : a ∈ distinct xs ↔ a ∈ xs := by
  induction xs with
  | nil => rfl
  | cons x xs ih =>
    unfold distinct
    split
    · next hx =>
      have hx : x ∈ xs := by simpa using hx
      rw [ih, List.mem_cons]
      exact ⟨.inr, fun h => h.elim (fun he => he ▸ hx) id⟩
    · rw [List.mem_cons, List.mem_cons, ih]

theorem nodup_distinct (xs : List Byte) : (distinct xs).Nodup := by
  induction xs with
  | nil => exact List.nodup_nil
  | cons x xs ih =>
    unfold distinct
    split
    · exact ih
    · next hx =>
      have hx : x ∉ xs := by simpa using hx
      exact List.nodup_cons.mpr ⟨fun h => hx (mem_distinct.mp h), ih⟩

theorem distinct_length (xs : List Byte) : (distinct xs).length = Set.ncard {a : Byte | a ∈ xs} := by
  have hset : {a : Byte | a ∈ xs} = ↑(distinct xs).toFinset := by ext a; simp [mem_distinct]
  rw [hset, Set.ncard_coe_finset, List.toFinset_card_of_nodup (nodup_distinct xs)]

/-- A fresh Pv of W or more. -/
theorem corroborates_value (watch : Nat) (now : Stamp) (pv : Option PeerEvidence) :
    ((pv.filter (PeerEvidence.fresh now)).map (fun v => v.value)).any (fun v => decide (watch ≤ v.toNat)) = true ↔
      ∃ v, pv = some v ∧ elapsed now v.stamp ≤ 20480 ∧ watch ≤ v.value.toNat := by
  cases pv with
  | none => simp
  | some v =>
    by_cases hf : elapsed now v.stamp ≤ 20480
    · simp [Option.filter, PeerEvidence.fresh, hf]
    · simp [Option.filter, PeerEvidence.fresh, hf]

/-- The addresses that corroborate: partners by their Pv or their reported ALARM, and the zone's origins (R69). -/
def Node.partners (n : Node) : Set Byte :=
  {a : Byte |
    (∃ p : Peer, some p ∈ n.peers.entries ∧ p.address = a ∧ p.zone = some n.cfg.zone ∧ p.state ≠ .lost ∧
      (p.alarm = some .alarm ∨
        ∃ v, p.pv = some v ∧ elapsed n.clock v.stamp ≤ 20480 ∧ n.cfg.watch ≤ v.value.toNat)) ∨
    (∃ o ∈ n.alarm.origins, o.address = a ∧ o.zone = n.cfg.zone ∧ a ≠ n.cfg.address)}

theorem Node.mem_partnerView (n : Node) (i : PartnerItem) : i ∈ n.partnerView ↔
    ∃ p : Peer, some p ∈ n.peers.entries ∧ p.zone = some n.cfg.zone ∧ p.state ≠ .lost ∧
      i = ⟨p.address, (p.pv.filter (PeerEvidence.fresh n.clock)).map (fun v => v.value), p.alarm⟩ := by
  unfold Node.partnerView
  rw [List.mem_filterMap]
  constructor
  · rintro ⟨e, he, hi⟩
    cases e with
    | none => cases hi
    | some p =>
      obtain ⟨hc, hi⟩ := Option.ite_none_right_eq_some.mp hi
      simp only [Peer.partner, Bool.and_eq_true, beq_iff_eq, bne_iff_ne] at hc
      exact ⟨p, he, hc.1, hc.2, (Option.some.inj hi).symm⟩
  · rintro ⟨p, he, hz, hl, rfl⟩
    exact ⟨some p, he, by simp [Peer.partner, hz, hl]⟩

theorem Node.partnerCount_eq (n : Node) : n.partnerCount = Set.ncard n.partners := by
  unfold Node.partnerCount
  simp only []
  rw [distinct_length]
  congr 1
  ext a
  simp only [Set.mem_setOf_eq, List.mem_append, List.mem_map, List.mem_filter, Node.partners, Node.mem_partnerView]
  refine or_congr ⟨?_, ?_⟩ ⟨?_, ?_⟩
  · rintro ⟨i, ⟨⟨p, hp, hz, hl, rfl⟩, hc⟩, rfl⟩
    simp only [PartnerItem.corroborates, Bool.or_eq_true, corroborates_value, beq_iff_eq] at hc
    exact ⟨p, hp, rfl, hz, hl, hc.symm⟩
  · rintro ⟨p, hp, rfl, hz, hl, hc⟩
    refine ⟨_, ⟨⟨p, hp, hz, hl, rfl⟩, ?_⟩, rfl⟩
    simp only [PartnerItem.corroborates, Bool.or_eq_true, corroborates_value, beq_iff_eq]
    exact hc.symm
  · rintro ⟨o, ⟨ho, hc⟩, rfl⟩
    simp only [Bool.and_eq_true, beq_iff_eq, bne_iff_ne] at hc
    exact ⟨o, ho, rfl, hc.1, hc.2⟩
  · rintro ⟨o, ho, rfl, hz, ha⟩
    exact ⟨o, ⟨ho, by simp [hz, ha]⟩, rfl⟩

/-- The corroboration test (R69). -/
def Node.Corroborated (n : Node) : Prop :=
  match n.cfg.mode with
  | .none => True
  | .partner => n.cfg.partners ≤ Set.ncard n.partners
  | .heat => n.cfg.heatCorr ≤ n.evidence.hx
  | .either => n.cfg.partners ≤ Set.ncard n.partners ∨ n.cfg.heatCorr ≤ n.evidence.hx
  | .both => n.cfg.partners ≤ Set.ncard n.partners ∧ n.cfg.heatCorr ≤ n.evidence.hx

theorem Node.corroborated_iff (n : Node) : n.corroborated = true ↔ n.Corroborated := by
  unfold Node.corroborated Node.Corroborated Node.heatFinding
  rw [← n.partnerCount_eq]
  cases n.cfg.mode with
  | none => simp
  | partner => simp
  | heat => simp
  | either => simp
  | both => simp

/-! ## What the parts of a judgement leave -/

section
variable (n : Node) (lv : Nat) (test : Bool) (b : Body)

@[simp] theorem Node.originate_alarmState : (n.originate test b).alarm.state = n.alarm.state := by simp [Node.originate]
@[simp] theorem Node.originate_alarmOrigins : (n.originate test b).alarm.origins = n.alarm.origins := by
  simp [Node.originate]
@[simp] theorem Node.originate_alarmLimit : (n.originate test b).alarm.limit = n.alarm.limit := by
  simp [Node.originate]
@[simp] theorem Node.originate_alarmSilenced : (n.originate test b).alarm.silenced = n.alarm.silenced := by
  simp [Node.originate]
@[simp] theorem Node.originate_alarmWalkTest : (n.originate test b).alarm.walkTest = n.alarm.walkTest := by
  simp [Node.originate]
@[simp] theorem Node.originate_active : (n.originate test b).active = n.active := by
  simp [Node.originate, Node.active]
@[simp] theorem Node.originate_power : (n.originate test b).power = n.power := by simp [Node.originate]

@[simp] theorem Node.sendEvidence_alarmState : n.sendEvidence.alarm.state = n.alarm.state := by
  simp [Node.sendEvidence]
@[simp] theorem Node.sendEvidence_alarmConfirmCount : n.sendEvidence.alarm.confirmCount = n.alarm.confirmCount := by
  simp [Node.sendEvidence]
@[simp] theorem Node.sendEvidence_alarmHysteresis : n.sendEvidence.alarm.hysteresis = n.alarm.hysteresis := by
  simp [Node.sendEvidence]
@[simp] theorem Node.sendEvidence_alarmLimit : n.sendEvidence.alarm.limit = n.alarm.limit := by simp [Node.sendEvidence]
@[simp] theorem Node.sendEvidence_alarmOrigins : n.sendEvidence.alarm.origins = n.alarm.origins := by
  simp [Node.sendEvidence]
@[simp] theorem Node.sendEvidence_alarmSilenced : n.sendEvidence.alarm.silenced = n.alarm.silenced := by
  simp [Node.sendEvidence]
@[simp] theorem Node.sendEvidence_alarmWalkTest : n.sendEvidence.alarm.walkTest = n.alarm.walkTest := by
  simp [Node.sendEvidence]
@[simp] theorem Node.sendEvidence_alarmTestSound : n.sendEvidence.alarm.testSound = n.alarm.testSound := by
  simp [Node.sendEvidence]

theorem Node.sendEvidence_mem {x : NoticeItem} (hx : x.kind ≠ .linkStrained) :
    x ∈ n.sendEvidence.alarm.notices ↔ x ∈ n.alarm.notices :=
  n.deliver_mem_iff hx _ (by intro t ht; rw [List.mem_singleton.mp ht]; rfl)

/-- A test confirmation rests the unit and leaves the rest of the alarm side (R82). -/
theorem Node.testConfirm_alarm :
    (n.testConfirm lv).alarm.state = .quiet ∧ (n.testConfirm lv).alarm.confirmCount = 0 ∧
    (n.testConfirm lv).alarm.hysteresis = 0 ∧ (n.testConfirm lv).alarm.limit = none ∧
    (n.testConfirm lv).alarm.testSound = some (later n.clock 10240) ∧
    (n.testConfirm lv).alarm.origins = n.alarm.origins ∧ (n.testConfirm lv).alarm.silenced = n.alarm.silenced ∧
    (n.testConfirm lv).alarm.walkTest = n.alarm.walkTest := by
  simp [Node.testConfirm]

theorem Node.testConfirm_preAlarm (hact : n.active = true) :
    NoticeItem.mk .preAlarm none ∉ (n.testConfirm lv).alarm.notices := by
  simp only [Node.testConfirm, Node.record_alarm]
  exact Node.deliver_cleared (by decide) _ _ (by simpa [Node.active] using hact) (by simp) (.inr (by simp))

/-- Entry to ALARM (R72). -/
theorem Node.enterAlarm_alarm :
    (n.enterAlarm lv).alarm.state = .alarm ∧ (n.enterAlarm lv).alarm.limit = none ∧
    (n.enterAlarm lv).alarm.silenced = false ∧
    (n.enterAlarm lv).alarm.origins =
      (n.alarm.addOwnOrigin ⟨n.cfg.address, n.cfg.zone, n.causeNow, n.clock⟩).origins := by
  have hdrop : ∀ m : Node, (m.dropNotice .preAlarm none).alarm.state = m.alarm.state ∧
      (m.dropNotice .preAlarm none).alarm.limit = m.alarm.limit ∧
      (m.dropNotice .preAlarm none).alarm.silenced = m.alarm.silenced ∧
      (m.dropNotice .preAlarm none).alarm.origins = m.alarm.origins := by
    intro m
    unfold Node.dropNotice
    split
    · simp
    · exact ⟨rfl, rfl, rfl, rfl⟩
  simp [Node.enterAlarm, hdrop]

end

/-- The own origin is the newest, and no other entry is the node's (R72, R75). -/
theorem AlarmUnit.addOwnOrigin_origins (a : AlarmUnit) (o : OriginEntry) :
    ∃ others, (a.addOwnOrigin o).origins = others ++ [o] ∧ ∀ x ∈ others, x.address ≠ o.address := by
  refine ⟨_, rfl, fun x hx => ?_⟩
  have hmem : x ∈ a.origins.filter (fun y => y.address != o.address) := by
    split at hx
    · exact List.mem_of_mem_drop hx
    · exact hx
  simpa using (List.mem_filter.mp hmem).2

/-! ## The EVIDENCE frame (R74) -/

/-- An own one-hop frame takes the newest place; relayable entries keep theirs (R107, R108). -/
theorem Node.deliver_oneHop_appends (n : Node) (f : Frame) (hact : n.active = true) (hf : f.cls.relayable = false)
    (hl : n.tx.queue.length < 8) (hall : ∀ e ∈ n.tx.queue, e.frame.cls.relayable = true) :
    ∃ v, (n.deliver [.offer f none]).tx.queue =
      n.tx.queue ++ [⟨f.withSeq v, true, .waiting, n.clock, none⟩] := by
  have hnone : lastIndexOf (fun e => e.frame.cls == f.cls && e.state == .waiting) n.tx.queue = none := by
    refine (lastIndexOf_eq_none _ _).mpr (fun e he => ?_)
    have hne : e.frame.cls ≠ f.cls := fun h => by have := hall e he; rw [h, hf] at this; cases this
    simp [hne]
  have hseat := n.tx.seat_room n.clock f true n.clock none hl
  have hoffer : n.tx.offer n.clock f true n.clock none = (n.tx.accept n.clock f true n.clock none, .accepted, none) := by
    unfold Transmitter.offer
    rw [if_neg (by simp [hf]), hnone]
    exact hseat
  refine ⟨n.tx.oneHopValue, ?_⟩
  have hrun : Task.run n (.offer f none) = ({ n with tx := n.tx.accept n.clock f true n.clock none }, []) := by
    simp [Task.run, Node.offer, hact, hoffer, Node.afterOffer_none, hf]
  simp [Node.deliver, Machine.deliver, hrun, Transmitter.accept_queue_oneHop _ _ _ _ _ _ hf, newEntry_now]

theorem Node.sendEvidence_queue {n : Node} (hact : n.active = true) (hl : n.tx.queue.length < 8) :
    ∃ before e, n.sendEvidence.tx.queue = before ++ [e] ∧
      e.frame.body = .evidence (byte n.evidence.lv) n.alarm.state ∧
      ((∀ x ∈ n.tx.queue, x.frame.cls.relayable = true) → before = n.tx.queue) := by
  have hcls : (n.oneHopFrame (.evidence (byte n.evidence.lv) n.alarm.state)).cls.relayable = false := rfl
  by_cases hall : ∀ x ∈ n.tx.queue, x.frame.cls.relayable = true
  · obtain ⟨v, hq⟩ := n.deliver_oneHop_appends _ hact hcls hl hall
    exact ⟨_, _, hq, rfl, fun _ => rfl⟩
  · obtain ⟨u, before, v, hu, -, hq⟩ := n.deliver_oneHop _ hact hcls hl
    exact ⟨before, _, by rw [Node.sendEvidence, hu]; exact hq, rfl, fun h => absurd h hall⟩

/-! ## The judgement's cases -/

section
variable {n : Node} {lv : Nat}

theorem Node.judge_watch (h : n.alarm.state = .watch) : n.judge lv = n.judgeWatch lv := by
  unfold Node.judge; rw [h]

theorem Node.judge_confirming (h : n.alarm.state = .confirming) : n.judge lv = n.judgeConfirming lv := by
  unfold Node.judge; rw [h]

theorem Node.judge_alarm (h : n.alarm.state = .alarm) : n.judge lv = n := by
  unfold Node.judge; rw [h]

/-- A WATCH unit that reaches A, before the decision (R67). -/
def Node.suspecting (n : Node) : Node :=
  Node.deliver { n with alarm := { n.alarm with state := .confirming, confirmCount := 1 } } [.raise .preAlarm none]

theorem Node.judgeWatch_high (h : n.cfg.alarm ≤ lv) :
    n.judgeWatch lv = if n.cfg.confirm ≤ 1 then n.suspecting.decideConfirmation lv else n.suspecting := by
  unfold Node.judgeWatch
  rw [if_pos h]
  rfl

theorem Node.judgeWatch_low (h : lv < n.cfg.alarm) :
    n.judgeWatch lv =
      if n.cfg.watch - 8 ≤ lv then { n with alarm := { n.alarm with hysteresis := 4 } }
      else if n.alarm.hysteresis ≤ 1 then { n with alarm := { n.alarm with state := .quiet, hysteresis := 0 } }
      else { n with alarm := { n.alarm with hysteresis := n.alarm.hysteresis - 1 } } := by
  unfold Node.judgeWatch
  rw [if_neg (Nat.not_le.mpr h)]

/-- A CONFIRMING unit that counts one more (R68). -/
def Node.counting (n : Node) : Node :=
  { n with alarm := { n.alarm with confirmCount := min n.cfg.confirm (n.alarm.confirmCount + 1) } }

theorem Node.judgeConfirming_high (h : n.cfg.alarm ≤ lv) :
    n.judgeConfirming lv =
      if n.cfg.confirm ≤ n.alarm.confirmCount + 1 then n.counting.decideConfirmation lv else n.counting := by
  unfold Node.judgeConfirming
  rw [if_pos h]
  by_cases hc : n.cfg.confirm ≤ n.alarm.confirmCount + 1
  · simp [Node.counting, hc]
  · have hmin : min n.cfg.confirm (n.alarm.confirmCount + 1) ≠ n.cfg.confirm := by omega
    simp [Node.counting, hc, hmin]

theorem Node.judgeConfirming_low (h : lv < n.cfg.alarm) :
    n.judgeConfirming lv = Node.deliver { n with alarm := n.alarm.toWatch } [.clear .preAlarm none] := by
  unfold Node.judgeConfirming
  rw [if_neg (Nat.not_le.mpr h)]

end

/-! ## Room in the queue -/

theorem Node.originate_queue_length {n : Node} (test : Bool) (b : Body) (hl : n.tx.queue.length < 8) :
    (n.originate test b).tx.queue.length ≤ n.tx.queue.length + 1 :=
  n.nextSeq.deliver_queue_length [.offer (n.relayableFrame test b) (some 1)] hl

theorem Node.confirm_queue_length {n : Node} (lv : Nat) (hl : n.tx.queue.length ≤ 5) :
    (n.confirm lv).tx.queue.length ≤ n.tx.queue.length + 2 := by
  unfold Node.confirm
  split
  · have ho := Node.originate_queue_length true (n.alarmBody lv) (show n.tx.queue.length < 8 by omega)
    simp only [Node.testConfirm, Node.record_tx]
    refine Nat.le_trans (Node.deliver_queue_length _ _ ?_) ?_
    · simp only [List.length_singleton]; omega
    · simp only [List.length_singleton]; omega
  · simp only [Node.enterAlarm, Node.record_tx]
    refine Nat.le_trans (Node.originate_queue_length _ _ ?_) ?_
    · simp only [Node.dropNotice_tx]; omega
    · simp only [Node.dropNotice_tx]; omega

theorem Node.decideConfirmation_queue_length {n : Node} (lv : Nat) (hl : n.tx.queue.length ≤ 5) :
    (n.decideConfirmation lv).tx.queue.length ≤ n.tx.queue.length + 2 := by
  unfold Node.decideConfirmation
  split
  · exact Node.confirm_queue_length lv hl
  · exact Nat.le_add_right _ 2

theorem Node.suspecting_queue_length {n : Node} (hl : n.tx.queue.length ≤ 5) :
    n.suspecting.tx.queue.length ≤ n.tx.queue.length + 1 :=
  Node.deliver_queue_length [.raise .preAlarm none] _ (by simp only [List.length_singleton]; omega)

/-- A judgement takes at most three places. -/
theorem Node.judge_queue_length {n : Node} (lv : Nat) (hl : n.tx.queue.length ≤ 4) :
    (n.judge lv).tx.queue.length ≤ n.tx.queue.length + 3 := by
  cases hs : n.alarm.state with
  | quiet => unfold Node.judge; rw [hs]; simp only []; split <;> exact Nat.le_add_right _ 3
  | alarm => rw [Node.judge_alarm hs]; omega
  | watch =>
    rw [Node.judge_watch hs]
    by_cases hlv : n.cfg.alarm ≤ lv
    · rw [Node.judgeWatch_high hlv]
      have hone := Node.suspecting_queue_length (show n.tx.queue.length ≤ 5 by omega)
      split
      · have htwo := Node.decideConfirmation_queue_length lv (show n.suspecting.tx.queue.length ≤ 5 by omega)
        omega
      · omega
    · rw [Node.judgeWatch_low (by omega)]
      split
      · exact Nat.le_add_right _ 3
      · split <;> exact Nat.le_add_right _ 3
  | confirming =>
    rw [Node.judge_confirming hs]
    by_cases hlv : n.cfg.alarm ≤ lv
    · rw [Node.judgeConfirming_high hlv]
      split
      · have htwo := Node.decideConfirmation_queue_length (n := n.counting) lv
          (show n.tx.queue.length ≤ 5 by omega)
        exact Nat.le_trans htwo (by show n.tx.queue.length + 2 ≤ _; omega)
      · exact Nat.le_add_right _ 3
    · rw [Node.judgeConfirming_low (by omega)]
      have hone := Node.deliver_queue_length [.clear .preAlarm none] { n with alarm := n.alarm.toWatch }
        (by simp only [List.length_singleton]; omega)
      simp only [List.length_singleton] at hone
      omega

end Sys2Proof.Machine
end

section
/-! Publications outside QUIET: what a judged sample leaves of the alarm side and the queue (R67, R68, R71, R72, R74,
R82). -/

namespace Sys2Proof.Machine

/-! ## The sample -/

/-- The record in hand is valid and past settling, and the unit is not QUIET. -/
structure Node.Sample (n : Node) (r : SampleRecord) : Prop where
  inHand : n.evidence.inHand = some r
  settled : n.evidence.settling = 0
  valid : r.opticalValid = true ∨ r.heatValid = true
  notQuiet : n.alarm.state ≠ .quiet

/-- The evidence after a record (R22, R23). -/
def Node.sampled (n : Node) (r : SampleRecord) : Evidence :=
  evidenceAfter n.cfg (n.alarm.state == .quiet) n.evidence r

section
variable (n : Node) (r : SampleRecord)

@[simp] theorem Node.published_clock : (n.published r).clock = n.clock := by simp [Node.published]
@[simp] theorem Node.published_loader : (n.published r).loader = n.loader := by simp [Node.published]
@[simp] theorem Node.published_peers : (n.published r).peers = n.peers := by simp [Node.published]
@[simp] theorem Node.published_power : (n.published r).power = n.power := by simp [Node.published]
@[simp] theorem Node.published_alarmState : (n.published r).alarm.state = n.alarm.state := by simp [Node.published]
@[simp] theorem Node.published_alarmConfirmCount : (n.published r).alarm.confirmCount = n.alarm.confirmCount := by
  simp [Node.published]
@[simp] theorem Node.published_alarmHysteresis : (n.published r).alarm.hysteresis = n.alarm.hysteresis := by
  simp [Node.published]
@[simp] theorem Node.published_alarmLimit : (n.published r).alarm.limit = n.alarm.limit := by simp [Node.published]
@[simp] theorem Node.published_alarmOrigins : (n.published r).alarm.origins = n.alarm.origins := by
  simp [Node.published]
@[simp] theorem Node.published_alarmSilenced : (n.published r).alarm.silenced = n.alarm.silenced := by
  simp [Node.published]
@[simp] theorem Node.published_alarmWalkTest : (n.published r).alarm.walkTest = n.alarm.walkTest := by
  simp [Node.published]
@[simp] theorem Node.published_active : (n.published r).active = n.active := by simp [Node.active]
@[simp] theorem Node.published_cfg : (n.published r).cfg = n.cfg := by simp [Node.cfg]

theorem Node.published_sampled : (n.published r).evidence = { n.sampled r with inHand := none } := by
  simp [Node.published, Node.sampled]

theorem Node.published_preAlarm : NoticeItem.mk .preAlarm none ∈ (n.published r).alarm.notices ↔
    NoticeItem.mk .preAlarm none ∈ n.alarm.notices :=
  Node.deliver_unasked (by decide) _ _ (by simp [evidenceTasks, flagTask_mem]) (by simp [evidenceTasks, flagTask_mem])

/-- From an empty queue the sensor notices are at most three entries. -/
theorem Node.published_notifies (hact : n.active = true) (hq : n.tx.queue = []) : n.Notifies 3 (n.published r) := by
  have h0 : Node.Lined { n with evidence := { n.sampled r with inHand := none } } := Node.lined_of_empty hact hq
  have hlen := evidenceTasks_length n.evidence (n.sampled r)
  have h := h0.deliver_all (ts := evidenceTasks n.evidence (n.sampled r)) (by simp only [hq, List.length_nil]; omega)
    (evidenceTasks_notices _ _)
  obtain ⟨hl, hlink, hs, hw, hadded⟩ := h.mono hlen
  exact ⟨hl, hlink, hs, hw, hadded⟩

end

/-- The publication of a judged sample outside QUIET (R65, R74). -/
theorem Node.Sample.publish_eq {n : Node} {r : SampleRecord} (h : n.Sample r) :
    n.publish = ((n.published r).judge (n.sampled r).lv).sendEvidence.takeRecord := by
  have hres : evidenceResult n.evidence (n.sampled r) r = ⟨(n.sampled r).lv, true, false⟩ := by
    simp [evidenceResult, h.settled, h.valid]
  rw [n.publish_eq r h.inHand]
  show ((n.published r).takeResult (evidenceResult n.evidence (n.sampled r) r)).takeRecord = _
  rw [hres]
  simp [Node.takeResult, h.notQuiet]

theorem Node.Sample.publish_lv {n : Node} {r : SampleRecord} (h : n.Sample r) :
    n.publish.evidence.lv = (n.sampled r).lv := by
  rw [(Node.publish_evidence h.inHand).1]; rfl

theorem Node.Sample.publish_preAlarm {n : Node} {r : SampleRecord} (h : n.Sample r) :
    NoticeItem.mk .preAlarm none ∈ n.publish.alarm.notices ↔
      NoticeItem.mk .preAlarm none ∈ ((n.published r).judge (n.sampled r).lv).alarm.notices := by
  rw [h.publish_eq, Node.takeRecord_alarm, Node.sendEvidence_mem _ (by decide)]

/-- The newest entry is the sample's EVIDENCE frame (R74). -/
theorem Node.Sample.publish_sends {n : Node} {r : SampleRecord} (h : n.Sample r) (hact : n.active = true)
    (hq : n.tx.queue = []) : ∃ before e, n.publish.tx.queue = before ++ [e] ∧
      e.frame.body = .evidence (byte (n.sampled r).lv) n.publish.alarm.state ∧
      ((∀ x ∈ ((n.published r).judge (n.sampled r).lv).tx.queue, x.frame.cls.relayable = true) →
        before = ((n.published r).judge (n.sampled r).lv).tx.queue) := by
  have hthree := (n.published_notifies r hact hq).length_le
  rw [hq] at hthree
  simp only [List.length_nil] at hthree
  have hjudge := Node.judge_queue_length (n.sampled r).lv (show (n.published r).tx.queue.length ≤ 4 by omega)
  have hacts := (n.published r).judge_acts (n.sampled r).lv
  have hact' : ((n.published r).judge (n.sampled r).lv).active = true := by
    simpa [Node.active, hacts.power] using hact
  obtain ⟨before, e, hqueue, hbody, happends⟩ := Node.sendEvidence_queue hact' (by omega)
  rw [h.publish_eq, Node.takeRecord_tx, Node.takeRecord_alarm, Node.sendEvidence_alarmState]
  rw [hacts.evidence, n.published_sampled r] at hbody
  exact ⟨before, e, hqueue, hbody, happends⟩

/-! ## The N-th sample -/

/-- `k` is the node at the decision: CONFIRMING with the count at N (R68). -/
structure Node.AtCount (n : Node) (r : SampleRecord) (k : Node) : Prop where
  judged : (n.published r).judge (n.sampled r).lv = k.decideConfirmation (n.sampled r).lv
  state : k.alarm.state = .confirming
  count : k.alarm.confirmCount = n.cfg.confirm
  clock : k.clock = n.clock
  loader : k.loader = n.loader
  peers : k.peers = n.peers
  power : k.power = n.power
  evidence : k.evidence = { n.sampled r with inHand := none }
  origins : k.alarm.origins = n.alarm.origins
  limit : k.alarm.limit = n.alarm.limit
  walkTest : k.alarm.walkTest = n.alarm.walkTest
  silenced : k.alarm.silenced = n.alarm.silenced
  queue : n.active = true → n.tx.queue = [] →
    k.Lined ∧ k.tx.queue.length ≤ 4 ∧ ∀ x ∈ k.tx.queue, x.frame.cls = .notice

theorem Node.AtCount.cfg {n : Node} {r : SampleRecord} {k : Node} (h : n.AtCount r k) : k.cfg = n.cfg :=
  congrArg (fun l : Loader => l.image.getD .absent) h.loader

theorem Node.Notifies.from_empty {n t : Node} {k : Nat} (h : n.Notifies k t) (hq : n.tx.queue = []) :
    t.Lined ∧ t.tx.queue.length ≤ k ∧ ∀ x ∈ t.tx.queue, x.frame.cls = .notice := by
  obtain ⟨hl, -, -, -, es, he, hlen, hall⟩ := h
  rw [hq, List.nil_append] at he
  exact ⟨hl, by rw [he]; exact hlen, by rw [he]; exact hall⟩

theorem Node.Sample.atCount {n : Node} {r : SampleRecord}
    (hcount : (n.alarm.state = .confirming ∧ n.cfg.confirm ≤ n.alarm.confirmCount + 1) ∨
      (n.alarm.state = .watch ∧ n.cfg.confirm = 1)) (hlv : n.cfg.alarm ≤ (n.sampled r).lv) :
    ∃ k, n.AtCount r k := by
  have hlv' : (n.published r).cfg.alarm ≤ (n.sampled r).lv := by simpa using hlv
  rcases hcount with ⟨hs, hc⟩ | ⟨hs, hc⟩
  · refine ⟨(n.published r).counting, ⟨?_, by simp [Node.counting, hs], ?_, by simp [Node.counting],
      by simp [Node.counting], by simp [Node.counting], by simp [Node.counting], n.published_sampled r,
      by simp [Node.counting], by simp [Node.counting], by simp [Node.counting], by simp [Node.counting],
      fun hact hq => ?_⟩⟩
    · rw [Node.judge_confirming (by simp [hs]), Node.judgeConfirming_high hlv', if_pos (by simpa using hc)]
    · simp [Node.counting, hc]
    · obtain ⟨hl, hlen, hall⟩ := (n.published_notifies r hact hq).from_empty hq
      exact ⟨hl.of_same rfl rfl rfl, Nat.le_succ_of_le hlen, hall⟩
  · refine ⟨(n.published r).suspecting, ⟨?_, by simp [Node.suspecting], by simp [Node.suspecting, hc],
      by simp [Node.suspecting], by simp [Node.suspecting], by simp [Node.suspecting], by simp [Node.suspecting], ?_,
      by simp [Node.suspecting], by simp [Node.suspecting], by simp [Node.suspecting], by simp [Node.suspecting],
      fun hact hq => ?_⟩⟩
    · rw [Node.judge_watch (by simp [hs]), Node.judgeWatch_high hlv', if_pos (by simp [hc])]
    · rw [Node.suspecting, Node.deliver_evidence]; exact n.published_sampled r
    · have hthree := n.published_notifies r hact hq
      have hone := (hthree.lined.of_same (t := { n.published r with alarm := { (n.published r).alarm with
        state := .confirming, confirmCount := 1 } }) rfl rfl rfl).deliver_one (t := .raise .preAlarm none)
        (by have := hthree.length_le; rw [hq] at this; simp only [List.length_nil] at this; simp only []; omega) rfl
      exact (hthree.trans ⟨hone.lined, hone.link, hone.seen, hone.watch, hone.added⟩).from_empty hq

/-! ## The two outcomes -/

/-- It passes: at S or by corroboration (R68). -/
def Node.Passes (n : Node) (lv : Nat) : Prop := n.cfg.solo ≤ lv ∨ n.Corroborated

theorem Node.decideConfirmation_passed {n : Node} {lv : Nat} (h : n.Passes lv) :
    n.decideConfirmation lv = n.confirm lv := by
  unfold Node.decideConfirmation
  rw [if_pos]
  simpa [n.corroborated_iff, Node.Passes] using h

theorem Node.decideConfirmation_failed {n : Node} {lv : Nat} (h : ¬n.Passes lv) :
    n.decideConfirmation lv = { n with alarm := { n.alarm with
      limit := if n.alarm.limit.isSome then n.alarm.limit else some (later n.clock 307200) } } := by
  unfold Node.decideConfirmation
  rw [if_neg]
  simpa [n.corroborated_iff, Node.Passes] using h

theorem Node.dropNotice_cfg (n : Node) (k : NoticeKind) (s : Option Byte) : (n.dropNotice k s).cfg = n.cfg := by
  unfold Node.dropNotice
  split
  · rw [Node.record_eq]; rfl
  · rfl

/-- The own ALARM is the newest entry once ALARM is entered (R72, R107). -/
theorem Node.enterAlarm_queue {n : Node} (lv : Nat) (h : n.Lined) (hl : n.tx.queue.length < 8) :
    ∃ a, (n.enterAlarm lv).tx.queue = n.tx.queue ++ [a] ∧ a.own = true ∧ a.attempt = some 1 ∧ a.state = .waiting ∧
      a.frame.body = n.alarmBody lv ∧ a.frame.hdr.sender = n.cfg.address ∧ a.frame.hdr.origin = n.cfg.address ∧
      a.frame.hdr.hop = BitVec.ofNat 4 n.cfg.hopLimit ∧ a.frame.hdr.test = false := by
  simp only [Node.enterAlarm, Node.record_tx]
  have hlatched : Node.Lined { n with alarm := { n.alarm.addOwnOrigin
      ⟨n.cfg.address, n.cfg.zone, n.causeNow, n.clock⟩ with state := .alarm, limit := none, silenced := false } } :=
    h.of_same rfl rfl rfl
  rw [Node.Lined.originate (hlatched.of_same (Node.dropNotice_active _ _ _) (by rw [Node.dropNotice_tx])
    (by rw [Node.dropNotice_relay])) (by simpa using hl) _ _ rfl, Node.pushOwn_queue _ _ _ rfl, Node.dropNotice_tx]
  refine ⟨_, rfl, rfl, rfl, rfl, rfl, ?_, ?_, ?_, rfl⟩
  · exact congrArg Image.address (Node.dropNotice_cfg _ _ _)
  · exact congrArg Image.address (Node.dropNotice_cfg _ _ _)
  · exact congrArg (fun c : Image => BitVec.ofNat 4 c.hopLimit) (Node.dropNotice_cfg _ _ _)

/-- A test confirmation's ALARM stands in the queue, and all its entries are relayable (R82). -/
theorem Node.testConfirm_queue {n : Node} (lv : Nat) (h : n.Lined) (hl : n.tx.queue.length < 7) :
    ∃ es, (n.testConfirm lv).tx.queue = n.tx.queue ++ [n.ownEntry true (n.alarmBody lv)] ++ es ∧
      ∀ e ∈ es, e.frame.cls = .notice := by
  have hpush := h.originate (by omega) true (n.alarmBody lv) rfl
  simp only [Node.testConfirm, Node.record_tx, hpush]
  have hlined := (h.pushOwn true (n.alarmBody lv) rfl).of_same (t := { n.pushOwn true (n.alarmBody lv) with
    alarm := { (n.pushOwn true (n.alarmBody lv)).alarm with
      state := .quiet, confirmCount := 0, hysteresis := 0, limit := none
      testSound := some (later n.clock 10240) } }) rfl rfl rfl
  have hlen : (n.pushOwn true (n.alarmBody lv)).tx.queue.length < 8 := by
    rw [n.pushOwn_queue _ _ rfl]; simp; omega
  obtain ⟨es, hes, -, hall⟩ := (hlined.deliver_one (t := .clear .preAlarm none) hlen rfl).added
  exact ⟨es, by rw [hes, n.pushOwn_queue _ _ rfl], hall⟩

/-- The unit after a judged sample, and what its settling leaves. -/
theorem exec_publication_alarm (s : State) {r : SampleRecord} (h : s.node.Sample r) :
    ∃ t, exec .evidencePublication s = .next t ∧ t.pending = s.pending ∧
      t.node.evidence = { s.node.sampled r with inHand := s.node.sensing.input } ∧
      t.node.tx.queue = s.node.publish.tx.queue ∧
      t.node.alarm = { s.node.publish.alarm with wantFast := s.node.publish.wantsFast } ∧
      t.node.power.alarmCause = s.node.publish.alarmSideCause :=
  ⟨_, exec_evidencePublication s, rfl, Node.published_evidence h.inHand, Node.settle_txQueue _,
    Node.settle_alarm _, Node.settle_alarmCause _⟩

end Sys2Proof.Machine

open Sys2Proof.Machine in
/-- Settles O17: a judged sample in WATCH and CONFIRMING, case by case of the judgement. -/
theorem judgedSamplesMoveTheUnit : Obligations.JudgedSamplesMoveTheUnit := by
  unfold Obligations.JudgedSamplesMoveTheUnit
  intro s r hhand hsettled hvalid hact cfg a preAlarm
  by_cases hquiet : s.node.alarm.state = .quiet
  · exact ⟨_, exec_evidencePublication s, rfl, by simp [a, hquiet]⟩
  have h : s.node.Sample r := ⟨hhand, hsettled, hvalid, hquiet⟩
  obtain ⟨t, ht, hpending, hevidence, hqueue, halarm, -⟩ := exec_publication_alarm s h
  have hfields := h.publish_eq
  have hpre := h.publish_preAlarm
  refine ⟨t, ht, hpending, ?_⟩
  rw [hevidence, hqueue, halarm]
  simp only []
  refine ⟨fun hs hlv hn => ?_, fun hs hlv => ?_, fun hs hlv => ?_, fun hs hlv hn => ?_, fun hs => ?_,
    fun hcount hwalk hlv hsolo => ?_, fun _ hq => ?_⟩
  · rw [Node.judge_watch (by simpa using hs), Node.judgeWatch_high (by simpa using hlv),
      if_neg (by simp; omega)] at hfields hpre
    rw [hpre, hfields]
    refine ⟨by simp [Node.suspecting], by simp [Node.suspecting], by simp [Node.suspecting, a], ?_⟩
    exact Node.deliver_raised (by decide) _ _ (by simpa [Node.active] using hact) (by simp) (.inr (by simp))
  · rw [Node.judge_watch (by simpa using hs), Node.judgeWatch_low (by simpa using hlv)] at hfields
    refine ⟨fun hw => ?_, fun hw hh => ?_, fun hw hh => ?_⟩
    · rw [if_pos (by simp; omega)] at hfields
      rw [hfields]
      exact ⟨by simpa using hs, by simp⟩
    · rw [if_neg (by simp; omega), if_neg (by simpa [a] using hh)] at hfields
      rw [hfields]
      exact ⟨by simpa using hs, by simp [a]⟩
    · rw [if_neg (by simp; omega), if_pos (by simpa [a] using Nat.le_of_eq hh)] at hfields
      rw [hfields]
      exact ⟨by simp, by simp⟩
  · rw [Node.judge_confirming (by simpa using hs), Node.judgeConfirming_low (by simpa using hlv)] at hfields hpre
    rw [hpre, hfields]
    refine ⟨by simp [AlarmUnit.toWatch], by simp [AlarmUnit.toWatch], by simp [AlarmUnit.toWatch],
      by simp [AlarmUnit.toWatch], ?_⟩
    exact Node.deliver_cleared (by decide) _ _ (by simpa [Node.active] using hact) (by simp) (.inr (by simp))
  · rw [Node.judge_confirming (by simpa using hs), Node.judgeConfirming_high (by simpa using hlv),
      if_neg (by simp; omega)] at hfields hpre
    rw [hpre, hfields]
    exact ⟨by simpa [Node.counting] using hs, by simp only [cfg, a] at hn; simp [Node.counting, a]; omega, by simp [Node.counting, a],
      s.node.published_preAlarm r⟩
  · rw [Node.judge_alarm (by simpa using hs)] at hfields
    rw [hfields]
    exact ⟨by simpa using hs, by simp [a]⟩
  · obtain ⟨k, hk⟩ := Node.Sample.atCount (r := r) hcount hlv
    have hcfg := hk.cfg
    have hpass : k.Passes (s.node.sampled r).lv := .inl (by rw [hcfg]; exact hsolo)
    have hconfirm : k.confirm (s.node.sampled r).lv = k.testConfirm (s.node.sampled r).lv := by
      unfold Node.confirm
      rw [if_pos (by rw [hk.walkTest]; exact hwalk)]
    have hjudge := hk.judged.trans ((Node.decideConfirmation_passed hpass).trans hconfirm)
    have hkact : k.active = true := by simpa [Node.active, hk.power] using hact
    obtain ⟨hstate, hcnt, hhyst, hlimit, hsound, horigins, hsilenced, hwt⟩ := k.testConfirm_alarm (s.node.sampled r).lv
    rw [hjudge] at hpre hfields
    refine ⟨?_, ?_, ?_, ?_, fun hm => k.testConfirm_preAlarm _ hkact (hpre.mp hm), ?_, ?_, ?_, ?_, fun hq => ?_⟩
    · rw [hfields]; simpa using hstate
    · rw [hfields]; simpa using hcnt
    · rw [hfields]; simpa using hhyst
    · rw [hfields]; simpa using hlimit
    · rw [hfields]; simpa [hk.clock] using hsound
    · rw [hfields]; simpa [hk.origins] using horigins
    · rw [hfields]; simpa [hk.silenced] using hsilenced
    · rw [hfields]; simpa [hk.walkTest] using hwt
    · obtain ⟨hlined, hlen, hnotice⟩ := hk.queue hact hq
      obtain ⟨es, hes, hall⟩ := Node.testConfirm_queue (s.node.sampled r).lv hlined (by omega)
      obtain ⟨before, e, hlast, -, hbefore⟩ := h.publish_sends hact hq
      rw [hjudge, hes] at hbefore
      have hrelayable : ∀ x ∈ k.tx.queue ++ [k.ownEntry true (k.alarmBody (s.node.sampled r).lv)] ++ es,
          x.frame.cls.relayable = true := by
        intro x hx
        simp only [List.mem_append, List.mem_singleton] at hx
        rcases hx with (hx | hx) | hx
        · rw [hnotice x hx]; rfl
        · rw [hx]; rfl
        · rw [hall x hx]; rfl
      rw [hlast, hbefore hrelayable]
      exact ⟨k.ownEntry true (k.alarmBody (s.node.sampled r).lv), by simp, rfl, rfl, rfl, rfl⟩
  · obtain ⟨before, e, hqueue, hbody, -⟩ := h.publish_sends hact hq
    exact ⟨before, e, hqueue, hbody⟩

open Sys2Proof.Machine in
/-- Settles O18: the decision at the N-th sample, by whether it passes. -/
theorem confirmedSampleEntersAlarm : Obligations.ConfirmedSampleEntersAlarm := by
  unfold Obligations.ConfirmedSampleEntersAlarm
  intro s r hhand hsettled hcount hwalk hvalid cfg partners
  have hquiet : s.node.alarm.state ≠ .quiet := by
    rcases hcount with ⟨hs, -⟩ | ⟨hs, -⟩ <;> simp [hs]
  have h : s.node.Sample r := ⟨hhand, hsettled, hvalid, hquiet⟩
  obtain ⟨t, ht, -, hevidence, hqueue, halarm, hpower⟩ := exec_publication_alarm s h
  refine ⟨t, ht, ?_⟩
  rw [hevidence, hqueue, halarm, hpower]
  intro hlv
  obtain ⟨k, hk⟩ := Node.Sample.atCount (r := r) hcount hlv
  have hcfg := hk.cfg
  intro heat passes cause
  have hpass : k.Passes (s.node.sampled r).lv ↔ passes := by
    unfold Node.Passes Node.Corroborated Node.partners
    rw [hcfg, hk.peers, hk.clock, hk.origins, hk.evidence] <;> exact Iff.rfl
  have hcause : k.causeNow = cause := by
    unfold Node.causeNow
    rw [hcfg, hk.evidence]
    rfl
  refine ⟨fun hp => ?_, fun hp => ?_⟩
  · have hjudge : (s.node.published r).judge (s.node.sampled r).lv = k.enterAlarm (s.node.sampled r).lv := by
      rw [hk.judged, Node.decideConfirmation_passed (hpass.mpr hp)]
      unfold Node.confirm
      rw [if_neg (by simp [hk.walkTest, hwalk])]
    have hfields := h.publish_eq
    rw [hjudge] at hfields
    obtain ⟨hstate, hlimit, hsilenced, horigins⟩ := k.enterAlarm_alarm (s.node.sampled r).lv
    have hpub : s.node.publish.alarm.state = .alarm := by rw [hfields]; simpa using hstate
    refine ⟨hpub, ?_, ?_, by simp [Node.alarmSideCause, hpub], ?_, fun hact hq => ?_⟩
    · rw [hfields]; simpa using hlimit
    · rw [hfields]; simpa using hsilenced
    · obtain ⟨others, ho, hall⟩ := k.alarm.addOwnOrigin_origins ⟨k.cfg.address, k.cfg.zone, k.causeNow, k.clock⟩
      refine ⟨others, ?_, by rw [hcfg] at hall; exact hall⟩
      rw [hfields]
      rw [hcfg, hcause, hk.clock] at ho
      simp only [Node.takeRecord_alarm, Node.sendEvidence_alarmOrigins, horigins, hcfg, hcause, hk.clock]
      exact ho
    · obtain ⟨hlined, hlen, hnotice⟩ := hk.queue hact hq
      obtain ⟨a, ha, hown, hattempt, hwaiting, hbody, hsender, horigin, hhop, htest⟩ :=
        Node.enterAlarm_queue (s.node.sampled r).lv hlined (by omega)
      obtain ⟨before, e, hlast, hevid, hbefore⟩ := h.publish_sends hact hq
      have hcls : a.frame.cls = .alarm := by rw [Frame.cls, hbody]; rfl
      rw [hjudge, ha] at hbefore
      have hrelayable : ∀ x ∈ k.tx.queue ++ [a], x.frame.cls.relayable = true := by
        intro x hx
        rcases List.mem_append.mp hx with hx | hx
        · rw [hnotice x hx]; rfl
        · rw [List.mem_singleton.mp hx, hcls]; rfl
      refine ⟨k.tx.queue, a, e, by rw [hlast, hbefore hrelayable]; simp, hnotice, hown, hattempt, hwaiting, ?_,
        by rw [hsender, hcfg], by rw [horigin, hcfg], by rw [hhop, hcfg], htest, by rw [hevid, hpub]⟩
      rw [hbody, Node.alarmBody, hcause, hk.evidence]
  · have hjudge := hk.judged.trans (Node.decideConfirmation_failed (fun hk => hp (hpass.mp hk)))
    have hfields := h.publish_eq
    rw [hjudge] at hfields
    rw [hfields]
    refine ⟨by simpa using hk.state, by simpa using hk.count, by simpa using hk.origins, ?_⟩
    simp only [Node.takeRecord_alarm, Node.sendEvidence_alarmLimit, hk.limit, hk.clock]
    cases s.node.alarm.limit with
    | none => rfl
    | some l => rfl
end

section
/-! The ends of the alarm side's spans, and the beacons (R71, R81, R82, R85; R60, R100, R120). -/

namespace Sys2Proof.Machine

/-! ## The latest event stamp (R85) -/

/-- The latest event stamp is as it was, or is now. -/
def Node.Stamped (n t : Node) : Prop :=
  t.alarm.lastEvent = n.alarm.lastEvent ∨ t.alarm.lastEvent = some n.clock

theorem Node.Stamped.of_same {n t : Node} (h : t.alarm.lastEvent = n.alarm.lastEvent) : n.Stamped t := .inl h

theorem Node.Stamped.trans {a b c : Node} (hclock : b.clock = a.clock) (h : a.Stamped b) (h' : b.Stamped c) :
    a.Stamped c := by
  rcases h' with h' | h'
  · rcases h with h | h
    · exact .inl (h'.trans h)
    · exact .inr (h'.trans h)
  · exact .inr (h'.trans (by rw [hclock]))

theorem Node.noticeTasks_alarm (n : Node) (k : NoticeKind) (b : Bool) (s : Option Byte) :
    (n.noticeTasks k b s).1.alarm = n.alarm := by
  unfold Node.noticeTasks; split <;> rfl

theorem Node.dropNotice_lastEvent (n : Node) (k : NoticeKind) (s : Option Byte) :
    (n.dropNotice k s).alarm.lastEvent = n.alarm.lastEvent := by
  unfold Node.dropNotice; split <;> simp

theorem Node.event_lastEvent (n : Node) (k : NoticeKind) (s : Option Byte) (h : n.active = true) :
    (n.event k s).1.alarm.lastEvent = some n.clock := by
  unfold Node.event
  simp [h, Node.noticeTasks_alarm]

theorem Task.run_stamped (n : Node) (t : Task) : n.Stamped (t.run n).1 := by
  cases t with
  | raise k s =>
    refine .inl ?_
    show (n.raise k s).1.alarm.lastEvent = _
    unfold Node.raise
    split
    · rfl
    · simp [Node.noticeTasks_alarm]
  | clear k s =>
    refine .inl ?_
    show (n.clear k s).1.alarm.lastEvent = _
    unfold Node.clear
    split
    · rfl
    · rw [Node.noticeTasks_alarm, Node.dropNotice_lastEvent]
  | event k s =>
    cases hact : n.active with
    | true => exact .inr (n.event_lastEvent k s hact)
    | false =>
      refine .inl ?_
      show (n.event k s).1.alarm.lastEvent = _
      simp [Node.event, hact]
  | offer f a =>
    refine .inl ?_
    show (n.offer f true n.clock a).1.alarm.lastEvent = _
    unfold Node.offer
    split
    · rfl
    · simp only [Node.afterOffer]
      split
      · rfl
      · split <;> rfl
  | echo b =>
    refine .inl ?_
    show (n.setLink _).1.alarm.lastEvent = _
    simp only [Node.setLink]
    split <;> rfl
  | frame b =>
    refine .inl ?_
    show (n.setLink _).1.alarm.lastEvent = _
    simp only [Node.setLink]
    split <;> rfl
  | ownEvicted q =>
    refine .inl ?_
    show (n.ownEvicted q).1.alarm.lastEvent = _
    unfold Node.ownEvicted
    split
    · rfl
    · simp only []
      split <;> rfl

theorem foldl_stamped (step : Node → Task → Node) (hclock : ∀ (m : Node) u, (step m u).clock = m.clock)
    (hstep : ∀ (m : Node) u, m.Stamped (step m u)) (ts : List Task) : ∀ n : Node, n.Stamped (ts.foldl step n) := by
  induction ts with
  | nil => exact fun n => .inl rfl
  | cons t ts ih => exact fun n => (hstep n t).trans (hclock n t) (ih _)

theorem deliver_stamped (d : Nat) : ∀ (t : Task) (n : Node), n.Stamped (deliver d t n) := by
  induction d with
  | zero => exact fun _ n => .inl rfl
  | succ d ih =>
    intro t n
    exact (Task.run_stamped n t).trans (Task.run_reported n t).clock
      (foldl_stamped _ (fun m u => (Machine.deliver_reported d u m).clock) (fun m u => ih u m) _ _)

theorem Node.deliver_stamped (n : Node) (ts : List Task) : n.Stamped (n.deliver ts) :=
  foldl_stamped _ (fun m u => (Machine.deliver_reported 12 u m).clock) (fun m u => Machine.deliver_stamped 12 u m) ts n

/-- Once the stamp is now it stays now. -/
theorem Node.Stamped.stays {n t : Node} (h : n.Stamped t) (hnow : n.alarm.lastEvent = some n.clock) :
    t.alarm.lastEvent = some n.clock := by
  rcases h with h | h
  · exact h.trans hnow
  · exact h

/-- An event among the tasks makes the stamp now. -/
theorem Node.deliver_lastEvent {k : NoticeKind} {s : Option Byte} (ts : List Task) :
    ∀ n : Node, n.active = true → Task.event k s ∈ ts → (n.deliver ts).alarm.lastEvent = some n.clock := by
  induction ts with
  | nil => exact fun _ _ h => by cases h
  | cons t ts ih =>
    intro n hact hm
    rw [Node.deliver_cons]
    have hclock : (Machine.deliver 12 t n).clock = n.clock := (Machine.deliver_reported 12 t n).clock
    rcases List.mem_cons.mp hm with rfl | hm
    · have hrun : (Task.run n (.event k s)).1.alarm.lastEvent = some n.clock := n.event_lastEvent k s hact
      have hrunclock := (Task.run_reported n (.event k s)).clock
      have hone : (Machine.deliver 12 (.event k s) n).alarm.lastEvent = some n.clock := by
        rw [← hrunclock]
        exact (foldl_stamped _ (fun m u => (Machine.deliver_reported 11 u m).clock)
          (fun m u => Machine.deliver_stamped 11 u m) _ _).stays (by rw [hrun, hrunclock])
      rw [← hclock]
      exact (Node.deliver_stamped _ ts).stays (by rw [hone, hclock])
    · rw [← hclock]
      exact ih _ ((Machine.deliver_one_active 12 t n).trans hact) hm

end Sys2Proof.Machine

open Sys2Proof.Machine in
/-- Settles O19: each span's end, at its expiry. -/
theorem alarmTimersExpire : Obligations.AlarmTimersExpire := by
  unfold Obligations.AlarmTimersExpire
  refine ⟨fun s hdue hs hact => ?_, fun s => ⟨fun hdue => ?_, fun hdue => ?_, fun e he hr => ?_⟩⟩
  · let m : Node := { s.node with alarm := s.node.alarm.toWatch }
    let d := m.deliver [.event .unconfirmed none, .clear .preAlarm none]
    have hexec : exec .confirmingLimit s = .next { s with node := d.settleWoken } := by
      show execConfirmingLimit s = _
      simp [execConfirmingLimit, hdue, hs, State.go, d, m]
    have hf := d.settleWoken_follows
    refine ⟨_, hexec, rfl, ?_⟩
    simp only [hf.alarmState, hf.alarmConfirmCount, hf.alarmHysteresis, hf.alarmLimit, hf.alarmNotices,
      hf.alarmLastEvent, hf.alarmOrigins, hf.evidence, hf.peers, hf.clock]
    refine ⟨by simp [d, m], by simp [d, m], by simp [d, m], by simp [d, m], ?_, ?_, by simp [d, m], by simp [d, m],
      by simp [d, m], by simp [d, m]⟩
    · exact Node.deliver_cleared (by decide) _ m hact (by simp) (.inr (by simp))
    · exact Node.deliver_lastEvent (k := .unconfirmed) (s := none) _ m hact (by simp)
  · have hsome : s.node.alarm.walkTest.isSome = true := by
      cases hw : s.node.alarm.walkTest with
      | none => rw [hw] at hdue; cases hdue
      | some w => rfl
    let m : Node := { s.node with alarm := { s.node.alarm with walkTest := none, testEnded := some s.node.clock } }
    have hexec : exec .walkTestExpiry s = .next { s with node := m.settleWoken } := by
      show execWalkTestExpiry s = _
      simp [execWalkTestExpiry, hdue, State.go, AlarmUnit.endTest, hsome, m]
    refine ⟨_, hexec, rfl, m.settleWoken_follows, ?_⟩
    show m.wake.settle.power.alarmCause = _
    rw [Node.settle_alarmCause]
    simp [m, Node.alarmSideCause]
  · have hexec : exec .testSoundSpanEnd s = .next { s with
        node := Node.settleWoken { s.node with alarm := { s.node.alarm with testSound := none } } } := by
      show execTestSoundSpanEnd s = _
      simp [execTestSoundSpanEnd, hdue, State.go]
    exact ⟨_, hexec, rfl, Node.settleWoken_follows _⟩
  · have hexec : exec .amberEventSpanEnd s = .next { s with
        node := Node.settleWoken { s.node with alarm := { s.node.alarm with lastEvent := none } } } := by
      show execAmberEventSpanEnd s = _
      simp [execAmberEventSpanEnd, AlarmUnit.eventSpanEnd, he, due, hr, State.go]
    exact ⟨_, hexec, rfl, Node.settleWoken_follows _⟩
end

section
/-! The one-hop count, the order of a sorted list, and the beacons (R60, R100, R108, R120). -/

namespace Sys2Proof.Machine

/-! ## A sorted list -/

section
variable {α : Type} (before : α → α → Bool)

/-- Sorted before, or equal and in the order they came. -/
def Sorted (came : α → α → Prop) (x y : α) : Prop := before x y = true ∨ (before y x = false ∧ came x y)

theorem insertBy_perm (x : α) (ys : List α) : (insertBy before x ys).Perm (x :: ys) := by
  induction ys with
  | nil => exact .refl _
  | cons y ys ih =>
    unfold insertBy
    split
    · exact .refl _
    · exact ((List.Perm.cons y ih).trans (List.Perm.swap x y ys))

theorem sortBy_perm_aux (xs : List α) : ∀ acc : List α,
    (xs.foldl (fun acc x => insertBy before x acc) acc).Perm (acc ++ xs) := by
  induction xs with
  | nil => intro acc; simp
  | cons x xs ih =>
    intro acc
    refine (ih _).trans ?_
    exact ((insertBy_perm before x acc).append_right xs).trans (by simpa using List.perm_middle.symm)

theorem sortBy_perm (xs : List α) : (sortBy before xs).Perm xs :=
  sortBy_perm_aux before xs []

variable {before} {came : α → α → Prop}

theorem Sorted.not_after (hasymm : ∀ x y, before x y = true → before y x = false) {x y : α}
    (h : Sorted before came x y) : before y x = false := by
  rcases h with h | ⟨h, -⟩
  · exact hasymm x y h
  · exact h

/-- The newest element goes after its equals. -/
theorem insertBy_sorted (hasymm : ∀ x y, before x y = true → before y x = false)
    (htrans : ∀ x y z, before x y = true → before z y = false → before x z = true) (x : α)
    (ys : List α) (hys : ys.Pairwise (Sorted before came)) (hx : ∀ y ∈ ys, came y x) :
    (insertBy before x ys).Pairwise (Sorted before came) := by
  induction ys with
  | nil => exact List.pairwise_singleton _ _
  | cons y ys ih =>
    obtain ⟨hy, hrest⟩ := List.pairwise_cons.mp hys
    unfold insertBy
    split
    · next hxy =>
      refine List.pairwise_cons.mpr ⟨fun z hz => ?_, hys⟩
      rcases List.mem_cons.mp hz with rfl | hz
      · exact .inl hxy
      · exact .inl (htrans x y z hxy ((hy z hz).not_after hasymm))
    · next hxy =>
      refine List.pairwise_cons.mpr ⟨fun z hz => ?_, ih hrest (fun z hz => hx z (List.mem_cons_of_mem _ hz))⟩
      rcases List.mem_cons.mp ((insertBy_perm before x ys).mem_iff.mp hz) with rfl | hz
      · exact .inr ⟨by simpa using hxy, hx y List.mem_cons_self⟩
      · exact hy z hz

theorem foldl_insertBy_sorted (hasymm : ∀ x y, before x y = true → before y x = false)
    (htrans : ∀ x y z, before x y = true → before z y = false → before x z = true) (xs : List α) :
    ∀ acc : List α, acc.Pairwise (Sorted before came) → (∀ y ∈ acc, ∀ x ∈ xs, came y x) → xs.Pairwise came →
      (xs.foldl (fun acc x => insertBy before x acc) acc).Pairwise (Sorted before came) := by
  induction xs with
  | nil => exact fun acc h _ _ => h
  | cons x xs ih =>
    intro acc hacc hcame hxs
    obtain ⟨hx, hrest⟩ := List.pairwise_cons.mp hxs
    refine ih _ (insertBy_sorted hasymm htrans x acc hacc (fun y hy => hcame y hy x List.mem_cons_self))
      (fun y hy z hz => ?_) hrest
    rcases List.mem_cons.mp ((insertBy_perm before x acc).mem_iff.mp hy) with rfl | hy
    · exact hx z hz
    · exact hcame y hy z (List.mem_cons_of_mem _ hz)

/-- The list is in order, and equal elements are in the order they came. -/
theorem sortBy_sorted (hasymm : ∀ x y, before x y = true → before y x = false)
    (htrans : ∀ x y z, before x y = true → before z y = false → before x z = true) (xs : List α)
    (hxs : xs.Pairwise came) : (sortBy before xs).Pairwise (Sorted before came) :=
  foldl_insertBy_sorted hasymm htrans xs [] List.Pairwise.nil (by simp) hxs

end

/-! ## The one-hop count (R100, R108) -/

/-- The value given is free, or every value passed is carried by an own entry. -/
theorem freeOneHop_spec (queue : List TxEntry) (k : Nat) : ∀ c : Byte,
    (∀ e ∈ queue, e.own = true → e.frame.hdr.seq ≠ freeOneHop queue k c) ∨
      ∀ j < k, ∃ e ∈ queue, e.frame.hdr.seq = c + BitVec.ofNat 8 j := by
  induction k with
  | zero => exact fun c => .inr (fun j hj => absurd hj (Nat.not_lt_zero j))
  | succ k ih =>
    intro c
    unfold freeOneHop
    split
    · next hany =>
      obtain ⟨e, he, hc⟩ := List.any_eq_true.mp hany
      simp only [Bool.and_eq_true, beq_iff_eq] at hc
      rcases ih (c + 1) with h | h
      · exact .inl h
      · refine .inr (fun j hj => ?_)
        cases j with
        | zero => exact ⟨e, he, by simp [hc.2]⟩
        | succ j =>
          obtain ⟨e', he', hseq⟩ := h j (by omega)
          exact ⟨e', he', by rw [hseq, BitVec.add_assoc, BitVec.add_comm 1, BitVec.ofNat_add]; rfl⟩
    · next hany =>
      refine .inl (fun e he hown hseq => hany (List.any_eq_true.mpr ⟨e, he, ?_⟩))
      simp [hown, hseq]

/-- With fewer than 8 entries the value given is free (R108). -/
theorem Transmitter.oneHopValue_free (t : Transmitter) (hl : t.queue.length < 8) :
    ∀ e ∈ t.queue, e.own = true → e.frame.hdr.seq ≠ t.oneHopValue := by
  rcases freeOneHop_spec t.queue 8 t.oneHop with h | h
  · exact h
  · exfalso
    have hsub : (List.range 8).map (fun j => t.oneHop + BitVec.ofNat 8 j) ⊆ t.queue.map (fun e => e.frame.hdr.seq) := by
      intro v hv
      obtain ⟨j, hj, rfl⟩ := List.mem_map.mp hv
      obtain ⟨e, he, hseq⟩ := h j (List.mem_range.mp hj)
      exact List.mem_map.mpr ⟨e, he, hseq⟩
    have hnodup : ((List.range 8).map (fun j => t.oneHop + BitVec.ofNat 8 j)).Nodup := by
      refine List.Nodup.map_on (fun i hi j hj hij => ?_) List.nodup_range
      have hnat := congrArg BitVec.toNat (show BitVec.ofNat 8 i = BitVec.ofNat 8 j by simpa using hij)
      have hi' := List.mem_range.mp hi
      have hj' := List.mem_range.mp hj
      simp only [BitVec.toNat_ofNat] at hnat
      omega
    have hlen := (hnodup.subperm hsub).length_le
    simp only [List.length_map, List.length_range] at hlen
    omega

/-! ## An own one-hop frame (R107) -/

@[simp] theorem Transmitter.leaveIdle_oneHop (t : Transmitter) : t.leaveIdle.oneHop = t.oneHop := by
  unfold Transmitter.leaveIdle; split <;> rfl

@[simp] theorem Transmitter.leaveIdle_drops (t : Transmitter) : t.leaveIdle.drops = t.drops := by
  unfold Transmitter.leaveIdle; split <;> rfl

theorem Transmitter.accept_drops (t : Transmitter) (now : Stamp) (f : Frame) (own : Bool) (earliest : Stamp)
    (attempt : Option Nat) : (t.accept now f own earliest attempt).drops = t.drops := by
  unfold Transmitter.accept
  simp only [leaveIdle_drops]
  split <;> rfl

theorem Transmitter.accept_oneHop (t : Transmitter) (now : Stamp) (f : Frame) (own : Bool) (earliest : Stamp)
    (attempt : Option Nat) (hf : f.cls.relayable = false) :
    (t.accept now f own earliest attempt).oneHop = t.oneHopValue + 1 := by
  unfold Transmitter.accept
  simp [hf]

/-- An own one-hop frame changes the transmitter only, and leaves nothing to report where it evicts nothing (R108). -/
theorem Node.deliver_offer_oneHop {n : Node} {f : Frame} {u : Transmitter} {a : OfferAnswer} (hact : n.active = true)
    (hf : f.cls.relayable = false) (h : n.tx.offer n.clock f true n.clock none = (u, a, none)) :
    n.deliver [.offer f none] = { n with tx := u } := by
  have hrun : Task.run n (.offer f none) = ({ n with tx := u }, []) := by
    simp [Task.run, Node.offer, hact, h, Node.afterOffer_none, hf]
  simp [Node.deliver, Machine.deliver, hrun]

/-- With room and none of its class waiting, it is the newest entry (R107). -/
theorem Transmitter.offer_oneHop_fresh (t : Transmitter) (now : Stamp) (f : Frame) (own : Bool) (earliest : Stamp)
    (attempt : Option Nat) (hf : f.cls.relayable = false) (hl : t.queue.length < 8)
    (hnone : ∀ e ∈ t.queue, e.frame.cls = f.cls → e.state ≠ .waiting) :
    t.offer now f own earliest attempt = (t.accept now f own earliest attempt, .accepted, none) := by
  have hlast : lastIndexOf (fun e => e.frame.cls == f.cls && e.state == .waiting) t.queue = none := by
    refine (lastIndexOf_eq_none _ _).mpr (fun e he => ?_)
    by_cases hc : e.frame.cls = f.cls
    · simp [hc, hnone e he hc]
    · simp [hc]
  unfold Transmitter.offer
  rw [if_neg (by simp [hf]), hlast]
  exact t.seat_room now f own earliest attempt hl

/-! ## The beacon (R60, R120) -/

/-- The due time a BEACON_DUE takes away: the full-period one where it is reached, else the half-period one (R120). -/
def Node.beaconTaken (n : Node) : Node :=
  if due n.clock n.tx.beaconDue then { n with tx := { n.tx with beaconDue := none } }
  else { n with tx := { n.tx with halfDue := none } }

@[simp] theorem Node.beaconTaken_queue (n : Node) : n.beaconTaken.tx.queue = n.tx.queue := by
  unfold Node.beaconTaken; split <;> rfl
@[simp] theorem Node.beaconTaken_oneHop (n : Node) : n.beaconTaken.tx.oneHop = n.tx.oneHop := by
  unfold Node.beaconTaken; split <;> rfl
@[simp] theorem Node.beaconTaken_drops (n : Node) : n.beaconTaken.tx.drops = n.tx.drops := by
  unfold Node.beaconTaken; split <;> rfl
@[simp] theorem Node.beaconTaken_clock (n : Node) : n.beaconTaken.clock = n.clock := by
  unfold Node.beaconTaken; split <;> rfl
@[simp] theorem Node.beaconTaken_active (n : Node) : n.beaconTaken.active = n.active := by
  unfold Node.beaconTaken; split <;> rfl
@[simp] theorem Node.beaconTaken_frame (n : Node) : n.beaconTaken.beaconFrame = n.beaconFrame := by
  unfold Node.beaconTaken; split <;> rfl
@[simp] theorem Node.beaconTaken_peers (n : Node) : n.beaconTaken.peers = n.peers := by
  unfold Node.beaconTaken; split <;> rfl
@[simp] theorem Node.beaconTaken_link (n : Node) : n.beaconTaken.link = n.link := by
  unfold Node.beaconTaken; split <;> rfl

theorem exec_beaconDue {s : State}
    (h : due s.node.clock s.node.tx.beaconDue = true ∨ due s.node.clock s.node.tx.halfDue = true) :
    exec .beaconDue s = .next { s with node := s.node.beaconTaken.sendBeacon.settleWoken } := by
  show execBeaconDue s = _
  unfold execBeaconDue Node.beaconTaken
  by_cases hfull : due s.node.clock s.node.tx.beaconDue = true
  · rw [if_pos hfull]
    simp only [if_pos hfull]
    rfl
  · rw [if_neg hfull]
    simp only [if_neg hfull, if_pos (h.resolve_left hfull)]
    rfl

/-- The heard-list: the FRESH entries in order, the first 6 (R60). -/
theorem PeerTable.heardList_spec (t : PeerTable) : ∃ ordered : List Peer,
    ordered.Perm ((t.entries.filterMap id).filter (fun p => p.state = .fresh)) ∧
    ordered.Pairwise (fun p q => q.level < p.level ∨ (p.level = q.level ∧ p.address ≤ q.address)) ∧
    t.heardList = (ordered.map (fun p => p.address)).take 6 := by
  have hfresh : t.entries.filterMap (fun e => e.filter (fun p => p.state == .fresh)) =
      (t.entries.filterMap id).filter (fun p => p.state = .fresh) := by
    rw [List.filter_filterMap]
    refine List.filterMap_congr (fun e _ => ?_)
    cases e with
    | none => rfl
    | some p => simp [Option.filter, beq_eq_decide]
  refine ⟨_, (sortBy_perm _ _).trans (.of_eq hfresh), ?_, rfl⟩
  refine (sortBy_sorted (came := fun _ _ => True) (fun x y h => ?_) (fun x y z h h' => ?_) _
    (List.pairwise_of_forall (fun _ _ => trivial))).imp (fun {p q} h => ?_)
  · simp only [Bool.or_eq_true, decide_eq_true_eq, Bool.and_eq_true, beq_iff_eq] at h
    simp only [Bool.or_eq_false_iff, decide_eq_false_iff_not, Bool.and_eq_false_iff, beq_eq_false_iff_ne]
    bv_omega
  · simp only [Bool.or_eq_true, decide_eq_true_eq, Bool.and_eq_true, beq_iff_eq] at h ⊢
    simp only [Bool.or_eq_false_iff, decide_eq_false_iff_not, Bool.and_eq_false_iff, beq_eq_false_iff_ne] at h'
    bv_omega
  · have hle := h.not_after (fun x y h => ?_)
    · simp only [Bool.or_eq_false_iff, decide_eq_false_iff_not, Bool.and_eq_false_iff, beq_eq_false_iff_ne] at hle
      bv_omega
    · simp only [Bool.or_eq_true, decide_eq_true_eq, Bool.and_eq_true, beq_iff_eq] at h
      simp only [Bool.or_eq_false_iff, decide_eq_false_iff_not, Bool.and_eq_false_iff, beq_eq_false_iff_ne]
      bv_omega

/-- With room and no BEACON waiting, the BEACON is the newest entry (R107, R120). -/
theorem Node.sendBeacon_fresh {n : Node} (hact : n.active = true) (hl : n.tx.queue.length < 8)
    (hnone : ∀ e ∈ n.tx.queue, e.frame.cls = .beacon → e.state ≠ .waiting) :
    n.sendBeacon = { n with tx := n.tx.accept n.clock n.beaconFrame true n.clock none } :=
  Node.deliver_offer_oneHop hact rfl (n.tx.offer_oneHop_fresh _ _ _ _ _ rfl hl hnone)

/-- The entry of a BEACON built now, under a value of the one-hop count. -/
def Node.beaconEntry (n : Node) (v : Byte) : TxEntry := ⟨n.beaconFrame.withSeq v, true, .waiting, n.clock, none⟩

theorem exec_beaconDue_fresh {s : State}
    (hdue : due s.node.clock s.node.tx.beaconDue = true ∨ due s.node.clock s.node.tx.halfDue = true)
    (hact : s.node.active = true) (hl : s.node.tx.queue.length < 8)
    (hnone : ∀ e ∈ s.node.tx.queue, e.frame.cls = .beacon → e.state ≠ .waiting) :
    ∃ (t : State) (v : Byte), exec .beaconDue s = .next t ∧ t.pending = s.pending ∧
      t.node.tx.queue = s.node.tx.queue ++ [s.node.beaconEntry v] ∧
      (∀ e ∈ s.node.tx.queue, e.own = true → e.frame.hdr.seq ≠ v) ∧ t.node.tx.oneHop = v + 1 ∧
      t.node.tx.beaconDue = s.node.beaconTaken.tx.beaconDue ∧ t.node.tx.halfDue = s.node.beaconTaken.tx.halfDue ∧
      t.node.peers = s.node.peers ∧ t.node.link = s.node.link := by
  have hsend := Node.sendBeacon_fresh (n := s.node.beaconTaken) (by simpa using hact) (by simpa using hl)
    (by simpa using hnone)
  have hcls : s.node.beaconTaken.beaconFrame.cls.relayable = false := rfl
  have hkept := Transmitter.accept_kept s.node.beaconTaken.tx s.node.beaconTaken.clock
    s.node.beaconTaken.beaconFrame true s.node.beaconTaken.clock none
  have hfree := s.node.beaconTaken.tx.oneHopValue_free (by simpa using hl)
  have hf := s.node.beaconTaken.sendBeacon.settleWoken_follows
  refine ⟨_, s.node.beaconTaken.tx.oneHopValue, exec_beaconDue hdue, rfl, ?_⟩
  simp only [hf.txQueue, hf.txOneHop, hf.txBeaconDue, hf.txHalfDue, hf.peers, hf.link]
  rw [hsend]
  refine ⟨?_, by simpa using hfree, Transmitter.accept_oneHop _ _ _ _ _ _ hcls, hkept.beaconDue, hkept.halfDue,
    s.node.beaconTaken_peers, s.node.beaconTaken_link⟩
  rw [Transmitter.accept_queue_oneHop (hf := hcls), newEntry_now]
  simp [Node.beaconEntry]

end Sys2Proof.Machine

open Sys2Proof.Machine in
/-- Settles O23: the half-period mark, and the BEACON of a due time. -/
theorem beaconsAreScheduledAndBuilt : Obligations.BeaconsAreScheduledAndBuilt := by
  unfold Obligations.BeaconsAreScheduledAndBuilt
  refine ⟨fun s mark hm hr => ⟨fun hst => ?_, fun hst => ?_⟩, fun s hact hdue hl hnone => ?_⟩
  · show execHalfPeriodMark s = _
    simp [execHalfPeriodMark, hm, hr, hst, State.go, Node.draw]
  · show execHalfPeriodMark s = _
    simp [execHalfPeriodMark, hm, hr, hst, State.go]
  · obtain ⟨t, v, hexec, hpending, hqueue, hfree, honeHop, hbeacon, hhalf, hpeers, hlink⟩ :=
      exec_beaconDue_fresh hdue hact hl hnone
    refine ⟨t, s.node.beaconEntry v, s.node.peers.heardList, hexec, hpending, hqueue, rfl, rfl, rfl, rfl,
      s.node.peers.heardList_spec, rfl, rfl, rfl, hfree, honeHop, fun hfull => ?_, fun hfull => ?_, hpeers, hlink⟩
    · simp [hbeacon, hhalf, Node.beaconTaken, hfull]
    · simp [hbeacon, hhalf, Node.beaconTaken, hfull]
end

section
/-! The queue's answers to an offer (R107 to R110), and the relay offer (R140, R141). -/

namespace Sys2Proof.Machine

/-! ## Choosing an entry (R110) -/

theorem lastIndexFrom_append {α : Type} (p : α → Bool) (a b : List α) (x : α) (i : Nat) (hx : p x = true)
    (hb : ∀ y ∈ b, p y = false) : lastIndexFrom p i (a ++ x :: b) = some (i + a.length) := by
  induction a generalizing i with
  | nil => simp [lastIndexFrom, (lastIndexFrom_eq_none p b (i + 1)).mpr hb, hx]
  | cons y a ih =>
    rw [List.cons_append, lastIndexFrom, ih]
    simp only [List.length_cons]
    congr 1
    omega

/-- The last element that passes. -/
theorem lastIndexOf_append {α : Type} (p : α → Bool) (a b : List α) (x : α) (hx : p x = true)
    (hb : ∀ y ∈ b, p y = false) : lastIndexOf p (a ++ x :: b) = some a.length := by
  simpa [lastIndexOf] using lastIndexFrom_append p a b x 0 hx hb

/-- The least of a list's values. -/
theorem foldl_min_eq {α : Type} (f : α → Nat) (r : Nat) (xs : List α) : ∀ init : Nat, r ≤ init →
    (∀ x ∈ xs, r ≤ f x) → (init = r ∨ ∃ x ∈ xs, f x = r) → xs.foldl (fun m x => min m (f x)) init = r := by
  induction xs with
  | nil =>
    intro init _ _ h
    rcases h with h | ⟨x, hx, -⟩
    · exact h
    · cases hx
  | cons x xs ih =>
    intro init hinit hall h
    have hx := hall x List.mem_cons_self
    refine ih (min init (f x)) (by omega) (fun y hy => hall y (List.mem_cons_of_mem _ hy)) ?_
    rcases h with h | ⟨y, hy, hr⟩
    · exact .inl (by omega)
    · rcases List.mem_cons.mp hy with rfl | hy
      · exact .inl (by omega)
      · exact .inr ⟨y, hy, hr⟩

theorem TxEntry.waits_iff (e : TxEntry) : e.waits = true ↔ e.state = .waiting ∨ e.state = .holdoff := by
  simp [TxEntry.waits]

/-- The waiting entry of the lowest rank below the offered one, the newest of those (R110). -/
theorem evictionIndex_lowest {a b : List TxEntry} {v : TxEntry} {rank : Nat} (own : Bool) (hv : v.waits = true)
    (hrank : v.frame.cls.rank < rank) (ha : ∀ y ∈ a, y.waits = true → v.frame.cls.rank ≤ y.frame.cls.rank)
    (hb : ∀ y ∈ b, y.waits = true → v.frame.cls.rank < y.frame.cls.rank) :
    evictionIndex (a ++ v :: b) rank own = some a.length := by
  have hmem : v ∈ (a ++ v :: b).filter (fun e => e.waits && decide (e.frame.cls.rank < rank)) :=
    List.mem_filter.mpr ⟨by simp, by simp [hv, hrank]⟩
  have hleast : ∀ y ∈ (a ++ v :: b).filter (fun e => e.waits && decide (e.frame.cls.rank < rank)),
      v.frame.cls.rank ≤ y.frame.cls.rank := by
    intro y hy
    obtain ⟨hy, hc⟩ := List.mem_filter.mp hy
    simp only [Bool.and_eq_true] at hc
    rcases List.mem_append.mp hy with hy | hy
    · exact ha y hy hc.1
    · rcases List.mem_cons.mp hy with rfl | hy
      · exact Nat.le_refl _
      · exact Nat.le_of_lt (hb y hy hc.1)
  unfold evictionIndex
  simp only []
  split
  · next hnil => rw [hnil] at hmem; cases hmem
  · next e rest hcons =>
    rw [hcons] at hmem hleast
    have hlow : rest.foldl (fun m x => min m x.frame.cls.rank) e.frame.cls.rank = v.frame.cls.rank := by
      refine foldl_min_eq (fun x : TxEntry => x.frame.cls.rank) _ _ _ (hleast e List.mem_cons_self)
        (fun x hx => hleast x (List.mem_cons_of_mem _ hx)) ?_
      rcases List.mem_cons.mp hmem with rfl | hm
      · exact .inl rfl
      · exact .inr ⟨v, hm, rfl⟩
    rw [hlow]
    refine lastIndexOf_append _ a b v (by simp [hv]) (fun y hy => ?_)
    cases hw : y.waits with
    | false => simp
    | true => have := hb y hy hw; simp; omega

theorem evictionIndex_of_none_lower {queue : List TxEntry} {rank : Nat} (own : Bool)
    (h : ∀ y ∈ queue, y.waits = true → rank ≤ y.frame.cls.rank) :
    evictionIndex queue rank own =
      if own then lastIndexOf (fun e => e.waits && !e.own && e.frame.cls.rank == rank) queue else none := by
  have hnil : queue.filter (fun e => e.waits && decide (e.frame.cls.rank < rank)) = [] := by
    refine List.filter_eq_nil_iff.mpr (fun y hy hc => ?_)
    simp only [Bool.and_eq_true, decide_eq_true_eq] at hc
    have := h y hy hc.1
    omega
  unfold evictionIndex
  simp only [hnil]

/-! ## A full queue -/

theorem Transmitter.seat_dropped (t : Transmitter) (now : Stamp) (f : Frame) (own : Bool) (earliest : Stamp)
    (attempt : Option Nat) (hl : 8 ≤ t.queue.length) (h : evictionIndex t.queue f.cls.rank own = none) :
    t.seat now f own earliest attempt = ({ t with drops := countUp t.drops }, .dropped, none) := by
  unfold Transmitter.seat
  rw [if_neg (by omega), h]

/-- The queue once an entry is evicted (R110). -/
def Transmitter.evicted (t : Transmitter) (queue : List TxEntry) : Transmitter :=
  { t with queue := queue, drops := countUp t.drops }

theorem Transmitter.seat_evicts (t : Transmitter) (now : Stamp) (f : Frame) (own : Bool) (earliest : Stamp)
    (attempt : Option Nat) {a b : List TxEntry} {v : TxEntry} (hq : t.queue = a ++ v :: b) (hl : 8 ≤ t.queue.length)
    (h : evictionIndex t.queue f.cls.rank own = some a.length) :
    t.seat now f own earliest attempt = ((t.evicted (a ++ b)).accept now f own earliest attempt, .accepted, some v) := by
  unfold Transmitter.seat
  rw [if_neg (by omega), h]
  simp [hq, Transmitter.evicted]

/-- A relayable frame whose identity no entry holds goes to its place (R108). -/
theorem Transmitter.offer_new (t : Transmitter) (now : Stamp) (f : Frame) (own : Bool) (earliest : Stamp)
    (attempt : Option Nat) (hf : f.cls.relayable = true)
    (hd : ∀ e ∈ t.queue, e.holds f.hdr.origin f.hdr.seq = false) :
    t.offer now f own earliest attempt = t.seat now f own earliest attempt := by
  unfold Transmitter.offer Transmitter.identify
  rw [if_pos hf, indexOf_none _ _ hd]

theorem Transmitter.offer_relay_duplicate (t : Transmitter) (now : Stamp) (f : Frame) (earliest : Stamp)
    (attempt : Option Nat) (hf : f.cls.relayable = true) {e : TxEntry} (he : e ∈ t.queue)
    (hd : e.holds f.hdr.origin f.hdr.seq = true) : t.offer now f false earliest attempt = (t, .duplicate, none) := by
  unfold Transmitter.offer Transmitter.identify
  rw [if_pos hf]
  cases hi : indexOf (TxEntry.holds f.hdr.origin f.hdr.seq) t.queue with
  | none => exact absurd ((indexOf_eq_none _ _).mp hi e he) (by simp [hd])
  | some i =>
    obtain ⟨a, x, b, hq, rfl, -, -⟩ := indexOf_spec _ _ _ hi
    have hget : t.queue[a.length]? = some x := by rw [hq]; simp
    simp [hget]

theorem TxEntry.holds_iff (e : TxEntry) (origin seq : Byte) : e.holds origin seq = true ↔
    e.frame.hdr.origin = origin ∧ e.frame.hdr.seq = seq := by
  simp [TxEntry.holds]

theorem TxEntry.holds_eq_false (e : TxEntry) (origin seq : Byte) : e.holds origin seq = false ↔
    ¬(e.frame.hdr.origin = origin ∧ e.frame.hdr.seq = seq) := by
  rw [← TxEntry.holds_iff, Bool.not_eq_true]

theorem SeenEntry.holds_eq_false (e : SeenEntry) (origin seq : Byte) : e.holds origin seq = false ↔
    ¬(e.origin = origin ∧ e.seq = seq) := by
  simp [SeenEntry.holds]

/-! ## What follows an offer -/

theorem Node.offer_eq {n : Node} {f : Frame} {own : Bool} {earliest : Stamp} {attempt : Option Nat} {u : Transmitter}
    {a : OfferAnswer} {ev : Option TxEntry} (hact : n.active = true)
    (h : n.tx.offer n.clock f own earliest attempt = (u, a, ev)) :
    n.offer f own earliest attempt =
      ((Node.afterOffer { n with tx := u } f own a ev).1, some a, (Node.afterOffer { n with tx := u } f own a ev).2) := by
  unfold Node.offer
  rw [h]
  simp [hact]

theorem Node.afterOffer_kept (n : Node) (f : Frame) (own : Bool) {a : OfferAnswer} (h : a ≠ .dropped ∧ a ≠ .duplicate) :
    n.afterOffer f own a none = (n, []) := by
  rw [Node.afterOffer_none]
  simp [h.1, h.2]

theorem Node.afterOffer_relay (n : Node) (f : Frame) (a : OfferAnswer) : n.afterOffer f false a none = (n, []) := by
  rw [Node.afterOffer_none]
  simp

/-- A relay entry evicted is reported to the Relay Engine (R142). -/
theorem Node.afterOffer_evicts_relay (n : Node) (f : Frame) (own : Bool) {v : TxEntry} (hv : v.own = false) :
    n.afterOffer f own .accepted (some v) =
      ({ n with relay := n.relay.report v.frame.hdr.origin v.frame.hdr.seq .notRelaying }, []) := by
  simp [Node.afterOffer, hv]

/-- An own relayable entry evicted is a miss (R110, R150). -/
theorem Node.afterOffer_evicts_own (n : Node) (f : Frame) (own : Bool) {v : TxEntry} (hv : v.own = true) :
    n.afterOffer f own .accepted (some v) =
      (n, if v.frame.cls.relayable then [.echo false, .ownEvicted v.frame.hdr.seq] else []) := by
  simp [Node.afterOffer, hv]

/-! ## A miss that changes no link state -/

theorem Link.state_of_low {l : Link} (h : l.efc ≤ 127) :
    l.state = if 127 < l.rfc then .strained else .linked := by
  unfold Link.state
  rw [if_neg (by omega)]
  by_cases hr : 127 < l.rfc
  · simp [hr]
  · have he : ¬127 < l.efc := by omega
    simp [hr, he]

theorem Link.miss_low {l : Link} (h : l.efc ≤ 119) : l.afterEcho false = { l with efc := l.efc + 8 } := by
  have hmin : min 511 (l.efc + 8) = l.efc + 8 := by omega
  simp [Link.afterEcho, hmin]

/-- A change of the counts that leaves the link state has no effect but itself (R155 to R157). -/
theorem Node.setLink_same {n : Node} {l : Link} (h : l.state = n.link.state) : n.setLink l = ({ n with link := l }, []) := by
  unfold Node.setLink
  cases hs : n.link.state with
  | linked => simp [h, hs]
  | strained => simp [h, hs]
  | isolated => simp [h, hs]

theorem Node.run_miss {n : Node} (h : n.link.efc ≤ 119) :
    Task.run n (.echo false) = ({ n with link := { n.link with efc := n.link.efc + 8 } }, []) := by
  show n.setLink (n.link.afterEcho false) = _
  rw [Link.miss_low h]
  refine Node.setLink_same ?_
  rw [Link.state_of_low (l := n.link) (by omega),
    Link.state_of_low (l := { n.link with efc := n.link.efc + 8 }) (by simp only []; omega)]

theorem Node.deliver_single {n m : Node} {t : Task} (h : Task.run n t = (m, [])) : n.deliver [t] = m := by
  show (Task.run n t).2.foldl _ (Task.run n t).1 = m
  rw [h]
  rfl

theorem Node.deliver_miss {n : Node} (h : n.link.efc ≤ 119) :
    n.deliver [.echo false] = { n with link := { n.link with efc := n.link.efc + 8 } } :=
  Node.deliver_single (Node.run_miss h)

theorem Node.run_ownEvicted_absent {n : Node} {seq : Byte} (h : ∀ w ∈ n.relay.watch, w.frame.hdr.seq ≠ seq) :
    Task.run n (.ownEvicted seq) = (n, []) := by
  show n.ownEvicted seq = _
  unfold Node.ownEvicted
  rw [List.find?_eq_none.mpr (fun w hw => by simpa [WatchEntry.hasSeq] using h w hw)]

/-- An unwatched own entry is evicted on a node with EFC at most 119: a miss (R110, R150). -/
theorem Node.deliver_eviction {n : Node} {seq : Byte} (h : n.link.efc ≤ 119)
    (hw : ∀ w ∈ n.relay.watch, w.frame.hdr.seq ≠ seq) :
    n.deliver [.echo false, .ownEvicted seq] = { n with link := { n.link with efc := n.link.efc + 8 } } := by
  have hone : Machine.deliver 12 (.echo false) n = { n with link := { n.link with efc := n.link.efc + 8 } } :=
    Node.deliver_miss h
  rw [Node.deliver_cons, hone]
  exact Node.deliver_single (Node.run_ownEvicted_absent hw)

/-! ## The relay decision (R140, R141) -/

theorem Node.refusesRelay_eq_false (n : Node) (f : Frame) (relay : Bool) : n.refusesRelay f relay = false ↔
    relay = true ∧ f.hdr.origin ≠ n.cfg.address ∧ f.hdr.hop ≠ 0 ∧ n.link.state ≠ .isolated ∧
      (n.power.battery ≠ .critical ∨ f.cls = .alarm) := by
  simp only [Node.refusesRelay, Bool.or_eq_false_iff, Bool.not_eq_false', beq_eq_false_iff_ne, Bool.and_eq_false_iff,
    bne_eq_false_iff_eq, and_assoc]

theorem Node.takeRelayOffer_refused {n : Node} {f : Frame} {relay : Bool} (h : n.refusesRelay f relay = true) :
    n.takeRelayOffer f relay = { n with relay := n.relay.mark f.hdr.origin f.hdr.seq .notRelaying } := by
  unfold Node.takeRelayOffer
  rw [if_pos h]

/-- The copy's earliest-send stamp (R141). -/
def Node.relayTime (n : Node) (f : Frame) : Stamp := later n.clock (holdoff f.cls (rngDraw n.tx.rng))

/-- The offer of the copy, once the draw is made. -/
theorem Node.takeRelayOffer_made {n : Node} {f : Frame} {relay : Bool} {u : Transmitter} {a : OfferAnswer}
    {ev : Option TxEntry} {m : Node × List Task} (hact : n.active = true) (h : n.refusesRelay f relay = false)
    (ho : n.draw.tx.offer n.clock (f.relayed n.cfg.address) false (n.relayTime f) none = (u, a, ev))
    (hm : Node.afterOffer { n.draw with tx := u } (f.relayed n.cfg.address) false a ev = m) :
    n.takeRelayOffer f relay =
      Node.deliver { m.1 with relay := m.1.relay.mark f.hdr.origin f.hdr.seq (statusAfter a) } m.2 := by
  have hoffer := Node.offer_eq (n := n.draw) (show n.draw.active = true from hact) ho
  rw [hm] at hoffer
  unfold Node.takeRelayOffer
  rw [if_neg (by simp [h])]
  simp only []
  rw [show n.draw.offer (f.relayed n.cfg.address) false (later n.clock (holdoff f.cls n.draw.tx.rng)) none = _ from
    hoffer]
  rfl

/-- The dispatcher's next service touches no FREE slot (R131). -/
theorem Receiver.choose_ready {r : Receiver} {i : Nat} (h : r.choose = some i) : r.ready i = true := by
  unfold Receiver.choose at h
  have hm := List.mem_of_find?_eq_some h
  exact (List.mem_filter.mp hm).2

theorem Receiver.beginService_free (k : Nat) : ∀ (r : Receiver) (i : Nat), r.slots[i]? = some none →
    (r.beginService k).slots[i]? = some none := by
  induction k with
  | zero => exact fun _ _ h => h
  | succ k ih =>
    intro r i h
    unfold Receiver.beginService
    split
    · exact h
    · next j hj =>
      have hne : i ≠ j := by
        rintro rfl
        have := Receiver.choose_ready hj
        simp [Receiver.ready, Receiver.slot, h] at this
      split
      · exact h
      · next x hx =>
        have htaken : (setAt r.slots j (some { x with inService := true }))[i]? = some none := by
          rw [setAt_getElem?_ne _ _ _ _ hne]; exact h
        simp only []
        split
        · exact htaken
        · split
          · exact htaken
          · refine ih _ i ?_
            rw [Receiver.release_slots, setAt_getElem?_ne _ _ _ _ hne]
            exact htaken

theorem Receiver.dispatch_free {r : Receiver} {i : Nat} (h : r.slots[i]? = some none) :
    r.dispatch.slots[i]? = some none := by
  unfold Receiver.dispatch
  split
  · exact h
  · exact Receiver.beginService_free 4 r i h

/-- A service that ends leaves its slot FREE (R131). -/
theorem Receiver.endService_free {r : Receiver} {i : Nat} (h : i < r.slots.length) :
    (r.endService i).slots[i]? = some none :=
  Receiver.dispatch_free (by rw [Receiver.release_slots]; exact setAt_getElem?_self _ _ _ h)

theorem Receiver.serving_of {r : Receiver} {i : Nat} {x : Slot} {st : ServiceStep} (hs : r.service = some ⟨i, st⟩)
    (hx : r.slots[i]? = some (some x)) : r.serving st = some (i, x) := by
  simp [Receiver.serving, hs, Receiver.slot, hx]

theorem exec_relayOffer {s : State} {i : Nat} {x : Slot} (hs : s.node.rx.service = some ⟨i, .relayOffer⟩)
    (hx : s.node.rx.slots[i]? = some (some x)) :
    exec .relayOffer s = .next { s with node := Node.settle { s.node.takeRelayOffer x.frame x.relay with
      rx := if x.use && (s.node.takeRelayOffer x.frame x.relay).hasConsumer x.frame then
          (s.node.takeRelayOffer x.frame x.relay).rx.goTo i .useDelivery
        else (s.node.takeRelayOffer x.frame x.relay).rx.endService i } } := by
  show execRelayOffer s = _
  unfold execRelayOffer
  simp only [Receiver.serving_of hs hx]
  rfl

theorem Node.takeRelayOffer_rx (n : Node) (f : Frame) (relay : Bool) : (n.takeRelayOffer f relay).rx = n.rx := by
  unfold Node.takeRelayOffer
  split
  · rfl
  · rw [Node.deliver_rx]
    exact (Node.offer_reported ..).rx

end Sys2Proof.Machine
end

section
/-! Offers that replace, evict, are duplicates or are dropped; the relay offer (R107 to R110, R140 to R142, R149). -/

namespace Sys2Proof.Machine

/-! ## What a relay offer leaves -/

theorem Node.takeRelayOffer_loader (n : Node) (f : Frame) (relay : Bool) :
    (n.takeRelayOffer f relay).loader = n.loader := by
  unfold Node.takeRelayOffer
  split
  · rfl
  · rw [Node.deliver_loader]
    exact (Node.offer_reported ..).loader

theorem Node.takeRelayOffer_hasConsumer (n : Node) (f : Frame) (relay : Bool) :
    (n.takeRelayOffer f relay).hasConsumer f = n.hasConsumer f := by
  simp [Node.hasConsumer, Node.onPanel, Node.cfg, n.takeRelayOffer_loader f relay]

theorem exec_relayOffer_ends {s : State} {i : Nat} {x : Slot} (hs : s.node.rx.service = some ⟨i, .relayOffer⟩)
    (hx : s.node.rx.slots[i]? = some (some x)) :
    ∃ t, exec .relayOffer s = .next t ∧ t.pending = s.pending ∧
      t.node.tx.queue = (s.node.takeRelayOffer x.frame x.relay).tx.queue ∧
      t.node.tx.drops = (s.node.takeRelayOffer x.frame x.relay).tx.drops ∧
      t.node.tx.rng = (s.node.takeRelayOffer x.frame x.relay).tx.rng ∧
      t.node.relay = (s.node.takeRelayOffer x.frame x.relay).relay ∧
      t.node.link = (s.node.takeRelayOffer x.frame x.relay).link ∧
      (x.use = true → s.node.hasConsumer x.frame = true → t.node.rx.service = some ⟨i, .useDelivery⟩) ∧
      ((x.use = false ∨ s.node.hasConsumer x.frame = false) → t.node.rx.slots[i]? = some none) := by
  have hlt : i < s.node.rx.slots.length := by
    rcases Nat.lt_or_ge i s.node.rx.slots.length with h | h
    · exact h
    · rw [List.getElem?_eq_none h] at hx; cases hx
  refine ⟨_, exec_relayOffer hs hx, rfl, ?_⟩
  simp only [Node.settle_txQueue, Node.settle_txDrops, Node.settle_txRng, (Node.settle_follows _).relay,
    (Node.settle_follows _).link, (Node.settle_follows _).rxService, (Node.settle_follows _).rxSlots,
    Node.takeRelayOffer_hasConsumer, Node.takeRelayOffer_rx, true_and]
  refine ⟨fun hu hc => by simp [hu, hc], fun h => ?_⟩
  rw [if_neg (by rcases h with h | h <;> simp [h])]
  exact Receiver.endService_free hlt

/-! ## The relay's cases -/

section
variable {n : Node} {f : Frame} {relay : Bool}

/-- The copy's entry. -/
def Node.relayEntry (n : Node) (f : Frame) : TxEntry :=
  newEntry n.clock (f.relayed n.cfg.address) false (n.relayTime f) none

theorem Node.takeRelayOffer_taken (hact : n.active = true) (h : n.refusesRelay f relay = false)
    (hcls : f.cls.relayable = true) (hl : n.tx.queue.length < 8)
    (hd : ∀ q ∈ n.tx.queue, ¬(q.frame.hdr.origin = f.hdr.origin ∧ q.frame.hdr.seq = f.hdr.seq)) :
    n.takeRelayOffer f relay = { n.draw with
      tx := n.draw.tx.accept n.clock (f.relayed n.cfg.address) false (n.relayTime f) none
      relay := n.relay.mark f.hdr.origin f.hdr.seq .pending } := by
  have hoffer := n.draw.tx.offer_fresh n.clock (f.relayed n.cfg.address) false (n.relayTime f) none hcls hl
    (fun q hq => (TxEntry.holds_eq_false _ _ _).mpr (hd q hq))
  rw [Node.takeRelayOffer_made hact h hoffer (Node.afterOffer_relay _ _ _)]
  rfl

theorem Node.takeRelayOffer_duplicate (hact : n.active = true) (h : n.refusesRelay f relay = false)
    (hcls : f.cls.relayable = true) {q : TxEntry} (hq : q ∈ n.tx.queue)
    (hsame : q.frame.hdr.origin = f.hdr.origin ∧ q.frame.hdr.seq = f.hdr.seq) :
    n.takeRelayOffer f relay = { n.draw with relay := n.relay.mark f.hdr.origin f.hdr.seq .pending } := by
  have hoffer := n.draw.tx.offer_relay_duplicate n.clock (f.relayed n.cfg.address) (n.relayTime f) none hcls hq
    ((TxEntry.holds_iff _ _ _).mpr hsame)
  rw [Node.takeRelayOffer_made hact h hoffer (Node.afterOffer_relay _ _ _)]
  rfl

theorem Node.takeRelayOffer_dropped (hact : n.active = true) (h : n.refusesRelay f relay = false)
    (hcls : f.cls.relayable = true) (hl : 8 ≤ n.tx.queue.length)
    (hd : ∀ q ∈ n.tx.queue, ¬(q.frame.hdr.origin = f.hdr.origin ∧ q.frame.hdr.seq = f.hdr.seq))
    (hrank : ∀ y ∈ n.tx.queue, y.waits = true → f.cls.rank ≤ y.frame.cls.rank) :
    n.takeRelayOffer f relay = { n.draw with
      tx := { n.draw.tx with drops := countUp n.tx.drops }
      relay := n.relay.mark f.hdr.origin f.hdr.seq .notRelaying } := by
  have hoffer := n.draw.tx.offer_new n.clock (f.relayed n.cfg.address) false (n.relayTime f) none hcls
    (fun q hq => (TxEntry.holds_eq_false _ _ _).mpr (hd q hq))
  rw [n.draw.tx.seat_dropped n.clock (f.relayed n.cfg.address) false (n.relayTime f) none hl
    (evictionIndex_of_none_lower false hrank)] at hoffer
  rw [Node.takeRelayOffer_made hact h hoffer (Node.afterOffer_relay _ _ _)]
  rfl

/-- The transmitter after a relay's eviction. -/
def Node.evictedTx (n : Node) (f : Frame) (queue : List TxEntry) : Transmitter :=
  (n.draw.tx.evicted queue).accept n.clock (f.relayed n.cfg.address) false (n.relayTime f) none

theorem Node.evictedTx_queue (n : Node) (f : Frame) (queue : List TxEntry) (hcls : f.cls.relayable = true) :
    (n.evictedTx f queue).queue = queue ++ [n.relayEntry f] := by
  have hcls' : (f.relayed n.cfg.address).cls.relayable = true := hcls
  unfold Node.evictedTx
  rw [Transmitter.accept_queue, if_pos hcls']
  rfl

theorem Node.evictedTx_drops (n : Node) (f : Frame) (queue : List TxEntry) :
    (n.evictedTx f queue).drops = countUp n.tx.drops := Transmitter.accept_drops ..

variable {a b : List TxEntry} {v : TxEntry}

theorem Node.offer_relay_evicts (hcls : f.cls.relayable = true) (hl : 8 ≤ n.tx.queue.length)
    (hq : n.tx.queue = a ++ v :: b)
    (hd : ∀ q ∈ n.tx.queue, ¬(q.frame.hdr.origin = f.hdr.origin ∧ q.frame.hdr.seq = f.hdr.seq))
    (hv : v.waits = true) (hrank : v.frame.cls.rank < f.cls.rank)
    (ha : ∀ y ∈ a, y.waits = true → v.frame.cls.rank ≤ y.frame.cls.rank)
    (hb : ∀ y ∈ b, y.waits = true → v.frame.cls.rank < y.frame.cls.rank) :
    n.draw.tx.offer n.clock (f.relayed n.cfg.address) false (n.relayTime f) none =
      (n.evictedTx f (a ++ b), .accepted, some v) := by
  rw [n.draw.tx.offer_new n.clock (f.relayed n.cfg.address) false (n.relayTime f) none hcls
    (fun q hq => (TxEntry.holds_eq_false _ _ _).mpr (hd q hq))]
  refine n.draw.tx.seat_evicts _ _ _ _ _ hq hl ?_
  rw [Node.draw_txQueue, hq]
  exact evictionIndex_lowest false hv hrank ha hb

/-- The evicted entry is a relay: it is reported as such (R142). -/
theorem Node.takeRelayOffer_evicts_relay (hact : n.active = true) (h : n.refusesRelay f relay = false)
    (hoffer : n.draw.tx.offer n.clock (f.relayed n.cfg.address) false (n.relayTime f) none =
      (n.evictedTx f (a ++ b), .accepted, some v)) (hown : v.own = false) :
    n.takeRelayOffer f relay = { n.draw with
      tx := n.evictedTx f (a ++ b)
      relay := (n.relay.report v.frame.hdr.origin v.frame.hdr.seq .notRelaying).mark f.hdr.origin f.hdr.seq .pending } := by
  rw [Node.takeRelayOffer_made hact h hoffer (Node.afterOffer_evicts_relay _ _ _ hown)]
  rfl

/-- The evicted entry is the node's own: a relayable one is a miss (R110, R150). -/
theorem Node.takeRelayOffer_evicts_own (hact : n.active = true) (h : n.refusesRelay f relay = false)
    (hoffer : n.draw.tx.offer n.clock (f.relayed n.cfg.address) false (n.relayTime f) none =
      (n.evictedTx f (a ++ b), .accepted, some v)) (hown : v.own = true)
    (hmiss : v.frame.cls.relayable = true → n.link.efc ≤ 119 ∧
      ∀ w ∈ n.relay.watch, w.frame.hdr.seq ≠ v.frame.hdr.seq) :
    n.takeRelayOffer f relay = { n.draw with
      tx := n.evictedTx f (a ++ b)
      relay := n.relay.mark f.hdr.origin f.hdr.seq .pending
      link := if v.frame.cls.relayable then { n.link with efc := n.link.efc + 8 } else n.link } := by
  rw [Node.takeRelayOffer_made hact h hoffer (Node.afterOffer_evicts_own _ _ _ hown)]
  by_cases hr : v.frame.cls.relayable = true
  · obtain ⟨hefc, hwatch⟩ := hmiss hr
    simp only [hr, if_true]
    exact Node.deliver_eviction (n := { n.draw with
      tx := n.evictedTx f (a ++ b), relay := n.draw.relay.mark f.hdr.origin f.hdr.seq .pending }) hefc hwatch
  · simp only [hr, if_false]
    rfl

end

/-! ## The holdoff (R141) -/

theorem reached_later (now : Stamp) {d : Nat} (h : d < 2147483648) : reached now (later now d) = decide (d = 0) := by
  have heq : elapsed now (later now d) = (4294967296 - d) % 4294967296 := by
    unfold elapsed later
    rw [show now - (now + BitVec.ofNat 32 d) = -BitVec.ofNat 32 d by bv_omega, BitVec.toNat_neg, BitVec.toNat_ofNat]
    omega
  unfold reached
  rw [heq]
  by_cases hd : d = 0
  · simp [hd]
  · simp only [hd, decide_false, decide_eq_false_iff_not]; omega

theorem holdoffBase_le (c : FrameClass) : holdoffBase c ≤ 200 := by cases c <;> decide

theorem holdoff_lt (c : FrameClass) (d : BitVec 16) : holdoff c d < 2147483648 := by
  have := holdoffBase_le c
  unfold holdoff ticksOfMs
  omega

theorem Node.relayEntry_state (n : Node) (f : Frame) :
    (n.relayEntry f).state = if holdoff f.cls (rngDraw n.tx.rng) = 0 then .waiting else .holdoff := by
  simp [Node.relayEntry, newEntry, Node.relayTime, reached_later _ (holdoff_lt _ _)]

/-! ## The seen list's marks (R141, R142) -/

/-- A change of the first element that passes leaves the elements that do not. -/
theorem updateFirst_getElem?_not {α : Type} (p : α → Bool) (f : α → α) {xs : List α} {k : Nat} {e : α}
    (h : xs[k]? = some e) (hp : p e = false) : (updateFirst p f xs)[k]? = some e := by
  induction xs generalizing k with
  | nil => cases h
  | cons x xs ih =>
    unfold updateFirst
    cases k with
    | zero =>
      obtain rfl : x = e := by simpa using h
      simp [hp]
    | succ k =>
      split
      · exact h
      · exact ih h

theorem updateFirst_getElem?_first {α : Type} (p : α → Bool) (f : α → α) {xs : List α} {k : Nat} {e : α}
    (h : xs[k]? = some e) (hp : p e = true) (hfirst : ∀ j < k, ∀ y, xs[j]? = some y → p y = false) :
    (updateFirst p f xs)[k]? = some (f e) := by
  obtain ⟨a, b, rfl, rfl⟩ := getElem?_split _ _ _ h
  rw [updateFirst_append p f a b e (fun y hy => ?_) hp]
  · simp
  · obtain ⟨j, hj, rfl⟩ := List.getElem_of_mem hy
    exact hfirst j hj _ (by rw [List.getElem?_append_left hj, List.getElem?_eq_getElem hj])

theorem SeenEntry.holds_iff (e : SeenEntry) (origin seq : Byte) : e.holds origin seq = true ↔
    e.origin = origin ∧ e.seq = seq := by
  simp [SeenEntry.holds]

/-- The first entry of an identity is marked. -/
theorem RelayEngine.mark_first (r : RelayEngine) (st : RelayStatus) {A B : List SeenEntry} {e : SeenEntry}
    (hseen : r.seen = A ++ e :: B) (hfirst : ∀ y ∈ A, ¬(y.origin = e.origin ∧ y.seq = e.seq)) :
    (r.mark e.origin e.seq st).seen[A.length]? = some { e with status := st } := by
  rw [RelayEngine.mark_seen, hseen, updateFirst_append _ _ _ _ _
    (fun y hy => (SeenEntry.holds_eq_false _ _ _).mpr (hfirst y hy)) ((SeenEntry.holds_iff _ _ _).mpr ⟨rfl, rfl⟩)]
  simp

/-- A report on another identity leaves which entry is the first of this one, and the entry. -/
theorem RelayEngine.report_mark_first (r : RelayEngine) (st : RelayStatus) {o q : Byte} {A B : List SeenEntry}
    {e : SeenEntry} (hseen : r.seen = A ++ e :: B) (hfirst : ∀ y ∈ A, ¬(y.origin = e.origin ∧ y.seq = e.seq))
    (hother : ¬(o = e.origin ∧ q = e.seq)) :
    ((r.report o q .notRelaying).mark e.origin e.seq st).seen[A.length]? = some { e with status := st } := by
  have hget : r.seen[A.length]? = some e := by rw [hseen]; simp
  have hkept : (r.report o q .notRelaying).seen[A.length]? = some e := by
    rw [RelayEngine.report_seen]
    refine updateFirst_getElem?_not _ _ hget ?_
    by_cases ho : e.origin = o
    · have hq : e.seq ≠ q := fun hq => hother ⟨ho.symm, hq.symm⟩
      simp [hq]
    · simp [ho]
  refine updateFirst_getElem?_first _ _ hkept ((SeenEntry.holds_iff _ _ _).mpr ⟨rfl, rfl⟩) (fun j hj y hy => ?_)
  have hmap := updateFirst_map (fun x : SeenEntry => x.origin == o && x.seq == q && x.status == .pending)
    (fun x => { x with status := .notRelaying }) (fun x => (x.origin, x.seq)) (fun _ => rfl) r.seen
  have hj' : (r.seen.map (fun x => (x.origin, x.seq)))[j]? = some (y.origin, y.seq) := by
    rw [← hmap, List.getElem?_map]
    exact congrArg (Option.map _) hy
  rw [hseen, List.getElem?_map, List.getElem?_append_left hj, List.getElem?_eq_getElem hj, Option.map_some,
    Option.some.injEq, Prod.mk.injEq] at hj'
  refine (SeenEntry.holds_eq_false _ _ _).mpr (fun hc => hfirst A[j] (List.getElem_mem hj) ?_)
  exact ⟨hj'.1.trans hc.1, hj'.2.trans hc.2⟩

/-- The only entry of an identity, PENDING, is reported; a mark on another identity leaves it. -/
theorem RelayEngine.report_mark_other (r : RelayEngine) (st : RelayStatus) {o q : Byte} {k : Nat} {y : SeenEntry}
    (hy : r.seen[k]? = some y) (hpending : y.status = .pending)
    (honly : ∀ (j : Nat) (z : SeenEntry), r.seen[j]? = some z → z.origin = y.origin → z.seq = y.seq → j = k)
    (hother : ¬(y.origin = o ∧ y.seq = q)) :
    ((r.report y.origin y.seq .notRelaying).mark o q st).seen[k]? = some { y with status := .notRelaying } := by
  have hreport : (r.report y.origin y.seq .notRelaying).seen[k]? = some { y with status := .notRelaying } := by
    rw [RelayEngine.report_seen]
    refine updateFirst_getElem?_first _ _ hy (by simp [hpending]) (fun j hj z hz => ?_)
    by_contra hc
    simp only [Bool.not_eq_false, Bool.and_eq_true, beq_iff_eq] at hc
    exact absurd (honly j z hz hc.1.1 hc.1.2) (by omega)
  exact updateFirst_getElem?_not _ _ hreport ((SeenEntry.holds_eq_false _ _ _).mpr hother)

/-! ## A BEACON offered again (R108) -/

theorem FrameClass.rank_beacon (c : FrameClass) : FrameClass.beacon.rank ≤ c.rank ∧
    (c.rank = FrameClass.beacon.rank → c = .beacon) := by cases c <;> decide

theorem Transmitter.offer_replaces (t : Transmitter) (now : Stamp) (f : Frame) (own : Bool) (earliest : Stamp)
    (attempt : Option Nat) (hf : f.cls.relayable = false) {a b : List TxEntry} {q : TxEntry}
    (hq : t.queue = a ++ q :: b) (hcls : q.frame.cls = f.cls) (hw : q.state = .waiting)
    (hb : ∀ y ∈ b, y.frame.cls = f.cls → y.state ≠ .waiting) :
    t.offer now f own earliest attempt =
      (({ t with queue := a ++ b } : Transmitter).accept now f own earliest attempt, .replaced, none) := by
  have hlast : lastIndexOf (fun e => e.frame.cls == f.cls && e.state == .waiting) t.queue = some a.length := by
    rw [hq]
    refine lastIndexOf_append _ a b q (by simp [hcls, hw]) (fun y hy => ?_)
    by_cases hc : y.frame.cls = f.cls
    · simp [hc, hb y hy hc]
    · simp [hc]
  unfold Transmitter.offer
  rw [if_neg (by simp [hf]), hlast]
  simp [hq]

theorem Transmitter.offer_beacon_dropped (t : Transmitter) (now : Stamp) (f : Frame) (earliest : Stamp)
    (attempt : Option Nat) (hf : f.cls = .beacon) (hl : 8 ≤ t.queue.length)
    (hnone : ∀ q ∈ t.queue, q.frame.cls ≠ .beacon) :
    t.offer now f true earliest attempt = ({ t with drops := countUp t.drops }, .dropped, none) := by
  have hlast : lastIndexOf (fun e => e.frame.cls == f.cls && e.state == .waiting) t.queue = none :=
    (lastIndexOf_eq_none _ _).mpr (fun e he => by simp [hf, hnone e he])
  have hevict : evictionIndex t.queue f.cls.rank true = none := by
    rw [evictionIndex_of_none_lower true (fun y _ _ => by rw [hf]; exact (FrameClass.rank_beacon _).1), if_pos rfl]
    refine (lastIndexOf_eq_none _ _).mpr (fun y hy => ?_)
    have hrank : y.frame.cls.rank ≠ FrameClass.beacon.rank := fun h => hnone y hy ((FrameClass.rank_beacon _).2 h)
    simp [hf, hrank]
  unfold Transmitter.offer
  rw [if_neg (by simp [hf, FrameClass.relayable]), hlast]
  exact t.seat_dropped _ _ _ _ _ hl hevict

/-! ## A resent ALARM (R108, R110, R149) -/

theorem FrameClass.rank_le_alarm (c : FrameClass) : c.rank ≤ FrameClass.alarm.rank := by cases c <;> decide

/-- A retry that the queue accepts, with nothing left to report (R148, R149). -/
theorem Node.retry_accepted {n : Node} {e : WatchEntry} {attempt : Nat} {m : Node}
    (h : n.offer e.frame true n.clock (some attempt) = (m, some .accepted, [])) :
    n.retry e attempt = { m with
      relay := m.relay.rewatch e.frame.hdr.seq (fun w => { w with attempt := attempt, state := .retryQueued }) } := by
  unfold Node.retry
  rw [h]
  rfl

/-- Among waiting ALARMs the newest relay gives up its place to an own ALARM (R110). -/
theorem Transmitter.offer_alarm_evicts (t : Transmitter) (now : Stamp) (f : Frame) (attempt : Option Nat)
    (hf : f.cls = .alarm) (hl : 8 ≤ t.queue.length) {c d : List TxEntry} {v : TxEntry} (hq : t.queue = c ++ v :: d)
    (hd : ∀ q ∈ t.queue, q.holds f.hdr.origin f.hdr.seq = false)
    (hall : ∀ y ∈ t.queue, y.waits = true → y.frame.cls = .alarm) (hv : v.waits = true) (hown : v.own = false)
    (hlater : ∀ y ∈ d, y.waits = true → y.own = true) :
    t.offer now f true now attempt = ((t.evicted (c ++ d)).accept now f true now attempt, .accepted, some v) := by
  have hvcls : v.frame.cls = .alarm := hall v (by rw [hq]; simp) hv
  rw [t.offer_new now f true now attempt (by rw [hf]; rfl) hd]
  refine t.seat_evicts _ _ _ _ _ hq hl ?_
  rw [evictionIndex_of_none_lower true (fun y hy hw => by rw [hall y hy hw, hf]), if_pos rfl, hq]
  refine lastIndexOf_append _ c d v (by simp [hv, hown, hvcls, hf]) (fun y hy => ?_)
  cases hw : y.waits with
  | false => simp
  | true => simp [hlater y hy hw]

/-- An own one-hop entry of the same identity takes a new sequence (R108). -/
theorem Transmitter.offer_resequences (t : Transmitter) (now : Stamp) (f : Frame) (attempt : Option Nat)
    (hf : f.cls.relayable = true) (hl : t.queue.length < 8) {c d : List TxEntry} {v : TxEntry}
    (hq : t.queue = c ++ v :: d) (hc : ∀ q ∈ c, q.holds f.hdr.origin f.hdr.seq = false)
    (hv : v.holds f.hdr.origin f.hdr.seq = true) (hown : v.own = true) (hcls : v.frame.cls.relayable = false)
    (hstate : v.state ≠ .sending) :
    t.offer now f true now attempt =
      ((t.resequence c.length v).accept now f true now attempt, .accepted, none) := by
  have hget : t.queue[c.length]? = some v := by rw [hq]; simp
  have hidentify : t.identify f true = some (t.resequence c.length v) := by
    unfold Transmitter.identify
    rw [hq, indexOf_append _ c d v hc hv, ← hq]
    simp [hget, hcls, hstate]
  unfold Transmitter.offer
  rw [if_pos hf, hidentify]
  refine Transmitter.seat_room _ _ _ _ _ _ ?_
  simpa [Transmitter.resequence] using hl

theorem exec_resendTime {s : State} {a b : List WatchEntry} {w : WatchEntry} {time : Stamp}
    (hw : s.node.relay.watch = a ++ w :: b) (hstate : w.state = .resendWait time)
    (hr : reached s.node.clock time = true) (ha : ∀ y ∈ a, due s.node.clock y.resendAt = false) :
    exec .resendTime s = .next { s with node := (s.node.retry w (min 255 (w.attempt + 1))).settleWoken } := by
  have hfind : s.node.relay.watch.find? (fun e => due s.node.clock e.resendAt) = some w := by
    rw [hw]
    exact find?_append_first _ _ _ _ ha (by simp [WatchEntry.resendAt, hstate, due, hr])
  show execResendTime s = _
  unfold execResendTime
  simp only [hfind]
  rfl

end Sys2Proof.Machine

open Sys2Proof.Machine in
/-- Settles O39: the relay offer, by whether one of the tests of R140 fails. -/
theorem relayOfferQueuesOneHopLess : Obligations.RelayOfferQueuesOneHopLess := by
  unfold Obligations.RelayOfferQueuesOneHopLess
  intro s i x a b e hs hx hact hl hcls hd hseen horigin hseq hfirst relays base delay
  obtain ⟨t, hexec, hpending, hqueue, -, hrng, hrelay, hlink, hserves, hfree⟩ := exec_relayOffer_ends hs hx
  have hmark : ∀ st, (s.node.relay.mark x.frame.hdr.origin x.frame.hdr.seq st).seen = a ++ { e with status := st } :: b := by
    intro st
    rw [RelayEngine.mark_seen, hseen]
    exact updateFirst_append _ _ _ _ _ (fun y hy => (SeenEntry.holds_eq_false _ _ _).mpr (hfirst y hy))
      (by simp [SeenEntry.holds, horigin, hseq])
  have hdelay : holdoff x.frame.cls (rngDraw s.node.tx.rng) = delay := by
    cases hc : x.frame.cls <;> simp [holdoff, ticksOfMs, holdoffBase, delay, base, hc]
  have hconsumer : s.node.hasConsumer x.frame = true ↔ x.frame.cls ≠ .notice ∨ s.node.onPanel = true := by
    simp [Node.hasConsumer]
  have hmade : relays → s.node.takeRelayOffer x.frame x.relay = _ := fun h =>
    Node.takeRelayOffer_taken hact ((s.node.refusesRelay_eq_false _ _).mpr h) hcls hl hd
  have hrefused : ¬relays → s.node.takeRelayOffer x.frame x.relay = _ := fun h =>
    Node.takeRelayOffer_refused (by rw [← Bool.not_eq_false, s.node.refusesRelay_eq_false]; exact h)
  refine ⟨t, hexec, hpending, ?_, ?_, fun h => ?_, fun h => ?_, fun hu hc => hserves hu (hconsumer.mpr hc), fun h => ?_⟩
  · by_cases h : relays
    · rw [hrelay, hmade h]; rfl
    · rw [hrelay, hrefused h]; rfl
  · by_cases h : relays
    · rw [hlink, hmade h]; rfl
    · rw [hlink, hrefused h]
  · rw [hqueue, hrng, hrelay, hmade h]
    refine ⟨⟨s.node.relayEntry x.frame, ?_, rfl, rfl, rfl, ?_, ?_⟩, ?_, hmark _⟩
    · have hcls' : (x.frame.relayed s.node.cfg.address).cls.relayable = true := hcls
      simp [Transmitter.accept_queue, hcls', Node.relayEntry]
    · rw [← hdelay]; rfl
    · rw [Node.relayEntry_state, hdelay]
    · exact (Transmitter.accept_kept ..).rng
  · rw [hqueue, hrng, hrelay, hrefused h]
    exact ⟨rfl, rfl, hmark _⟩
  · refine hfree (h.imp_right (fun hc => ?_))
    rw [← Bool.not_eq_true, hconsumer]
    simp [hc.1, hc.2]

open Sys2Proof.Machine in
/-- Settles O24: the BEACON, the relay and the resent ALARM, each offered to a queue of its case. -/
theorem offersReplaceEvictOrAreDropped : Obligations.OffersReplaceEvictOrAreDropped := by
  unfold Obligations.OffersReplaceEvictOrAreDropped
  refine ⟨fun s hdue hact => ⟨fun a q b hq hcls hw hb => ?_, fun hl hnone => ?_⟩, ?_, ?_⟩
  · have hcls' : s.node.beaconTaken.beaconFrame.cls.relayable = false := rfl
    have hsend : s.node.beaconTaken.sendBeacon = _ := Node.deliver_offer_oneHop (by simpa using hact) hcls'
      (s.node.beaconTaken.tx.offer_replaces _ _ _ _ _ hcls' (by simpa using hq) hcls hw hb)
    have hf := s.node.beaconTaken.sendBeacon.settleWoken_follows
    refine ⟨_, s.node.beaconEntry (Transmitter.oneHopValue { s.node.beaconTaken.tx with queue := a ++ b }),
      exec_beaconDue (.inl hdue), ?_⟩
    simp only [hf.txQueue, hf.txDrops]
    rw [hsend]
    refine ⟨?_, rfl, rfl, rfl, rfl, ?_⟩
    · rw [Transmitter.accept_queue_oneHop (hf := hcls'), newEntry_now]
      simp [Node.beaconEntry]
    · rw [Transmitter.accept_drops]
      exact s.node.beaconTaken_drops
  · have hsend : s.node.beaconTaken.sendBeacon = _ := Node.deliver_single (t := .offer s.node.beaconTaken.beaconFrame none)
      (m := { s.node.beaconTaken with tx := { s.node.beaconTaken.tx with
        drops := countUp s.node.beaconTaken.tx.drops } }) (by
      have hoffer := s.node.beaconTaken.tx.offer_beacon_dropped s.node.beaconTaken.clock s.node.beaconTaken.beaconFrame
        s.node.beaconTaken.clock none rfl (by simpa using hl) (by simpa using hnone)
      have h := Node.offer_eq (by simpa using hact) hoffer
      show ((s.node.beaconTaken.offer _ true _ none).1, (s.node.beaconTaken.offer _ true _ none).2.2) = _
      rw [h]
      rfl)
    have hf := s.node.beaconTaken.sendBeacon.settleWoken_follows
    refine ⟨_, exec_beaconDue (.inl hdue), ?_⟩
    simp only [hf.txQueue, hf.txDrops, hf.txOneHop, hf.link]
    rw [hsend]
    exact ⟨s.node.beaconTaken_queue, s.node.beaconTaken_oneHop, by simp [countUp], s.node.beaconTaken_link⟩
  · intro s i x hs hx hact hcls hrelay horigin hhop hlink hbattery same waits
    have href : s.node.refusesRelay x.frame x.relay = false :=
      (s.node.refusesRelay_eq_false _ _).mpr ⟨hrelay, horigin, hhop, hlink, hbattery⟩
    obtain ⟨t, hexec, hpending, hqueue, hdrops, -, hrelays, hlinks, -, -⟩ := exec_relayOffer_ends hs hx
    refine ⟨t, hexec, hpending, ?_⟩
    rw [hqueue, hdrops, hrelays, hlinks]
    intro marked
    have hcount : ∀ k, countUp k = min 255 (k + 1) := fun _ => rfl
    refine ⟨fun ⟨q, hq, hsame⟩ => ?_, fun hd hl => ⟨fun a v b hq hv hrank ha hb hown => ?_, fun hrank => ?_⟩⟩
    · have hoffer := Node.takeRelayOffer_duplicate hact href hcls hq hsame
      simp only [marked, hoffer]
      refine ⟨rfl, rfl, fun A e B hseen ho hs hfirst => ?_, rfl⟩
      rw [← ho, ← hs] at hfirst ⊢
      exact s.node.relay.mark_first _ hseen hfirst
    · have hvwaits := (TxEntry.waits_iff v).mpr hv
      have hoffer := Node.offer_relay_evicts (f := x.frame) hcls hl hq hd hvwaits hrank
        (fun y hy hw => ha y hy ((TxEntry.waits_iff y).mp hw)) (fun y hy hw => hb y hy ((TxEntry.waits_iff y).mp hw))
      have hvother : ¬(v.frame.hdr.origin = x.frame.hdr.origin ∧ v.frame.hdr.seq = x.frame.hdr.seq) :=
        hd v (by rw [hq]; simp)
      cases ho : v.own with
      | false =>
        have htaken := Node.takeRelayOffer_evicts_relay hact href hoffer ho
        simp only [marked, htaken, Node.evictedTx_queue _ _ _ hcls, Node.evictedTx_drops, hcount]
        refine ⟨⟨_, rfl, rfl, rfl, rfl⟩, trivial, fun A e B hseen horig hseq hfirst => ?_, by simp, fun _ k y hy hyo hys hp honly => ?_⟩
        · rw [← horig, ← hseq] at hfirst hvother ⊢
          exact s.node.relay.report_mark_first _ hseen hfirst hvother
        · rw [← hyo, ← hys] at hvother ⊢
          exact s.node.relay.report_mark_other _ hy hp honly hvother
      | true =>
        have htaken := Node.takeRelayOffer_evicts_own hact href hoffer ho (fun hr => hown ho hr)
        simp only [marked, htaken, Node.evictedTx_queue _ _ _ hcls, Node.evictedTx_drops, hcount]
        refine ⟨⟨_, rfl, rfl, rfl, rfl⟩, trivial, fun A e B hseen horig hseq hfirst => ?_, by simp, fun h => by cases h⟩
        rw [← horig, ← hseq] at hfirst ⊢
        exact s.node.relay.mark_first _ hseen hfirst
    · have hoffer := Node.takeRelayOffer_dropped hact href hcls hl hd
        (fun y hy hw => hrank y hy ((TxEntry.waits_iff y).mp hw))
      simp only [marked, hoffer, hcount]
      refine ⟨rfl, trivial, fun A e B hseen ho hs hfirst => ?_, rfl⟩
      rw [← ho, ← hs] at hfirst ⊢
      exact s.node.relay.mark_first _ hseen hfirst
  · intro s a b w time hact hw hstate hr ha hcls same waits resent
    have hrelayable : w.frame.cls.relayable = true := by rw [hcls]; rfl
    have hf := (s.node.retry w (min 255 (w.attempt + 1))).settleWoken_follows
    refine ⟨_, exec_resendTime hw hstate hr (fun y hy => (ha y hy).2), ?_⟩
    simp only [hf.txQueue, hf.txDrops, hf.link]
    refine ⟨fun hl hd hall c v d hq hv hown hlater => ?_, fun c v d hq hl hsame hothers hown hone hnot => ?_⟩
    · have hoffer := s.node.tx.offer_alarm_evicts s.node.clock w.frame (some (min 255 (w.attempt + 1))) hcls hl hq
        (fun q hq => (TxEntry.holds_eq_false _ _ _).mpr (hd q hq))
        (fun y hy hw => hall y hy ((TxEntry.waits_iff y).mp hw)) ((TxEntry.waits_iff v).mpr hv) hown
        (fun y hy hw => hlater y hy ((TxEntry.waits_iff y).mp hw))
      rw [Node.retry_accepted ((Node.offer_eq hact hoffer).trans
        (by rw [Node.afterOffer_evicts_relay _ _ _ hown]))]
      refine ⟨?_, Transmitter.accept_drops .., rfl⟩
      show (Transmitter.accept _ _ _ _ _ _).queue = _
      rw [Transmitter.accept_queue, if_pos hrelayable, newEntry_now]
      rfl
    · have hoffer := s.node.tx.offer_resequences s.node.clock w.frame (some (min 255 (w.attempt + 1))) hrelayable hl hq
        (fun q hq => (TxEntry.holds_eq_false _ _ _).mpr (hothers q (by simp [hq])))
        ((TxEntry.holds_iff _ _ _).mpr hsame) hown hone hnot
      rw [Node.retry_accepted ((Node.offer_eq hact hoffer).trans
        (by rw [Node.afterOffer_kept _ _ _ (by decide)]))]
      refine ⟨s.node.tx.oneHopValue, fun h => ?_, ?_, ?_⟩
      · exact s.node.tx.oneHopValue_free hl v (by rw [hq]; simp) hown (hsame.2.trans h.symm)
      · show (Transmitter.accept _ _ _ _ _ _).queue = _
        rw [Transmitter.accept_queue, if_pos hrelayable, newEntry_now]
        simp [Transmitter.resequence, hq, resent, Frame.withSeq]
      · exact Transmitter.accept_drops ..
end

section
/-! The seen-list check and the echo watch (R138, R139, R143 to R147), and completed sends (R118). -/

namespace Sys2Proof.Machine

/-! ## The check -/

theorem exec_seenListCheck {s : State} {i : Nat} {x : Slot} (hs : s.node.rx.service = some ⟨i, .seenCheck⟩)
    (hx : s.node.rx.slots[i]? = some (some x)) :
    exec .seenListCheck s = .next { s with node := Node.settle { (s.node.takeCopy x.frame x.arrival).1 with
      rx := if (s.node.takeCopy x.frame x.arrival).2 == .first then
          (s.node.takeCopy x.frame x.arrival).1.rx.goTo i .relayOffer
        else (s.node.takeCopy x.frame x.arrival).1.rx.endService i } } := by
  show execSeenListCheck s = _
  unfold execSeenListCheck
  simp only [Receiver.serving_of hs hx]
  rfl

theorem lt_of_getElem?_some {α : Type} {xs : List α} {i : Nat} {x : α} (h : xs[i]? = some x) : i < xs.length := by
  rcases Nat.lt_or_ge i xs.length with hl | hl
  · exact hl
  · rw [List.getElem?_eq_none hl] at h; cases h

/-- The blocks a check leaves, by the answer to its copy. -/
theorem exec_seenListCheck_ends {s : State} {i : Nat} {x : Slot} {m : Node} {a : SeenAnswer}
    (hs : s.node.rx.service = some ⟨i, .seenCheck⟩) (hx : s.node.rx.slots[i]? = some (some x))
    (h : s.node.takeCopy x.frame x.arrival = (m, a)) (hrx : m.rx = s.node.rx) :
    ∃ t, exec .seenListCheck s = .next t ∧ t.pending = s.pending ∧ t.node.relay = m.relay ∧ t.node.link = m.link ∧
      t.node.peers = m.peers ∧ t.node.tx.queue = m.tx.queue ∧ t.node.tx.drops = m.tx.drops ∧
      t.node.alarm.notices = m.alarm.notices ∧
      (a = .first → t.node.rx.service = some ⟨i, .relayOffer⟩ ∧ t.node.rx.slots = s.node.rx.slots) ∧
      (a ≠ .first → t.node.rx.slots[i]? = some none) := by
  refine ⟨_, exec_seenListCheck hs hx, rfl, ?_⟩
  simp only [h, hrx, Node.settle_txQueue, Node.settle_txDrops, Node.settle_alarmNotices, (Node.settle_follows _).relay,
    (Node.settle_follows _).link, (Node.settle_follows _).peers, (Node.settle_follows _).rxService,
    (Node.settle_follows _).rxSlots, true_and]
  refine ⟨fun ha => by simp [ha], fun ha => ?_⟩
  rw [if_neg (by simpa using ha)]
  exact Receiver.endService_free (lt_of_getElem?_some hx)

/-- The node once a copy is counted in the seen list (R139). -/
def Node.hears (n : Node) (f : Frame) (arrival : Stamp) : Node :=
  { n with relay := n.relay.hear n.cfg.address f arrival }

section
variable {n : Node} {f : Frame} (arrival : Stamp)

theorem RelayEngine.entry_none {r : RelayEngine} {o q : Byte} (h : ∀ e ∈ r.seen, ¬(e.origin = o ∧ e.seq = q)) :
    r.entry o q = none :=
  List.find?_eq_none.mpr (fun e he => by simpa [SeenEntry.holds] using h e he)

theorem RelayEngine.entry_first {r : RelayEngine} {o q : Byte} {a b : List SeenEntry} {e : SeenEntry}
    (hseen : r.seen = a ++ e :: b) (ho : e.origin = o) (hq : e.seq = q)
    (ha : ∀ y ∈ a, ¬(y.origin = o ∧ y.seq = q)) : r.entry o q = some e := by
  unfold RelayEngine.entry
  rw [hseen]
  exact find?_append_first _ _ _ _ (fun y hy => (SeenEntry.holds_eq_false _ _ _).mpr (ha y hy))
    ((SeenEntry.holds_iff _ _ _).mpr ⟨ho, hq⟩)

/-- The copy is no echo of the node's own frame. -/
def Node.notEcho (n : Node) (f : Frame) : Prop := f.hdr.origin ≠ n.cfg.address ∨ f.hdr.sender = n.cfg.address

theorem RelayEngine.answer_of_notEcho {r : RelayEngine} (h : n.notEcho f) : r.answer n.cfg.address f =
    if (r.entry f.hdr.origin f.hdr.seq).isSome then .later else .first := by
  unfold RelayEngine.answer
  rw [if_neg]
  rcases h with h | h
  · simp [h]
  · simp [h]

theorem Node.takeCopy_first (h : n.notEcho f)
    (hnone : ∀ e ∈ n.relay.seen, ¬(e.origin = f.hdr.origin ∧ e.seq = f.hdr.seq)) :
    n.takeCopy f arrival = ({ n with relay := n.relay.enter (newSeen f arrival .none) }, .first) := by
  have hentry := RelayEngine.entry_none hnone
  have hanswer : n.relay.answer n.cfg.address f = .first := by
    rw [RelayEngine.answer_of_notEcho h, hentry]; rfl
  have hhear : n.relay.hear n.cfg.address f arrival = n.relay.enter (newSeen f arrival .none) := by
    simp [RelayEngine.hear, hentry, hanswer]
  simp [Node.takeCopy, hanswer, hhear]

/-- A further copy: it is counted, and may suppress the relay (R139, R143). -/
theorem Node.takeCopy_later (h : n.notEcho f) (hsome : (n.relay.entry f.hdr.origin f.hdr.seq).isSome = true) :
    n.takeCopy f arrival = ((n.hears f arrival).suppress f.hdr.origin f.hdr.seq, .later) := by
  have hanswer : n.relay.answer n.cfg.address f = .later := by
    rw [RelayEngine.answer_of_notEcho h, if_pos hsome]
  simp [Node.takeCopy, hanswer, Node.hears]

/-- A copy of the node's own frame from another sender is an echo (R139, R146). -/
theorem Node.takeCopy_echo (ho : f.hdr.origin = n.cfg.address) (hs : f.hdr.sender ≠ n.cfg.address) :
    n.takeCopy f arrival = ((n.hears f arrival).takeEcho f.hdr.seq, .echo) := by
  have hanswer : n.relay.answer n.cfg.address f = .echo := by
    simp [RelayEngine.answer, ho, hs]
  simp [Node.takeCopy, hanswer, Node.hears]

theorem RelayEngine.hear_seen {r : RelayEngine} {own : Byte} {a b : List SeenEntry} {e : SeenEntry}
    (hseen : r.seen = a ++ e :: b) (ho : e.origin = f.hdr.origin) (hq : e.seq = f.hdr.seq)
    (ha : ∀ y ∈ a, ¬(y.origin = f.hdr.origin ∧ y.seq = f.hdr.seq)) :
    r.hear own f arrival = { r with seen := a ++ e.again :: b } := by
  unfold RelayEngine.hear
  rw [RelayEngine.entry_first hseen ho hq ha, if_pos Option.isSome_some, hseen,
    updateFirst_append _ _ _ _ _ (fun y hy => (SeenEntry.holds_eq_false _ _ _).mpr (ha y hy))
      ((SeenEntry.holds_iff _ _ _).mpr ⟨ho, hq⟩)]

@[simp] theorem RelayEngine.hear_watch (r : RelayEngine) (own : Byte) (f : Frame) (arrival : Stamp) :
    (r.hear own f arrival).watch = r.watch := by
  unfold RelayEngine.hear
  split
  · rfl
  · split <;> rfl

end

/-! ## Suppression (R143) -/

/-- The first queue entry of an identity is withdrawn where it waits; the relay is CANCELLED but where it comes too
late (R111, R143). -/
theorem Node.suppress_of {n : Node} {o q : Byte} (e : SeenEntry) (he : n.relay.entry o q = some e)
    (hs : e.suppressible n.cfg.suppress = true) : n.suppress o q =
      if (n.tx.withdraw o q).2 == .tooLate then n
      else { n with tx := (n.tx.withdraw o q).1, relay := n.relay.mark o q .cancelled } := by
  unfold Node.suppress
  rw [he, if_pos (by simpa using hs)]

theorem Node.suppress_not {n : Node} {o q : Byte} (e : SeenEntry) (he : n.relay.entry o q = some e)
    (hs : e.suppressible n.cfg.suppress = false) : n.suppress o q = n := by
  unfold Node.suppress
  rw [he, if_neg (by simpa using hs)]

theorem Transmitter.withdraw_absent (t : Transmitter) (o q : Byte) (h : ∀ e ∈ t.queue, e.holds o q = false) :
    t.withdraw o q = (t, .absent) := by
  unfold Transmitter.withdraw
  rw [indexOf_none _ _ h]

theorem Node.suppress_blocks (n : Node) (o q : Byte) : (n.suppress o q).rx = n.rx ∧ (n.suppress o q).link = n.link ∧
    (n.suppress o q).peers = n.peers ∧ (n.suppress o q).relay.watch = n.relay.watch ∧
    (n.suppress o q).tx.drops = n.tx.drops := by
  have hdrops : (n.tx.withdraw o q).1.drops = n.tx.drops := by
    unfold Transmitter.withdraw
    split
    · rfl
    · split
      · rfl
      · split <;> rfl
  unfold Node.suppress
  split
  · simp only []
    split
    · exact ⟨rfl, rfl, rfl, rfl, rfl⟩
    · exact ⟨rfl, rfl, rfl, rfl, hdrops⟩
  · exact ⟨rfl, rfl, rfl, rfl, rfl⟩

theorem TxEntry.waits_eq_false_of {e : TxEntry} (h : e.state = .contending ∨ e.state = .sending) : e.waits = false := by
  rcases h with h | h <;> simp [TxEntry.waits, h]

/-! ## An echo (R146, R147) -/

theorem RelayEngine.watchOf_none {r : RelayEngine} {q : Byte} (h : ∀ y ∈ r.watch, y.frame.hdr.seq ≠ q) :
    r.watchOf q = none :=
  List.find?_eq_none.mpr (fun y hy => by simpa [WatchEntry.hasSeq] using h y hy)

theorem WatchEntry.hasSeq_eq_false {w : WatchEntry} {q : Byte} (h : w.frame.hdr.seq ≠ q) : w.hasSeq q = false := by
  simpa [WatchEntry.hasSeq] using h

theorem WatchEntry.hasSeq_of {w : WatchEntry} {q : Byte} (h : w.frame.hdr.seq = q) : w.hasSeq q = true := by
  simpa [WatchEntry.hasSeq] using h

theorem RelayEngine.watchOf_first {r : RelayEngine} {q : Byte} {a b : List WatchEntry} {w : WatchEntry}
    (hw : r.watch = a ++ w :: b) (hq : w.frame.hdr.seq = q) (ha : ∀ y ∈ a, y.frame.hdr.seq ≠ q) :
    r.watchOf q = some w := by
  unfold RelayEngine.watchOf
  rw [hw]
  exact find?_append_first _ _ _ _ (fun y hy => WatchEntry.hasSeq_eq_false (ha y hy)) (WatchEntry.hasSeq_of hq)

theorem RelayEngine.unwatch_first {r : RelayEngine} {q : Byte} {a b : List WatchEntry} {w : WatchEntry}
    (hw : r.watch = a ++ w :: b) (hq : w.frame.hdr.seq = q) (ha : ∀ y ∈ a, y.frame.hdr.seq ≠ q) :
    (r.unwatch q).watch = a ++ b := by
  rw [RelayEngine.unwatch_watch, hw]
  exact removeFirst_append _ _ _ _ (fun y hy => WatchEntry.hasSeq_eq_false (ha y hy)) (WatchEntry.hasSeq_of hq)

theorem RelayEngine.rewatch_first {r : RelayEngine} {q : Byte} (g : WatchEntry → WatchEntry) {a b : List WatchEntry}
    {w : WatchEntry} (hw : r.watch = a ++ w :: b) (hq : w.frame.hdr.seq = q) (ha : ∀ y ∈ a, y.frame.hdr.seq ≠ q) :
    (r.rewatch q g).watch = a ++ g w :: b := by
  rw [RelayEngine.rewatch_watch, hw]
  exact updateFirst_append _ _ _ _ _ (fun y hy => WatchEntry.hasSeq_eq_false (ha y hy)) (WatchEntry.hasSeq_of hq)

/-- A success that leaves the link state changes EFC only (R152). -/
theorem Node.deliver_success {n : Node} (h : n.link.efc ≤ 127) :
    n.deliver [.echo true] = { n with link := { n.link with efc := n.link.efc - 1 } } := by
  have hafter : n.link.afterEcho true = { n.link with efc := n.link.efc - 1 } := by
    have hle : n.link.efc ≤ 255 := by omega
    simp [Link.afterEcho, hle]
  refine Node.deliver_single ?_
  show n.setLink (n.link.afterEcho true) = _
  rw [hafter]
  refine Node.setLink_same ?_
  rw [Link.state_of_low (l := n.link) (by omega),
    Link.state_of_low (l := { n.link with efc := n.link.efc - 1 }) (by simp only []; omega)]

section
variable {n : Node} {q : Byte} {w : WatchEntry}

theorem Node.takeEcho_unwatched (h : n.relay.watchOf q = none) : n.takeEcho q = n := by
  unfold Node.takeEcho; rw [h]

theorem Node.takeEcho_echoed (h : n.relay.watchOf q = some w) (hs : w.state = .echoed) : n.takeEcho q = n := by
  unfold Node.takeEcho; rw [h]; simp only [hs]

theorem Node.takeEcho_open (h : n.relay.watchOf q = some w)
    (hs : ∃ time, w.state = .window time ∨ w.state = .resendWait time) :
    n.takeEcho q = Node.deliver { n with relay := n.relay.unwatch q } [.echo true] := by
  unfold Node.takeEcho
  obtain ⟨time, hs | hs⟩ := hs
  · rw [h]; simp only [hs]
  · rw [h]; simp only [hs]

theorem Node.takeEcho_retry (h : n.relay.watchOf q = some w) (hs : w.state = .retryQueued) :
    n.takeEcho q = Node.deliver { n with
      tx := (n.tx.withdraw n.cfg.address q).1
      relay := if (n.tx.withdraw n.cfg.address q).2 == .tooLate then
          n.relay.rewatch q (fun w => { w with state := .echoed })
        else n.relay.unwatch q } [.echo true] := by
  unfold Node.takeEcho
  rw [h]
  simp only [hs]

end

/-! ## Completed sends (R118) -/

/-- The engine after a settling: as it was, or DEFERRED to the carrier (R113). -/
theorem Node.settle_engine_cases (n : Node) : n.settle.tx.engine = n.tx.engine ∨
    ((n.tx.engine = .gap ∨ n.tx.engine = .wait) ∧ n.settle.tx.engine = .deferred) := by
  have hpowered : n.poweredNode.tx.engine = n.tx.engine := by
    have hpower : ∀ m : Node, m.settlePower.tx.engine = m.tx.engine := by
      intro m
      unfold Node.settlePower
      simp only []
      split
      · split <;> rfl
      · split <;> rfl
      · rfl
    rw [Node.poweredNode, hpower, Node.settleInterval_tx]
  rw [n.settle_tx]
  unfold Node.deferToCarrier
  split
  · next h =>
    simp only [Bool.and_eq_true, Bool.or_eq_true, beq_iff_eq, Node.switchRx_engine, hpowered] at h
    exact .inr ⟨h.1.1, rfl⟩
  · exact .inl (by rw [Node.switchRx_engine, hpowered])

/-- A clear of RADIO, which is never framed, touches neither the queue nor the Relay Engine nor the link (R84). -/
theorem Node.deliver_clear_radio (n : Node) : (n.deliver [.clear .radio none]).tx = n.tx ∧
    (n.deliver [.clear .radio none]).relay = n.relay ∧ (n.deliver [.clear .radio none]).link = n.link := by
  have hrun : ∃ m : Node, Task.run n (.clear .radio none) = (m, []) ∧ m.tx = n.tx ∧ m.relay = n.relay ∧
      m.link = n.link := by
    show ∃ m : Node, n.clear .radio none = (m, []) ∧ _
    unfold Node.clear
    split
    · exact ⟨n, rfl, rfl, rfl, rfl⟩
    · refine ⟨n.dropNotice .radio none, rfl, by simp, by simp, ?_⟩
      unfold Node.dropNotice
      split
      · rw [Node.record_eq]
      · rfl
  obtain ⟨m, hm, htx, hrelay, hlink⟩ := hrun
  rw [Node.deliver_single hm]
  exact ⟨htx, hrelay, hlink⟩

theorem Node.handOn_blocks (n : Node) (e : TxEntry) : (n.handOn e).tx = n.tx ∧ (n.handOn e).link = n.link := by
  unfold Node.handOn
  split
  · split <;> exact ⟨rfl, rfl⟩
  · exact ⟨rfl, rfl⟩

theorem Node.resumeListen_blocks (n : Node) : n.resumeListen.tx = n.tx ∧ n.resumeListen.relay = n.relay ∧
    n.resumeListen.link = n.link := by
  unfold Node.resumeListen Node.beginHunt
  split
  · split <;> exact ⟨rfl, rfl, rfl⟩
  · exact ⟨rfl, rfl, rfl⟩

/-- The completed send of the oldest SENDING entry (R118). -/
theorem exec_sendComplete_ends {s : State} {older rest : List TxEntry} {e : TxEntry}
    (hengine : s.node.tx.engine = .sending) (hq : s.node.tx.queue = older ++ e :: rest) (he : e.state = .sending)
    (hfirst : ∀ x ∈ older, x.state ≠ .sending) :
    ∃ t, exec .sendComplete s = .next t ∧ t.pending = s.pending ∧ t.node.tx.queue = older ++ rest ∧
      t.node.tx.onAir = none ∧ t.node.tx.radioFault = false ∧ t.node.link = s.node.link ∧
      t.node.relay = (s.node.handOn e).relay ∧
      ((∃ x ∈ older ++ rest, x.state = .waiting) → t.node.tx.engine = .gap ∨ t.node.tx.engine = .deferred) ∧
      ((∀ x ∈ older ++ rest, x.state ≠ .waiting) → t.node.tx.engine = .idle ∧ t.node.tx.synth = .stopped) := by
  let m : Node := Node.handOn { s.node with tx := s.node.tx.sent older.length } e
  have hindex : indexOf (fun x : TxEntry => x.state == .sending) s.node.tx.queue = some older.length := by
    rw [hq]
    exact indexOf_append _ _ _ _ (fun y hy => by simpa using hfirst y hy) (by simp [he])
  have hget : s.node.tx.queue[older.length]? = some e := by rw [hq]; simp
  have hcomplete : s.node.completeSend =
      m.deliver (if s.node.tx.radioFault then [.clear .radio none] else []) := by
    unfold Node.completeSend
    simp only [hindex, hget]
    rfl
  have hblocks : s.node.completeSend.tx = s.node.tx.sent older.length ∧
      s.node.completeSend.relay = (s.node.handOn e).relay ∧ s.node.completeSend.link = s.node.link := by
    have hm : m.tx = s.node.tx.sent older.length ∧ m.relay = (s.node.handOn e).relay ∧ m.link = s.node.link := by
      refine ⟨(Node.handOn_blocks _ e).1, ?_, (Node.handOn_blocks _ e).2⟩
      show (Node.handOn _ e).relay = _
      unfold Node.handOn
      split
      · split <;> rfl
      · rfl
    rw [hcomplete]
    split
    · obtain ⟨htx, hrelay, hlink⟩ := m.deliver_clear_radio
      rw [htx, hrelay, hlink]
      exact hm
    · exact hm
  obtain ⟨htx, hrelay, hlink⟩ := hblocks
  obtain ⟨htx', hrelay', hlink'⟩ := s.node.completeSend.resumeListen_blocks
  have hexec : exec .sendComplete s = .next { s with node := s.node.completeSend.resumeListen.settle } := by
    show execSendComplete s = _
    simp [execSendComplete, hengine, State.go]
  have hf := s.node.completeSend.resumeListen.settle_follows
  have hqueue : (s.node.tx.sent older.length).queue = older ++ rest := by
    rw [(s.node.tx.sent_kept older.length).1, hq]; simp
  have hfields : (s.node.tx.sent older.length).onAir = none ∧ (s.node.tx.sent older.length).radioFault = false := by
    unfold Transmitter.sent
    simp only []
    split <;> exact ⟨rfl, rfl⟩
  refine ⟨_, hexec, rfl, ?_⟩
  simp only [hf.txQueue, hf.txOnAir, hf.txRadioFault, hf.link, hf.relay, hf.txSynth, htx', hrelay', hlink', htx, hrelay,
    hlink, hqueue, hfields.1, hfields.2, true_and]
  refine ⟨fun hany => ?_, fun hnone => ?_⟩
  · have hwaiting : (s.node.tx.sent older.length).engine = .gap := by
      have hany' : Transmitter.anyWaiting { s.node.tx with
          queue := removeAt s.node.tx.queue older.length, onAir := none, radioFault := false } = true := by
        obtain ⟨x, hx, hw⟩ := hany
        simp only [Transmitter.anyWaiting, hq, removeAt_append]
        exact List.any_eq_true.mpr ⟨x, hx, by simp [hw]⟩
      unfold Transmitter.sent
      simp only [hany', if_true]
    rcases s.node.completeSend.resumeListen.settle_engine_cases with h | ⟨-, h⟩
    · rw [htx', htx, hwaiting] at h; exact .inl h
    · exact .inr h
  · have hidle : (s.node.tx.sent older.length).engine = .idle ∧ (s.node.tx.sent older.length).synth = .stopped := by
      have hnone' : Transmitter.anyWaiting { s.node.tx with
          queue := removeAt s.node.tx.queue older.length, onAir := none, radioFault := false } = false := by
        simp only [Transmitter.anyWaiting, hq, removeAt_append]
        exact List.any_eq_false.mpr (fun x hx => by simpa using hnone x hx)
      unfold Transmitter.sent
      simp only [hnone', Bool.false_eq_true, if_false]
      exact ⟨rfl, rfl⟩
    refine ⟨?_, hidle.2⟩
    rcases s.node.completeSend.resumeListen.settle_engine_cases with h | ⟨h, -⟩
    · rw [htx', htx, hidle.1] at h; exact h
    · rw [htx', htx, hidle.1] at h
      rcases h with h | h <;> cases h

end Sys2Proof.Machine

open Sys2Proof.Machine in
/-- Settles O29: the completed send, by the watch of its sequence. -/
theorem sendCompleteHandsOn : Obligations.SendCompleteHandsOn := by
  unfold Obligations.SendCompleteHandsOn
  intro s older rest e hengine hq he hfirst opened
  obtain ⟨t, hexec, hpending, hqueue, hair, hfault, hlink, hrelay, hwaiting, hidle⟩ :=
    exec_sendComplete_ends hengine hq he hfirst
  refine ⟨t, hexec, hpending, hqueue, hair, hfault, hlink, hwaiting, hidle, ?_⟩
  rw [hrelay]
  have hown : e.own = true → e.frame.cls.relayable = true →
      (s.node.handOn e).relay = s.node.relay.complete s.node.clock e.frame (e.attempt.getD 1) := by
    intro ho hr
    simp [Node.handOn, ho, hr]
  refine ⟨fun ho hr hnew hl => ?_, fun ho hr hnew hl => ⟨fun a w b hw hn ha => ?_, fun hn => ?_⟩,
    fun ho hr a w b hw hseq hstate ha => ?_, fun ho hr => ?_, fun ho => ?_⟩
  · rw [hown ho hr, RelayEngine.complete, RelayEngine.watchOf_none hnew]
    simp only [RelayEngine.openWatch, if_pos hl]
    rfl
  · rw [hown ho hr, RelayEngine.complete, RelayEngine.watchOf_none hnew]
    have hindex : indexOf (fun e : WatchEntry => e.frame.cls == .notice) s.node.relay.watch = some a.length := by
      rw [hw]
      exact indexOf_append _ _ _ _ (fun y hy => by simpa using ha y hy) (by simp [hn])
    simp only [RelayEngine.openWatch, if_neg (Nat.not_lt.mpr hl), hindex]
    rw [hw, removeAt_append]
    rfl
  · rw [hown ho hr, RelayEngine.complete, RelayEngine.watchOf_none hnew]
    have hindex : indexOf (fun e : WatchEntry => e.frame.cls == .notice) s.node.relay.watch = none :=
      indexOf_none _ _ (fun y hy => by simpa using hn y hy)
    simp only [RelayEngine.openWatch, if_neg (Nat.not_lt.mpr hl), hindex]
  · rw [hown ho hr, RelayEngine.complete, RelayEngine.watchOf_first hw hseq ha]
    simp only [hstate]
    exact congrArg (fun l => { s.node.relay with watch := l }) (RelayEngine.rewatch_first _ hw hseq ha)
  · simp [Node.handOn, ho, hr]
  · have hreport : (s.node.handOn e).relay =
        s.node.relay.report e.frame.hdr.origin e.frame.hdr.seq .sent := by simp [Node.handOn, ho]
    rw [hreport]
    refine ⟨rfl, fun a x b hseen hor hsq hp ha => ?_⟩
    rw [RelayEngine.report_seen, hseen]
    refine updateFirst_append _ _ _ _ _ (fun y hy => ?_) (by simp [hor, hsq, hp])
    rw [← Bool.not_eq_true]
    simpa [and_assoc] using ha y hy

open Sys2Proof.Machine in
/-- Settles O36: a copy that is no echo, by the seen list's entry of its identity. -/
theorem copiesAreCountedAndSuppress : Obligations.CopiesAreCountedAndSuppress := by
  unfold Obligations.CopiesAreCountedAndSuppress
  refine ⟨?_, fun s a b e hseen hr ha => ?_⟩
  · intro s i x hs hx hecho holds
    by_cases hnone : ∀ e ∈ s.node.relay.seen, ¬(e.origin = x.frame.hdr.origin ∧ e.seq = x.frame.hdr.seq)
    · obtain ⟨t, hexec, hpending, hrelay, hlink, hpeers, hqueue, hdrops, -, hfirst, -⟩ :=
        exec_seenListCheck_ends hs hx (Node.takeCopy_first x.arrival hecho hnone) rfl
      obtain ⟨hservice, hslots⟩ := hfirst rfl
      refine ⟨t, hexec, hpending, by rw [hrelay]; rfl, hlink, hpeers, hdrops, fun _ => ⟨?_, hservice, hslots, hqueue⟩,
        fun a e b hseen ho hq _ => absurd ⟨ho, hq⟩ (hnone e (by rw [hseen]; simp))⟩
      rw [hrelay, RelayEngine.enter_seen]
      by_cases hl : s.node.relay.seen.length < 24
      · rw [if_neg (by omega), if_pos hl]; rfl
      · rw [if_pos (by omega), if_neg hl]; rfl
    · have hsome : (s.node.relay.entry x.frame.hdr.origin x.frame.hdr.seq).isSome = true := by
        obtain ⟨e, he⟩ := not_forall.mp hnone
        obtain ⟨hm, hid⟩ := Classical.not_imp.mp he
        exact List.find?_isSome.mpr ⟨e, hm, (SeenEntry.holds_iff _ _ _).mpr (not_not.mp hid)⟩
      let m := s.node.hears x.frame x.arrival
      obtain ⟨hrx, hl, hp, hw, hd⟩ := m.suppress_blocks x.frame.hdr.origin x.frame.hdr.seq
      obtain ⟨t, hexec, hpending, hrelay, hlink, hpeers, hqueue, hdrops, -, -, hfree⟩ :=
        exec_seenListCheck_ends hs hx (Node.takeCopy_later x.arrival hecho hsome) hrx
      refine ⟨t, hexec, hpending, ?_, hlink.trans hl, hpeers.trans hp, hdrops.trans hd, fun h => absurd h hnone,
        fun a e b hseen ho hq ha => ⟨hfree (by decide), ?_⟩⟩
      · rw [hrelay, hw]; exact RelayEngine.hear_watch _ _ _ _
      · have hheard : m.relay = { s.node.relay with seen := a ++ e.again :: b } := RelayEngine.hear_seen _ hseen ho hq ha
        have hentry : m.relay.entry x.frame.hdr.origin x.frame.hdr.seq = some e.again :=
          RelayEngine.entry_first (by rw [hheard]) ho hq ha
        have hmark : (m.relay.mark x.frame.hdr.origin x.frame.hdr.seq .cancelled).seen =
            a ++ { e.again with status := .cancelled } :: b := by
          rw [RelayEngine.mark_seen, hheard]
          exact updateFirst_append _ _ _ _ _ (fun y hy => (SeenEntry.holds_eq_false _ _ _).mpr (ha y hy))
            ((SeenEntry.holds_iff _ _ _).mpr ⟨ho, hq⟩)
        have hsup : e.again.suppressible s.node.cfg.suppress = true ↔ e.status = .pending ∧ e.cls ≠ .alarm ∧
            s.node.cfg.suppress ≠ 0 ∧ s.node.cfg.suppress ≤ min 15 (e.copies + 1) := by
          simp only [SeenEntry.suppressible, SeenEntry.again, Bool.and_eq_true, beq_iff_eq, bne_iff_ne]
          exact ⟨fun ⟨⟨⟨h1, h2⟩, h3⟩, h4⟩ => ⟨h2, h3, h4, of_decide_eq_true h1⟩,
            fun ⟨h2, h3, h4, h1⟩ => ⟨⟨⟨decide_eq_true h1, h2⟩, h3⟩, h4⟩⟩
        refine ⟨fun h => ?_, fun h => ⟨fun habsent => ?_, fun c q d hqueue' hq' hc => ⟨fun hw => ?_, fun hw => ?_⟩⟩⟩
        · have hno := Node.suppress_not (n := m) _ hentry (by rw [← Bool.not_eq_true]; exact fun hc => h (hsup.mp hc))
          rw [hrelay, hqueue, hno]
          exact ⟨congrArg RelayEngine.seen hheard, rfl⟩
        · have hyes := Node.suppress_of (n := m) _ hentry (hsup.mpr h)
          rw [m.tx.withdraw_absent _ _ (fun q hq => (TxEntry.holds_eq_false _ _ _).mpr (habsent q hq))] at hyes
          rw [hrelay, hqueue, hyes]
          exact ⟨hmark, rfl⟩
        · have hyes := Node.suppress_of (n := m) _ hentry (hsup.mpr h)
          rw [m.tx.withdraw_waiting _ _ c d q hqueue' (fun y hy => (TxEntry.holds_eq_false _ _ _).mpr (hc y hy))
            ((TxEntry.holds_iff _ _ _).mpr hq') ((TxEntry.waits_iff q).mpr hw)] at hyes
          rw [hrelay, hqueue, hyes]
          exact ⟨hmark, rfl⟩
        · have hyes := Node.suppress_of (n := m) _ hentry (hsup.mpr h)
          rw [m.tx.withdraw_late _ _ c d q hqueue' (fun y hy => (TxEntry.holds_eq_false _ _ _).mpr (hc y hy))
            ((TxEntry.holds_iff _ _ _).mpr hq') (TxEntry.waits_eq_false_of hw)] at hyes
          rw [hrelay, hqueue, hyes]
          exact ⟨congrArg RelayEngine.seen hheard, rfl⟩
  · show execSeenEntryExpiry s = _
    unfold execSeenEntryExpiry
    simp only [hseen]
    rw [removeFirst_append (fun e : SeenEntry => reached s.node.clock e.expiry) a b e (fun y hy => ha y hy) hr]
    rfl

open Sys2Proof.Machine in
/-- Settles O37: an echo, by the oldest watch of its sequence, and the completed retry that was echoed. -/
theorem echoClosesWatch : Obligations.EchoClosesWatch := by
  unfold Obligations.EchoClosesWatch
  refine ⟨?_, fun s older rest e a b w hengine hq he hfirst ho hr hw hseq hstate ha _ => ?_⟩
  · intro s i x hs hx horigin hsender holds
    let m := s.node.hears x.frame x.arrival
    have hwatch : m.relay.watch = s.node.relay.watch := RelayEngine.hear_watch _ _ _ _
    obtain ⟨t, hexec, hpending, hrelay, hlink, -, hqueue, -, -, -, hfree⟩ :=
      exec_seenListCheck_ends hs hx (Node.takeCopy_echo x.arrival horigin hsender) (m.takeEcho_acts _).rx
    refine ⟨t, hexec, hpending, hfree (by decide), ?_⟩
    rw [hrelay, hlink, hqueue]
    intro same success
    refine ⟨fun hnone => ?_, fun a w b hw hseq ha => ?_⟩
    · have hof : m.relay.watchOf x.frame.hdr.seq = none := RelayEngine.watchOf_none (by rw [hwatch]; exact hnone)
      simp only [same]
      rw [Node.takeEcho_unwatched hof]
      exact ⟨hwatch, rfl, rfl⟩
    · have hw' : m.relay.watch = a ++ w :: b := hwatch.trans hw
      have hof := RelayEngine.watchOf_first hw' hseq ha
      have hclosed := RelayEngine.unwatch_first hw' hseq ha
      refine ⟨fun hstate => ?_, fun hefc => ⟨fun hstate => ?_, fun hstate => ⟨fun habsent => ?_,
        fun c q d hqueue' hq' hc => ⟨fun hwaits => ?_, fun hactive => ?_⟩⟩⟩⟩
      · simp only [same]
        rw [Node.takeEcho_echoed hof hstate]
        exact ⟨hwatch, rfl, rfl⟩
      · simp only [success]
        rw [Node.takeEcho_open hof hstate, Node.deliver_success (by exact hefc)]
        exact ⟨hclosed, rfl, rfl⟩
      · simp only [success]
        rw [Node.takeEcho_retry hof hstate, m.tx.withdraw_absent m.cfg.address x.frame.hdr.seq
          (fun q hq => (TxEntry.holds_eq_false _ _ _).mpr (habsent q hq)), Node.deliver_success (by exact hefc)]
        exact ⟨hclosed, rfl, rfl⟩
      · simp only [success]
        rw [Node.takeEcho_retry hof hstate, m.tx.withdraw_waiting m.cfg.address x.frame.hdr.seq c d q hqueue'
          (fun y hy => (TxEntry.holds_eq_false _ _ _).mpr (hc y hy)) ((TxEntry.holds_iff _ _ _).mpr hq')
          ((TxEntry.waits_iff q).mpr hwaits), Node.deliver_success (by exact hefc)]
        exact ⟨hclosed, rfl, rfl⟩
      · simp only [success]
        rw [Node.takeEcho_retry hof hstate, m.tx.withdraw_late m.cfg.address x.frame.hdr.seq c d q hqueue'
          (fun y hy => (TxEntry.holds_eq_false _ _ _).mpr (hc y hy)) ((TxEntry.holds_iff _ _ _).mpr hq')
          (TxEntry.waits_eq_false_of hactive), Node.deliver_success (by exact hefc)]
        exact ⟨RelayEngine.rewatch_first _ hw' hseq ha, rfl, rfl⟩
  · obtain ⟨t, hexec, -, hqueue, -, -, hlink, hrelay, -, -⟩ := exec_sendComplete_ends hengine hq he hfirst
    refine ⟨t, hexec, ?_, hqueue, hlink⟩
    have hcomplete : (s.node.handOn e).relay = s.node.relay.complete s.node.clock e.frame (e.attempt.getD 1) := by
      simp [Node.handOn, ho, hr]
    rw [hrelay, hcomplete, RelayEngine.complete, RelayEngine.watchOf_first hw hseq ha]
    simp only [hstate]
    exact congrArg (fun l => { s.node.relay with watch := l }) (RelayEngine.unwatch_first hw hseq ha)
end

section
/-! Misses, retries and the changes of link state (R148 to R150, R152 to R157). -/

namespace Sys2Proof.Machine

/-! ## The expiry of a window -/

theorem exec_echoWindowExpiry {s : State} {a b : List WatchEntry} {w : WatchEntry} {expiry : Stamp}
    (hw : s.node.relay.watch = a ++ w :: b) (hstate : w.state = .window expiry)
    (hr : reached s.node.clock expiry = true) (ha : ∀ y ∈ a, due s.node.clock y.windowEnd = false) :
    exec .echoWindowExpiry s = .next { s with node := (s.node.missEcho w expiry).settleWoken } := by
  have hend : w.windowEnd = some expiry := by simp [WatchEntry.windowEnd, hstate]
  have hfind : s.node.relay.watch.find? (fun e => due s.node.clock e.windowEnd) = some w := by
    rw [hw]
    exact find?_append_first _ _ _ _ ha (by simp [hend, due, hr])
  show execEchoWindowExpiry s = _
  unfold execEchoWindowExpiry
  simp only [hfind, hend]
  rfl

/-- An ALARM's miss that finds, or leaves, the node ISOLATED waits to be resent (R148). -/
theorem Node.missEcho_waits {n m : Node} {w : WatchEntry} {expiry : Stamp} (hm : n.deliver [.echo false] = m)
    (hcls : w.frame.cls = .alarm) (hstate : m.link.state = .isolated) :
    n.missEcho w expiry = { m with
      relay := m.relay.rewatch w.frame.hdr.seq (fun e => { e with state := .resendWait (later expiry 30720) }) } := by
  simp [Node.missEcho, hm, hcls, hstate]

theorem Node.missEcho_retries {n m : Node} {w : WatchEntry} (expiry : Stamp) (hm : n.deliver [.echo false] = m)
    (hstate : m.link.state ≠ .isolated) (hl : w.attempt < 4) : n.missEcho w expiry = m.retry w (w.attempt + 1) := by
  simp [Node.missEcho, hm, hstate, hl]

theorem Node.missEcho_gives_up {n m : Node} {w : WatchEntry} (expiry : Stamp) (hm : n.deliver [.echo false] = m)
    (hstate : m.link.state ≠ .isolated) (hl : 4 ≤ w.attempt) :
    n.missEcho w expiry =
      Node.deliver { m with relay := m.relay.unwatch w.frame.hdr.seq } (noPathTasks w.frame) := by
  have hnot : ¬w.attempt < 4 := by omega
  simp [Node.missEcho, hm, hstate, hnot]

/-- A retry offered to an empty queue (R107, R148, R149). -/
theorem Node.retry_empty {n : Node} {w : WatchEntry} {attempt : Nat} (hact : n.active = true) (hq : n.tx.queue = [])
    (hcls : w.frame.cls.relayable = true) {a b : List WatchEntry} (hw : n.relay.watch = a ++ w :: b)
    (ha : ∀ y ∈ a, y.frame.hdr.seq ≠ w.frame.hdr.seq) :
    (n.retry w attempt).tx.queue = [⟨w.frame, true, .waiting, n.clock, some attempt⟩] ∧
    (n.retry w attempt).relay = { n.relay with watch := a ++ ⟨w.frame, attempt, .retryQueued⟩ :: b } ∧
    (n.retry w attempt).link = n.link := by
  have hoffer := n.tx.offer_fresh n.clock w.frame true n.clock (some attempt) hcls (by simp [hq]) (by simp [hq])
  rw [Node.retry_accepted ((Node.offer_eq hact hoffer).trans (by rw [Node.afterOffer_kept _ _ _ (by decide)]))]
  refine ⟨?_, congrArg (fun l => { n.relay with watch := l }) (RelayEngine.rewatch_first _ hw rfl ha), rfl⟩
  show (Transmitter.accept _ _ _ _ _ _).queue = _
  rw [Transmitter.accept_queue, if_pos hcls, newEntry_now, hq]
  rfl

/-! ## Entry to ISOLATED (R142, R157) -/

/-- The seen list once the withdrawn relays are reported. -/
def RelayEngine.cancelAll (r : RelayEngine) (qs : List TxEntry) : RelayEngine :=
  qs.foldl (fun r e => r.report e.frame.hdr.origin e.frame.hdr.seq .cancelled) r

theorem RelayEngine.report_other (r : RelayEngine) {o q : Byte} (st : RelayStatus) {i : Nat} {y : SeenEntry}
    (hy : r.seen[i]? = some y) (h : ¬(y.origin = o ∧ y.seq = q ∧ y.status = .pending)) :
    (r.report o q st).seen[i]? = some y := by
  rw [RelayEngine.report_seen]
  refine updateFirst_getElem?_not _ _ hy ?_
  rw [← Bool.not_eq_true]
  simpa [and_assoc] using h

theorem RelayEngine.cancelAll_other (qs : List TxEntry) : ∀ (r : RelayEngine) {i : Nat} {y : SeenEntry},
    r.seen[i]? = some y →
    (y.status ≠ .pending ∨ ∀ q ∈ qs, ¬(q.frame.hdr.origin = y.origin ∧ q.frame.hdr.seq = y.seq)) →
    (r.cancelAll qs).seen[i]? = some y := by
  induction qs with
  | nil => exact fun _ _ _ h _ => h
  | cons q qs ih =>
    intro r i y hy h
    refine ih (r.report q.frame.hdr.origin q.frame.hdr.seq .cancelled) (r.report_other _ hy ?_)
      (h.imp_right (fun h z hz => h z (List.mem_cons_of_mem _ hz)))
    rintro ⟨ho, hq, hp⟩
    rcases h with h | h
    · exact h hp
    · exact h q List.mem_cons_self ⟨ho.symm, hq.symm⟩

theorem RelayEngine.report_ids (r : RelayEngine) (o q : Byte) (st : RelayStatus) :
    (r.report o q st).seen.map (fun x => (x.origin, x.seq)) = r.seen.map (fun x => (x.origin, x.seq)) := by
  rw [RelayEngine.report_seen]
  exact updateFirst_map _ (fun e : SeenEntry => { e with status := st }) _ (fun _ => rfl) _

/-- The only entry of an identity. -/
def RelayEngine.Only (r : RelayEngine) (i : Nat) (y : SeenEntry) : Prop :=
  ∀ (j : Nat) (z : SeenEntry), r.seen[j]? = some z → z.origin = y.origin → z.seq = y.seq → j = i

theorem RelayEngine.Only.report {r : RelayEngine} {i : Nat} {y : SeenEntry} (h : r.Only i y) (o q : Byte)
    (st : RelayStatus) : (r.report o q st).Only i y := by
  intro j z hz ho hq
  have hid := congrArg (fun l : List (Byte × Byte) => l[j]?) (r.report_ids o q st)
  simp only [List.getElem?_map, hz, Option.map_some] at hid
  cases hj : r.seen[j]? with
  | none => rw [hj] at hid; cases hid
  | some x =>
    rw [hj, Option.map_some, Option.some.injEq, Prod.mk.injEq] at hid
    exact h j x hj (hid.1.symm.trans ho) (hid.2.symm.trans hq)

theorem RelayEngine.cancelAll_only (qs : List TxEntry) : ∀ (r : RelayEngine) {i : Nat} {y : SeenEntry},
    r.seen[i]? = some y → y.status = .pending → r.Only i y →
    (∃ q ∈ qs, q.frame.hdr.origin = y.origin ∧ q.frame.hdr.seq = y.seq) →
    (r.cancelAll qs).seen[i]? = some { y with status := .cancelled } := by
  induction qs with
  | nil => rintro _ _ _ _ _ _ ⟨q, hq, -⟩; cases hq
  | cons q qs ih =>
    intro r i y hy hp honly hany
    by_cases hid : q.frame.hdr.origin = y.origin ∧ q.frame.hdr.seq = y.seq
    · obtain ⟨ho, hq⟩ := hid
      have hcancelled : (r.report q.frame.hdr.origin q.frame.hdr.seq .cancelled).seen[i]? =
          some { y with status := .cancelled } := by
        rw [ho, hq, RelayEngine.report_seen]
        refine updateFirst_getElem?_first _ _ hy (by simp [hp]) (fun j hj z hz => ?_)
        by_contra hc
        simp only [Bool.not_eq_false, Bool.and_eq_true, beq_iff_eq] at hc
        exact absurd (honly j z hz hc.1.1 hc.1.2) (by omega)
      exact RelayEngine.cancelAll_other qs _ hcancelled (.inl (by simp))
    · obtain ⟨q', hq', hid'⟩ := hany
      refine ih _ (r.report_other _ hy (fun h => hid ⟨h.1.symm, h.2.1.symm⟩)) hp (honly.report _ _ _) ⟨q', ?_, hid'⟩
      rcases List.mem_cons.mp hq' with rfl | hq'
      · exact absurd hid' hid
      · exact hq'

theorem RelayEngine.cancelAll_watch (qs : List TxEntry) : ∀ r : RelayEngine, (r.cancelAll qs).watch = r.watch := by
  induction qs with
  | nil => exact fun _ => rfl
  | cons q qs ih => exact fun r => ih _

theorem RelayEngine.cancelAll_length (qs : List TxEntry) : ∀ r : RelayEngine,
    (r.cancelAll qs).seen.length = r.seen.length := by
  induction qs with
  | nil => exact fun _ => rfl
  | cons q qs ih => exact fun r => (ih _).trans (by rw [RelayEngine.report_seen, updateFirst_length])

/-- A miss that makes the node ISOLATED withdraws its relays (R157). -/
theorem Node.deliver_isolates {n : Node} (hlow : 248 ≤ n.link.efc) (hhigh : n.link.efc ≤ 255) :
    n.deliver [.echo false] = { n with
      link := { n.link with efc := n.link.efc + 8 }
      tx := n.tx.withdrawRelays
      relay := n.relay.cancelAll n.tx.withdrawable } := by
  have hafter : n.link.afterEcho false = { n.link with efc := n.link.efc + 8 } := by
    have hmin : min 511 (n.link.efc + 8) = n.link.efc + 8 := by omega
    simp [Link.afterEcho, hmin]
  have hbefore : n.link.state = .strained := by
    have h256 : ¬256 ≤ n.link.efc := by omega
    have h127 : 127 < n.link.efc := by omega
    simp [Link.state, h256, h127]
  have hisolated : Link.state { n.link with efc := n.link.efc + 8 } = .isolated := by
    have h256 : 256 ≤ n.link.efc + 8 := by omega
    simp [Link.state, h256]
  refine Node.deliver_single ?_
  show n.setLink (n.link.afterEcho false) = _
  rw [hafter]
  simp [Node.setLink, hbefore, hisolated, Node.isolate, RelayEngine.cancelAll]

/-! ## LINK_STRAINED stands through what follows from it -/

/-- The node is STRAINED by its received frames, RFC having reached 128, and LINK_STRAINED stands. -/
def Node.StrainedStands (n : Node) : Prop :=
  n.link.rfc = 128 ∧ NoticeItem.mk .linkStrained none ∈ n.alarm.notices

/-- A task that can follow from a raise of LINK_STRAINED: no clear of it, no success, no frame report. -/
def Task.strains : Task → Bool
  | .clear k _ => k != .linkStrained
  | .echo success => !success
  | .frame _ => false
  | _ => true

theorem Node.setLink_strained {n : Node} {l : Link} (h : n.link.rfc = 128) (hl : l.rfc = 128) :
    (n.setLink l).2 = [] := by
  have hstate : ∀ m : Link, m.rfc = 128 → m.state ≠ .linked := by
    intro m hm
    unfold Link.state
    split
    · nofun
    · simp [hm]
  simp [Node.setLink, hstate _ h, hstate _ hl]

theorem Node.setLink_link (n : Node) (l : Link) : (n.setLink l).1.link = l := by
  simp only [Node.setLink]; split <;> rfl

theorem Node.noticeTasks_link (n : Node) (k : NoticeKind) (b : Bool) (s : Option Byte) :
    (n.noticeTasks k b s).1.link = n.link := by
  unfold Node.noticeTasks; split <;> rfl

theorem Node.noticeTasks_strains (n : Node) (k : NoticeKind) (b : Bool) (s : Option Byte) :
    ∀ u ∈ (n.noticeTasks k b s).2, u.strains = true := by
  unfold Node.noticeTasks
  split <;> simp [Task.strains]

theorem Node.dropNotice_link (n : Node) (k : NoticeKind) (s : Option Byte) : (n.dropNotice k s).link = n.link := by
  unfold Node.dropNotice
  split
  · rw [Node.record_eq]
  · rfl

/-- What a raise leaves of the link and the notice set. -/
theorem Node.raise_strained {n : Node} (h : n.StrainedStands) (k : NoticeKind) (s : Option Byte) :
    (n.raise k s).1.StrainedStands ∧ ∀ u ∈ (n.raise k s).2, u.strains = true := by
  unfold Node.raise
  split
  · exact ⟨h, by simp⟩
  · refine ⟨⟨?_, ?_⟩, Node.noticeTasks_strains _ _ _ _⟩
    · rw [Node.noticeTasks_link, Node.record_eq]; exact h.1
    · rw [Node.noticeTasks_notices, Node.record_alarm]; exact List.mem_append_left _ h.2

theorem Node.clear_strained {n : Node} (h : n.StrainedStands) {k : NoticeKind} (hk : k ≠ .linkStrained)
    (s : Option Byte) : (n.clear k s).1.StrainedStands ∧ ∀ u ∈ (n.clear k s).2, u.strains = true := by
  unfold Node.clear
  split
  · exact ⟨h, by simp⟩
  · refine ⟨⟨?_, ?_⟩, Node.noticeTasks_strains _ _ _ _⟩
    · rw [Node.noticeTasks_link, Node.dropNotice_link]; exact h.1
    · rw [Node.noticeTasks_notices, Node.dropNotice_notices]
      have hne : NoticeItem.mk .linkStrained none ≠ NoticeItem.mk k s := fun he => hk (congrArg NoticeItem.kind he).symm
      exact List.mem_filter.mpr ⟨h.2, by simpa using hne⟩

theorem Node.event_strained {n : Node} (h : n.StrainedStands) (k : NoticeKind) (s : Option Byte) :
    (n.event k s).1.StrainedStands ∧ ∀ u ∈ (n.event k s).2, u.strains = true := by
  unfold Node.event
  split
  · exact ⟨h, by simp⟩
  · refine ⟨⟨?_, ?_⟩, Node.noticeTasks_strains _ _ _ _⟩
    · rw [Node.noticeTasks_link, Node.record_eq]; exact h.1
    · rw [Node.noticeTasks_notices, Node.record_alarm]; exact h.2

theorem Node.afterOffer_strained {n : Node} (h : n.StrainedStands) (f : Frame) (own : Bool) (a : OfferAnswer)
    (ev : Option TxEntry) :
    (n.afterOffer f own a ev).1.StrainedStands ∧ ∀ u ∈ (n.afterOffer f own a ev).2, u.strains = true := by
  have hmissed : ∀ c : Bool, ∀ u ∈ (if c then [Task.echo false] else []), u.strains = true := by
    intro c u hu
    cases c with
    | true => rw [List.mem_singleton.mp hu]; rfl
    | false => cases hu
  unfold Node.afterOffer
  simp only []
  split
  · exact ⟨h, hmissed _⟩
  · split
    · refine ⟨h, ?_⟩
      intro u hu
      split at hu
      · rcases List.mem_append.mp hu with hu | hu
        · exact hmissed _ u hu
        · simp only [List.mem_cons, List.not_mem_nil, or_false] at hu
          rcases hu with rfl | rfl <;> rfl
      · exact hmissed _ u hu
    · exact ⟨h, hmissed _⟩

theorem Node.ownEvicted_strained {n : Node} (h : n.StrainedStands) (q : Byte) :
    (n.ownEvicted q).1.StrainedStands ∧ ∀ u ∈ (n.ownEvicted q).2, u.strains = true := by
  unfold Node.ownEvicted
  split
  · exact ⟨h, by simp⟩
  · simp only []
    split
    · refine ⟨h, ?_⟩
      unfold noPathTasks
      split <;> simp [Task.strains]
    · exact ⟨h, by simp⟩
    · exact ⟨h, by simp⟩

theorem Task.run_strained {n : Node} (h : n.StrainedStands) (t : Task) (ht : t.strains = true) :
    (t.run n).1.StrainedStands ∧ ∀ u ∈ (t.run n).2, u.strains = true := by
  cases t with
  | raise k s => exact n.raise_strained h k s
  | clear k s => exact n.clear_strained h (by simpa [Task.strains] using ht) s
  | event k s => exact n.event_strained h k s
  | offer f a =>
    show (n.offer f true n.clock a).1.StrainedStands ∧ ∀ u ∈ (n.offer f true n.clock a).2.2, u.strains = true
    unfold Node.offer
    split
    · exact ⟨h, by simp⟩
    · exact Node.afterOffer_strained (n := { n with tx := (n.tx.offer n.clock f true n.clock a).1 }) h _ _ _ _
  | echo b =>
    have hb : b = false := by simpa [Task.strains] using ht
    subst hb
    have hrfc : (n.link.afterEcho false).rfc = 128 := h.1
    refine ⟨⟨?_, ?_⟩, ?_⟩
    · show (n.setLink _).1.link.rfc = 128
      rw [Node.setLink_link]; exact hrfc
    · show _ ∈ (n.setLink _).1.alarm.notices
      rw [Node.setLink_notices]; exact h.2
    · show ∀ u ∈ (n.setLink _).2, _
      rw [Node.setLink_strained h.1 hrfc]; simp
  | frame b => cases ht
  | ownEvicted q => exact n.ownEvicted_strained h q

theorem foldl_strained (step : Node → Task → Node)
    (hstep : ∀ (m : Node) (u : Task), m.StrainedStands → u.strains = true → (step m u).StrainedStands)
    (ts : List Task) : ∀ n : Node, n.StrainedStands → (∀ u ∈ ts, u.strains = true) → (ts.foldl step n).StrainedStands := by
  induction ts with
  | nil => exact fun _ h _ => h
  | cons t ts ih =>
    exact fun n h hts => ih _ (hstep n t h (hts t List.mem_cons_self)) (fun u hu => hts u (List.mem_cons_of_mem _ hu))

theorem deliver_strained (d : Nat) : ∀ (t : Task) (n : Node), n.StrainedStands → t.strains = true →
    (deliver d t n).StrainedStands := by
  induction d with
  | zero => exact fun _ _ h _ => h
  | succ d ih =>
    intro t n h ht
    obtain ⟨hone, hrest⟩ := Task.run_strained h t ht
    exact foldl_strained _ (fun m u hm hu => ih u m hm hu) _ _ hone hrest

/-- A bad frame on a LINKED node with RFC 127 strains the link (R153, R156). -/
theorem Node.deliver_bad_strains {n : Node} (hact : n.active = true) (hlinked : n.link.state = .linked)
    (hrfc : n.link.rfc = 127) : (n.deliver [.frame false]).StrainedStands := by
  have hafter : n.link.afterFrame false = { n.link with rfc := 128 } := by simp [Link.afterFrame, hrfc]
  have hnot : Link.state { n.link with rfc := 128 } ≠ .linked := by
    unfold Link.state
    split
    · nofun
    · simp
  have hrun : ∃ m : Node, Task.run n (.frame false) = (m, [.raise .linkStrained none]) ∧ m.link.rfc = 128 ∧
      m.active = true := by
    refine ⟨(n.setLink (n.link.afterFrame false)).1, ?_, ?_, ?_⟩
    · refine Prod.ext rfl ?_
      show (n.setLink (n.link.afterFrame false)).2 = _
      rw [hafter]
      simp [Node.setLink, hlinked, hnot]
    · rw [Node.setLink_link, hafter]
    · have := (Node.setLink_reported n (n.link.afterFrame false)).power
      simpa [Node.active, this] using hact
  obtain ⟨m, hm, hm128, hmact⟩ := hrun
  have hdeliver : n.deliver [.frame false] = Machine.deliver 11 (.raise .linkStrained none) m := by
    show (Task.run n (.frame false)).2.foldl _ (Task.run n (.frame false)).1 = _
    rw [hm]
    rfl
  have hraise : (m.raise .linkStrained none).1.StrainedStands := by
    refine ⟨?_, Node.raise_mem m _ _ hmact⟩
    unfold Node.raise
    split
    · exact hm128
    · rw [Node.noticeTasks_link, Node.record_eq]; exact hm128
  have htasks : ∀ u ∈ (m.raise .linkStrained none).2, u.strains = true := by
    unfold Node.raise
    split
    · simp
    · exact Node.noticeTasks_strains _ _ _ _
  rw [hdeliver]
  exact foldl_strained _ (fun k u hk hu => Machine.deliver_strained 10 u k hk hu) _ _ hraise htasks

/-- A bad frame on a LINKED node with a lower RFC leaves the link state (R153). -/
theorem Node.deliver_bad {n : Node} (hlinked : n.link.state = .linked) (hrfc : n.link.rfc < 127) :
    n.deliver [.frame false] = { n with link := { n.link with rfc := n.link.rfc + 1 } } := by
  have hafter : n.link.afterFrame false = { n.link with rfc := n.link.rfc + 1 } := by
    have hmin : min 255 (n.link.rfc + 1) = n.link.rfc + 1 := by omega
    simp [Link.afterFrame, hmin]
  have hefc : n.link.efc ≤ 127 := by
    by_contra hc
    unfold Link.state at hlinked
    split at hlinked
    · cases hlinked
    · have h127 : 127 < n.link.efc := by omega
      simp [h127] at hlinked
  refine Node.deliver_single ?_
  show n.setLink (n.link.afterFrame false) = _
  rw [hafter]
  refine Node.setLink_same ?_
  have hlow : ¬127 < n.link.rfc := by omega
  have hlow' : ¬127 < n.link.rfc + 1 := by omega
  rw [Link.state_of_low (l := n.link) hefc, Link.state_of_low (l := { n.link with rfc := n.link.rfc + 1 }) hefc,
    if_neg hlow, if_neg hlow']

/-! ## A success (R152, R156) -/

/-- The counts after a success. -/
theorem Link.success_eq (l : Link) :
    l.afterEcho true = { l with efc := if 256 ≤ l.efc then 200 else l.efc - 1 } := by
  by_cases h : l.efc ≤ 255
  · have hnot : ¬256 ≤ l.efc := by omega
    simp [Link.afterEcho, h, hnot]
  · have hle : 256 ≤ l.efc := by omega
    simp [Link.afterEcho, h, hle]

theorem Link.success_not_isolated (l : Link) : (l.afterEcho true).state ≠ .isolated := by
  have hefc : ¬256 ≤ (l.afterEcho true).efc := by
    rw [Link.success_eq]
    simp only []
    split <;> omega
  unfold Link.state
  rw [if_neg hefc]
  split <;> nofun

theorem Link.success_linked {l : Link} (h : l.state = .linked) : (l.afterEcho true).state = .linked := by
  have hl : l.efc ≤ 127 ∧ l.rfc ≤ 127 := by
    unfold Link.state at h
    split at h
    · cases h
    · split at h
      · cases h
      · next hc => simp only [Bool.or_eq_true, decide_eq_true_eq, not_or] at hc; omega
  rw [Link.success_eq, Link.state_of_low (by simp only []; split <;> omega), if_neg (by simp only []; omega)]

/-- A success with which LINKED does not begin touches the counts only (R156). -/
theorem Node.deliver_success_quiet {n : Node} (h : n.link.state = .linked ∨ (n.link.afterEcho true).state ≠ .linked) :
    n.deliver [.echo true] = { n with link := n.link.afterEcho true } := by
  refine Node.deliver_single ?_
  show n.setLink (n.link.afterEcho true) = _
  have hnot := n.link.success_not_isolated
  rcases h with h | h
  · have hafter := Link.success_linked h
    simp [Node.setLink, h, hafter]
  · have hbefore : n.link.state ≠ .linked := fun hl => h (Link.success_linked hl)
    simp [Node.setLink, h, hbefore, hnot]

/-- A success with which LINKED begins clears LINK_STRAINED (R156). -/
theorem Node.deliver_success_clears {n : Node} (hact : n.active = true) (hq : n.tx.queue = [])
    (hbefore : n.link.state ≠ .linked) (hafter : (n.link.afterEcho true).state = .linked) :
    NoticeItem.mk .linkStrained none ∉ (n.deliver [.echo true]).alarm.notices := by
  let m : Node := { n with link := n.link.afterEcho true }
  have hrun : Task.run n (.echo true) = (m, [.clear .linkStrained none]) := by
    show n.setLink (n.link.afterEcho true) = _
    simp [Node.setLink, hbefore, hafter, m]
  have hdeliver : n.deliver [.echo true] = Machine.deliver 11 (.clear .linkStrained none) m := by
    show (Task.run n (.echo true)).2.foldl _ (Task.run n (.echo true)).1 = _
    rw [hrun]
    rfl
  have hlined : m.Lined := Node.lined_of_empty hact hq
  rw [hdeliver]
  show NoticeItem.mk .linkStrained none ∉
    ((Task.run m (.clear .linkStrained none)).2.foldl _ (Task.run m (.clear .linkStrained none)).1).alarm.notices
  by_cases hm : NoticeItem.mk .linkStrained none ∈ m.alarm.notices
  · have hclear : Task.run m (.clear .linkStrained none) =
        (m.dropNotice .linkStrained none).noticeTasks .linkStrained false none := by
      show m.clear .linkStrained none = _
      unfold Node.clear
      rw [if_neg (by simp [hlined.active, hm])]
    have hlined' : (m.dropNotice .linkStrained none).Lined := hlined.of_same (by simp) (by simp) (by simp)
    rw [hclear, hlined'.deliver_noticeTasks (by simp [m, hq]) .linkStrained false none 9]
    show _ ∉ (Node.pushOwn _ _ _).alarm.notices
    rw [Node.pushOwn_alarm, Node.dropNotice_notices]
    simp
  · have hclear : Task.run m (.clear .linkStrained none) = (m, []) := by
      show m.clear .linkStrained none = _
      unfold Node.clear
      rw [if_pos (by simp [hm])]
    rw [hclear]
    exact hm

theorem exec_badLength {s : State} {len : Byte} (hs : s.node.rx.state = .assembling) (hl : 12 < len.toNat) :
    exec (.badLength len) s = .next { s with
      node := (Node.badFrame { s.node with rx := { s.node.rx with state := .flushing, assembly := none } }).settle } := by
  show execBadLength len s = _
  simp [execBadLength, hs, hl, State.go]

end Sys2Proof.Machine

open Sys2Proof.Machine in
/-- Settles O38: the miss that isolates, the bad frame that strains, and the success that restores. -/
theorem linkStateChangesActAtOnce : Obligations.LinkStateChangesActAtOnce := by
  unfold Obligations.LinkStateChangesActAtOnce
  refine ⟨?_, fun s len hs hl hact hlinked => ?_, ?_⟩
  · intro s a b w expiry hact hw hstate hr hcls hlow hhigh ha withdrawn relays
    have hmiss := Node.missEcho_waits (expiry := expiry) (Node.deliver_isolates hlow hhigh) hcls (by
      have h256 : 256 ≤ s.node.link.efc + 8 := by omega
      simp [Link.state, h256])
    have hf := (s.node.missEcho w expiry).settleWoken_follows
    have hwithdrawn : ∀ q : TxEntry, q ∈ s.node.tx.withdrawable ↔ q ∈ s.node.tx.queue ∧ withdrawn q := by
      intro q
      simp [Transmitter.withdrawable, List.mem_filter, withdrawn, TxEntry.waits_iff]
    refine ⟨_, exec_echoWindowExpiry hw hstate hr (fun y hy => (ha y hy).2), rfl, ?_⟩
    simp only [hf.link, hf.txQueue, hf.txDrops, hf.relay]
    rw [hmiss]
    refine ⟨rfl, ?_, rfl, RelayEngine.cancelAll_length _ _, fun i y hy => ⟨fun hno => ?_, fun hyes hp honly => ?_⟩, ?_, ?_⟩
    · refine List.filter_congr (fun q _ => ?_)
      simp [TxEntry.waits, bne]
    · refine RelayEngine.cancelAll_other _ _ hy (.inr (fun q hq hid => hno ⟨q, ?_⟩))
      obtain ⟨hm, hwd⟩ := (hwithdrawn q).mp hq
      exact ⟨hm, hwd, hid⟩
    · obtain ⟨q, hm, hwd, hid⟩ := hyes
      exact RelayEngine.cancelAll_only _ _ hy hp honly ⟨q, (hwithdrawn q).mpr ⟨hm, hwd⟩, hid⟩
    · exact RelayEngine.rewatch_first _ ((RelayEngine.cancelAll_watch _ _).trans hw) rfl (fun y hy => (ha y hy).1)
    · rw [Node.settleWoken, Node.settle_amber, Node.selectAmber_pattern, Node.amberWanted_of_active]
      · rw [Node.wake_link, if_pos]
        exact beq_iff_eq.mpr ((Link.state_isolated_iff _).mpr (show 256 ≤ s.node.link.efc + 8 by omega))
      · exact (Node.active_eq_of_phase (Node.wake_powerPhase _)).trans hact
  · have hf := (Node.badFrame { s.node with rx := { s.node.rx with state := .flushing, assembly := none } }).settle_follows
    refine ⟨_, exec_badLength hs hl, ?_⟩
    simp only [hf.link, hf.alarmNotices]
    refine ⟨fun hrfc => ?_, fun hrfc => ?_⟩
    · exact Node.deliver_bad_strains (n := { s.node with
        rx := { s.node.rx with state := .flushing, assembly := none, badFrames := countUp s.node.rx.badFrames } })
        hact hlinked hrfc
    · have hbad := Node.deliver_bad (n := { s.node with
        rx := { s.node.rx with state := .flushing, assembly := none, badFrames := countUp s.node.rx.badFrames } })
        hlinked hrfc
      rw [Node.badFrame, hbad]
  · intro s i x a b w expiry hs hx horigin hsender hw hseq hstate ha hact after
    let m := s.node.hears x.frame x.arrival
    have hw' : m.relay.watch = a ++ w :: b := (RelayEngine.hear_watch _ _ _ _).trans hw
    have hecho := Node.takeEcho_open (RelayEngine.watchOf_first hw' hseq ha) ⟨expiry, .inl hstate⟩
    obtain ⟨t, hexec, -, -, hlink, -, -, -, hnotices, -, -⟩ :=
      exec_seenListCheck_ends hs hx (Node.takeCopy_echo x.arrival horigin hsender) (m.takeEcho_acts _).rx
    have hafter : s.node.link.afterEcho true = after := s.node.link.success_eq
    refine ⟨t, hexec, fun h => ?_, fun hbefore hlinked hq => ?_⟩
    · rw [← hafter] at h ⊢
      rw [hlink, hnotices, hecho, Node.deliver_success_quiet (by exact h)]
      exact ⟨rfl, rfl⟩
    · rw [← hafter] at hlinked
      rw [hnotices, hecho]
      exact Node.deliver_success_clears (n := { m with relay := m.relay.unwatch x.frame.hdr.seq }) hact hq hbefore hlinked

open Sys2Proof.Machine in
/-- Settles O43: a miss below and at the last attempt, a miss of an ALARM while ISOLATED, and a resend. -/
theorem unechoedFramesAreRetried : Obligations.UnechoedFramesAreRetried := by
  unfold Obligations.UnechoedFramesAreRetried
  refine ⟨fun s a b w expiry hact hq hw hstate hr hcls ha hefc hrfc => ?_, fun s a b w hw =>
    ⟨fun expiry hstate hr hcls hefc ha => ?_, fun time hstate hr hact hq hcls ha => ?_⟩⟩
  · let m : Node := { s.node with link := { s.node.link with efc := s.node.link.efc + 8 } }
    have hmiss : s.node.deliver [.echo false] = m := Node.deliver_miss hefc
    have hlow : m.link.state ≠ .isolated := by
      rw [Link.state_of_low (l := m.link) (by show s.node.link.efc + 8 ≤ 127; omega)]
      split <;> nofun
    have hf := (s.node.missEcho w expiry).settleWoken_follows
    refine ⟨_, exec_echoWindowExpiry hw hstate hr (fun y hy => (ha y hy).2), rfl, ?_⟩
    simp only [hf.link, hf.txQueue, hf.relay, hf.alarmLastEvent]
    by_cases hl : w.attempt < 4
    · rw [Node.missEcho_retries expiry hmiss hlow hl]
      obtain ⟨hqueue, hrelay, hlink⟩ := Node.retry_empty (n := m) (attempt := w.attempt + 1) hact hq hcls hw
        (fun y hy => (ha y hy).1)
      rw [hqueue, hrelay, hlink]
      exact ⟨rfl, rfl, fun _ => ⟨rfl, rfl, rfl⟩, fun h => absurd hl (by omega)⟩
    · rw [Node.missEcho_gives_up expiry hmiss hlow (by omega)]
      let k : Node := { m with relay := m.relay.unwatch w.frame.hdr.seq }
      have hk : k.Lined := Node.lined_of_empty hact hq
      have hwatch : k.relay.watch = a ++ b := RelayEngine.unwatch_first hw rfl (fun y hy => (ha y hy).1)
      cases hno : w.frame.isNoPath with
      | true =>
        have htasks : noPathTasks w.frame = [] := by simp [noPathTasks, hno]
        rw [htasks]
        exact ⟨rfl, rfl, fun h => absurd h hl, fun _ h => by cases h⟩
      | false =>
        have htasks : noPathTasks w.frame = [.event .noPath none] := by simp [noPathTasks, hno]
        rw [htasks]
        show (k.deliver _).link = _ ∧ (k.deliver _).relay.seen = _ ∧ _ ∧ (_ → _ → (k.deliver _).relay.watch = _ ∧
          (k.deliver _).alarm.lastEvent = _ ∧ (k.deliver _).relay.originSeq = _)
        rw [hk.deliver_event (by simp [k, m, hq]) .noPath none]
        have hframed : (k.withEvent .noPath none).framed .noPath true none =
            (k.withEvent .noPath none).pushOwn false (.notice .noPath true none) := rfl
        rw [hframed]
        simp only [Node.pushOwn_link, Node.pushOwn_seen, Node.pushOwn_watch, Node.pushOwn_alarm, Node.pushOwn_originSeq,
          Node.withEvent, Node.record_alarm, Node.record_relay, hwatch]
        refine ⟨?_, rfl, fun h => absurd h hl, fun _ _ => ⟨trivial, rfl, rfl⟩⟩
        rw [Node.record_eq]
  · have hmiss : s.node.deliver [.echo false] = { s.node with link := s.node.link.afterEcho false } := by
      have hstate' : ∀ l : Link, 256 ≤ l.efc → l.state = .isolated := fun l h => by simp [Link.state, h]
      refine Node.deliver_single (Node.setLink_same ?_)
      rw [hstate' _ hefc, hstate' _ (by show 256 ≤ min 511 (s.node.link.efc + 8); omega)]
    have hafter : (s.node.link.afterEcho false).state = .isolated := by
      have h256 : 256 ≤ (s.node.link.afterEcho false).efc := by show 256 ≤ min 511 (s.node.link.efc + 8); omega
      simp [Link.state, h256]
    have hf := (s.node.missEcho w expiry).settleWoken_follows
    refine ⟨_, exec_echoWindowExpiry hw hstate hr (fun y hy => (ha y hy).2), ?_⟩
    simp only [hf.txQueue, hf.relay]
    rw [Node.missEcho_waits hmiss hcls hafter]
    exact ⟨rfl, congrArg (fun l => { s.node.relay with watch := l })
      (RelayEngine.rewatch_first _ hw rfl (fun y hy => (ha y hy).1))⟩
  · have hf := (s.node.retry w (min 255 (w.attempt + 1))).settleWoken_follows
    obtain ⟨hqueue, hrelay, hlink⟩ := Node.retry_empty (attempt := min 255 (w.attempt + 1)) hact hq hcls hw
      (fun y hy => (ha y hy).1)
    refine ⟨_, exec_resendTime hw hstate hr (fun y hy => (ha y hy).2), ?_⟩
    simp only [hf.txQueue, hf.relay, hf.link]
    exact ⟨hqueue, hrelay, hlink⟩
end

section
/-! Frames read back from their bytes (R94, R96 to R105, R126). -/

namespace Sys2Proof.Machine

/-! ## Codes -/

theorem FrameClass.ofCode_code (c : FrameClass) : FrameClass.ofCode c.code = some c := by cases c <;> rfl
theorem Cause.ofCode_code (c : Cause) : Cause.ofCode c.code = some c := by cases c <;> rfl
theorem Command.ofCode_code (c : Command) : Command.ofCode c.code = some c := by cases c <;> rfl
theorem alarmOfByte_code (a : AlarmState) : alarmOfByte (a.code.zeroExtend 8) = some a := by cases a <;> rfl
theorem senseOfByte_flag (b : Bool) : senseOfByte (flagByte b) = some b := by cases b <;> rfl

/-- RADIO alone is never framed (R84, R103). -/
theorem NoticeKind.ofCode_code {k : NoticeKind} (h : k ≠ .radio) : NoticeKind.ofCode k.code = some k := by
  cases k with
  | radio => exact absurd rfl h
  | _ => rfl

theorem zoneOfByte_extend (z : ZoneCode) : zoneOfByte (z.zeroExtend 8) = some z := by
  have hlt := z.isLt
  have hnat : (z.zeroExtend 8).toNat = z.toNat := by
    simp only [BitVec.truncate_eq_setWidth, BitVec.toNat_setWidth]
    omega
  have hback : (z.zeroExtend 8).setWidth 6 = z := by
    refine BitVec.eq_of_toNat_eq ?_
    rw [BitVec.toNat_setWidth, hnat]
    omega
  rw [zoneOfByte, if_pos (by omega), hback]

theorem byte_toNat {n : Nat} (h : n < 256) : (byte n).toNat = n := by
  rw [byte, BitVec.toNat_ofNat]
  omega

/-! ## The header -/

/-- Class, hop budget and test flag in header byte 1 (Table 5-2). -/
theorem classByte_fields (c : BitVec 3) (h : BitVec 4) (t : Bool) :
    (c ++ h ++ BitVec.ofBool t).extractLsb' 5 3 = c ∧ (c ++ h ++ BitVec.ofBool t).extractLsb' 1 4 = h ∧
      (c ++ h ++ BitVec.ofBool t).getLsbD 0 = t := by
  refine ⟨?_, ?_, ?_⟩
  · ext i hi
    simp [BitVec.getElem_extractLsb']
    grind
  · ext i hi
    simp [BitVec.getElem_extractLsb']
    grind
  · simp
    grind

/-- Zone and role in header byte 4 (Table 5-2). -/
theorem zoneByte_fields (z : ZoneCode) (r : BitVec 2) :
    (z ++ r).extractLsb' 2 6 = z ∧ (z ++ r).extractLsb' 0 2 = r := by
  refine ⟨?_, ?_⟩
  · ext i hi
    simp [BitVec.getElem_extractLsb']
    grind
  · ext i hi
    simp [BitVec.getElem_extractLsb']
    grind

/-! ## The body -/

theorem Body.bytes_length {b : Body} (h : b.wellFormed = true) : b.bytes.length ≤ 9 := by
  cases b with
  | beacon status lv heard =>
    have hlen : heard.length ≤ 6 := of_decide_eq_true h
    simp only [Body.bytes, List.length_cons]
    omega
  | evidence lv state => simp [Body.bytes]
  | notice kind set subject => cases subject <;> simp [Body.bytes]
  | control cmd zone => simp [Body.bytes]
  | alarm cause lv q hx => simp [Body.bytes]

theorem noticeBody_of_wellFormed {k : NoticeKind} {set : Bool} {subject : Option Byte}
    (h : (Body.notice k set subject).wellFormed = true) :
    noticeBody k.code (flagByte set) subject = some (.notice k set subject) := by
  simp only [Body.wellFormed, Bool.and_eq_true, bne_iff_ne, ne_eq] at h
  obtain ⟨⟨hradio, hsubject⟩, hevent⟩ := h
  simp [noticeBody, NoticeKind.ofCode_code hradio, senseOfByte_flag, hsubject, hevent]

/-- A body the classes allow is read back from its bytes (R103). -/
theorem parseBody_bytes {b : Body} (h : b.wellFormed = true) : parseBody b.cls b.bytes = some b := by
  cases b with
  | beacon status lv heard =>
    have hlen : heard.length ≤ 6 := of_decide_eq_true h
    have hcount : (byte heard.length).toNat = heard.length := byte_toNat (by omega)
    simp only [Body.cls, Body.bytes, parseBody, hcount]
    simp [hlen]
  | evidence lv state => simp [Body.cls, Body.bytes, parseBody, alarmOfByte_code]
  | notice kind set subject =>
    have hbody := noticeBody_of_wellFormed h
    cases subject with
    | none => exact hbody
    | some a => exact hbody
  | control cmd zone =>
    simp only [Body.cls, Body.bytes, parseBody, Command.ofCode_code, zoneOfByte_extend]
  | alarm cause lv q hx => simp [Body.cls, Body.bytes, parseBody, Cause.ofCode_code]

/-! ## The frame -/

theorem parseFrame_bytes {f : Frame} (h : f.body.wellFormed = true) : parseFrame f.bytes = some f := by
  have hlen := Body.bytes_length h
  have hcount : f.body.bytes.length = (byte f.body.bytes.length).toNat := (byte_toNat (by omega)).symm
  obtain ⟨hcls, hhop, htest⟩ := classByte_fields f.cls.code f.hdr.hop f.hdr.test
  obtain ⟨hzone, hrole⟩ := zoneByte_fields f.hdr.zone f.hdr.role
  have hheader : parseHeader f.hdr.networkId (f.cls.code ++ f.hdr.hop ++ BitVec.ofBool f.hdr.test) f.hdr.sender
      f.hdr.origin (f.hdr.zone ++ f.hdr.role) f.hdr.seq = f.hdr := by
    simp only [parseHeader, hhop, htest, hzone, hrole]
  show (if f.body.bytes.length = (byte f.body.bytes.length).toNat then
      match FrameClass.ofCode ((f.cls.code ++ f.hdr.hop ++ BitVec.ofBool f.hdr.test).extractLsb' 5 3) with
      | none => none
      | some c => (parseBody c f.body.bytes).map (fun d => ⟨parseHeader f.hdr.networkId
          (f.cls.code ++ f.hdr.hop ++ BitVec.ofBool f.hdr.test) f.hdr.sender f.hdr.origin (f.hdr.zone ++ f.hdr.role)
          f.hdr.seq, d⟩)
    else none) = some f
  rw [if_pos hcount, hcls, FrameClass.ofCode_code, hheader]
  show (parseBody f.body.cls f.body.bytes).map _ = _
  rw [parseBody_bytes h]
  rfl

end Sys2Proof.Machine

open Sys2Proof.Machine in
/-- Settles O56: the CRC, the length and the network id are those sent, and header and body read back field by
field. -/
theorem framesReadBack : Obligations.FramesReadBack := by
  unfold Obligations.FramesReadBack
  intro f h
  have hlen := Body.bytes_length h
  have hbytes : f.bytes.length = f.body.bytes.length + 7 := by
    simp only [Frame.bytes, Frame.headerBytes, List.length_append, List.length_cons, List.length_nil]
    omega
  have hwire : f.wire.length = f.bytes.length + 2 := by simp [Frame.wire, crcBytes]
  have hcovered : f.wire.take (f.wire.length - 2) = f.bytes := by
    rw [hwire]
    exact List.take_left
  have hcrc : f.wire.drop (f.wire.length - 2) = crcBytes f.bytes := by
    rw [hwire]
    exact List.drop_left
  have hsix : (f.wire.getD 6 0).toNat = f.body.bytes.length := byte_toNat (by omega)
  have hhead : f.wire.headD 0 = f.hdr.networkId := rfl
  simp only [judgeFrame, hcovered, hcrc, hhead, hsix, parseFrame_bytes h]
  simp
  omega
end

section
/-! The serial line: what settling gives the line transmitter, and the judgement of complete records (R180). -/

namespace Sys2Proof.Machine

/-! ## The line transmitter after a settling -/

@[simp] theorem Node.settlePower_serial (n : Node) : n.settlePower.serial = n.serial := by
  unfold Node.settlePower
  simp only []
  split
  · split <;> rfl
  · split <;> rfl
  · rfl

@[simp] theorem Node.switchRx_serial (n : Node) : n.switchRx.serial = n.serial := by
  unfold Node.switchRx
  split
  · split <;> rfl
  · split <;> rfl

@[simp] theorem Node.deferToCarrier_serial (n : Node) : n.deferToCarrier.serial = n.serial := by
  unfold Node.deferToCarrier
  split <;> rfl

/-- An idle line begins the next sending in the event, on the running oscillator outside START-UP (R162, R180). -/
theorem Node.settle_serial (n : Node) : n.settle.serial =
    if n.settle.power.phase = .startUp ∨ n.settle.power.oscillator ≠ .running then n.serial else n.serial.kick := by
  have hserial : n.settleInterval.settlePower.switchRx.deferToCarrier.settleOutputs.settleOscillator.serial =
      n.serial := by
    show n.settleInterval.settlePower.switchRx.deferToCarrier.serial = n.serial
    simp
  unfold Node.settle
  rw [Node.settleSerial_power]
  generalize n.settleInterval.settlePower.switchRx.deferToCarrier.settleOutputs.settleOscillator = m at hserial ⊢
  rw [← hserial]
  unfold Node.settleSerial
  by_cases h : m.power.phase = .startUp ∨ m.power.oscillator ≠ .running
  · rw [if_pos (by simpa using h), if_pos h]
  · rw [if_neg (by simpa using h), if_neg h]

theorem Serial.kick_of_busy {s : Serial} (h : s.tx ≠ .idle) : s.kick = s := if_pos (by simpa using h)

/-- A busy line goes on with what it sends. -/
theorem Node.settle_serial_of_busy {n : Node} (h : n.serial.tx ≠ .idle) : n.settle.serial = n.serial := by
  rw [n.settle_serial, Serial.kick_of_busy h, ite_self]

/-- A line that owes nothing and holds no record has nothing to begin. -/
theorem Node.settle_serial_of_empty {n : Node} (h : n.serial = .empty) : n.settle.serial = .empty := by
  rw [n.settle_serial, h]
  exact ite_self _

/-- In RUN the oscillator runs, so an idle line begins the next sending at once. -/
theorem Node.settle_serial_of_run {n : Node} (h : n.settle.power.phase = .run) :
    n.settle.serial = n.serial.kick := by
  rw [n.settle_serial, if_neg]
  rw [h, n.settle_awake (.inl h)]
  simp

/-! ## Record types (Table 11-4) -/

theorem SerialCommand.ofType_none {b : Byte} (h : b.toNat ∉ [0x01, 0x02, 0x03, 0x04, 0x05, 0x11, 0x12, 0x13, 0x14]) :
    SerialCommand.ofType b = none := by
  unfold SerialCommand.ofType
  split <;> simp_all

theorem SerialCommand.ofType_both {b : Byte} (h : b.toNat ∈ [0x01, 0x02]) :
    ∃ c, SerialCommand.ofType b = some c ∧ (∀ p, c.takenOn p = true) ∧ c.payloadLength = 0 := by
  simp only [List.mem_cons, List.not_mem_nil, or_false] at h
  rcases h with h | h
  · exact ⟨.status, by simp [SerialCommand.ofType, h], fun _ => rfl, rfl⟩
  · exact ⟨.peers, by simp [SerialCommand.ofType, h], fun _ => rfl, rfl⟩

theorem SerialCommand.ofType_commissioning {b : Byte} (h : b.toNat ∈ [0x03, 0x04, 0x05]) :
    ∃ c, SerialCommand.ofType b = some c ∧ (∀ p, c.takenOn p = !p) ∧ c.payloadLength = 0 := by
  simp only [List.mem_cons, List.not_mem_nil, or_false] at h
  rcases h with h | h | h
  · exact ⟨.park, by simp [SerialCommand.ofType, h], fun _ => rfl, rfl⟩
  · exact ⟨.restart, by simp [SerialCommand.ofType, h], fun _ => rfl, rfl⟩
  · exact ⟨.wake, by simp [SerialCommand.ofType, h], fun _ => rfl, rfl⟩

theorem SerialCommand.ofType_panel {b : Byte} (h : b.toNat ∈ [0x11, 0x12, 0x13, 0x14]) :
    ∃ cmd, SerialCommand.ofType b = some (.panel cmd) ∧ (SerialCommand.panel cmd).type = b := by
  simp only [List.mem_cons, List.not_mem_nil, or_false] at h
  rcases h with h | h | h | h
  · exact ⟨.silence, by simp [SerialCommand.ofType, h], BitVec.eq_of_toNat_eq h.symm⟩
  · exact ⟨.reset, by simp [SerialCommand.ofType, h], BitVec.eq_of_toNat_eq h.symm⟩
  · exact ⟨.testOn, by simp [SerialCommand.ofType, h], BitVec.eq_of_toNat_eq h.symm⟩
  · exact ⟨.testOff, by simp [SerialCommand.ofType, h], BitVec.eq_of_toNat_eq h.symm⟩

theorem sumByte_iff (type sum : Byte) (payload : List Byte) :
    sum = sumByte type payload ↔ type + byte payload.length + byteSum payload + sum = 0 := by
  rw [sumByte, eq_comm, neg_eq_iff_add_eq_zero]

/-! ## The tests of a complete record, in their order (R180) -/

section
variable {n : Node} {type sum : Byte} {payload : List Byte}

theorem Node.judgeSerial_startUp (h : n.power.phase = .startUp) :
    n.judgeSerial type payload sum = n.answer (rejectAnswer type .state) := by
  simp [Node.judgeSerial, h]

theorem Node.judgeSerial_busy (h : n.power.phase ≠ .startUp) (ha : n.serial.answers ≠ []) :
    n.judgeSerial type payload sum = n.answer (rejectAnswer type .busy) := by
  simp [Node.judgeSerial, h, ha]

theorem Node.judgeSerial_sum (h : n.power.phase ≠ .startUp) (ha : n.serial.answers = [])
    (hsum : sum ≠ sumByte type payload) : n.judgeSerial type payload sum = n.answer (rejectAnswer type .sum) := by
  simp [Node.judgeSerial, h, ha, hsum]

theorem Node.judgeSerial_unknown (h : n.power.phase ≠ .startUp) (ha : n.serial.answers = [])
    (hsum : sum = sumByte type payload) (ht : SerialCommand.ofType type = none) :
    n.judgeSerial type payload sum = n.answer (rejectAnswer type .type) := by
  simp [Node.judgeSerial, h, ha, hsum, ht]

theorem Node.judgeSerial_line {c : SerialCommand} (h : n.power.phase ≠ .startUp) (ha : n.serial.answers = [])
    (hsum : sum = sumByte type payload) (ht : SerialCommand.ofType type = some c)
    (hline : c.takenOn n.onPanel = false) : n.judgeSerial type payload sum = n.answer (rejectAnswer type .type) := by
  simp [Node.judgeSerial, h, ha, hsum, ht, hline]

theorem Node.judgeSerial_length {c : SerialCommand} (h : n.power.phase ≠ .startUp) (ha : n.serial.answers = [])
    (hsum : sum = sumByte type payload) (ht : SerialCommand.ofType type = some c)
    (hline : c.takenOn n.onPanel = true) (hlen : payload.length ≠ c.payloadLength) :
    n.judgeSerial type payload sum = n.answer (rejectAnswer type .length) := by
  simp [Node.judgeSerial, h, ha, hsum, ht, hline, hlen]

theorem Node.judgeSerial_taken {c : SerialCommand} (h : n.power.phase ≠ .startUp) (ha : n.serial.answers = [])
    (hsum : sum = sumByte type payload) (ht : SerialCommand.ofType type = some c)
    (hline : c.takenOn n.onPanel = true) (hlen : payload.length = c.payloadLength) :
    n.judgeSerial type payload sum = n.takeSerial c payload := by
  simp [Node.judgeSerial, h, ha, hsum, ht, hline, hlen]

theorem Node.takePanelCommand_field {cmd : Command} {target : Byte} (h : 63 < target.toNat) :
    n.takePanelCommand cmd target = n.answer (rejectAnswer (SerialCommand.panel cmd).type .field) := by
  have hnone : zoneOfByte target = none := if_neg (by omega)
  simp [Node.takePanelCommand, hnone]

end

/-- The node as a complete record is judged: the receiver hunts again (R180). -/
def Node.hunting (n : Node) : Node := { n with serial := n.serial.hunt }

/-- A record whose judgement owes an answer and does no more. -/
theorem exec_record_answers {s : State} {type sum : Byte} {payload : List Byte} {a : Answer}
    (h : s.node.hunting.judgeSerial type payload sum = s.node.hunting.answer a) :
    ∃ t, exec (.rejectedSerialRecord type payload sum) s = .next t ∧ t.pending = s.pending ∧
      Node.FollowsFrom { s.node with
        serial := { s.node.serial with rx := none, timeout := none, answers := s.node.serial.answers ++ [a] } }
        t.node := by
  have hexec : exec (.rejectedSerialRecord type payload sum) s =
      .next { s with node := (s.node.hunting.judgeSerial type payload sum).settle } := rfl
  refine ⟨_, hexec, rfl, ?_⟩
  rw [h]
  exact Node.settle_follows _

/-- A record with the sum byte of its type and payload is that command's (R180). -/
theorem exec_record_of_sum (s : State) (type : Byte) (payload : List Byte) :
    exec (.rejectedSerialRecord type payload (sumByte type payload)) s =
      s.go (s.node.completeRecord type payload (sumByte type payload)) := rfl

end Sys2Proof.Machine

open Sys2Proof.Machine in
/-- Settles O51: the tests of `Node.judgeSerial` one after the other, and the record of each command. -/
theorem completeRecordsAreJudged : Obligations.CompleteRecordsAreJudged := by
  unfold Obligations.CompleteRecordsAreJudged
  intro s type payload sum owes rejects total
  have hsum : sum = sumByte type payload ↔ total = 0 := sumByte_iff type sum payload
  refine ⟨fun hphase => exec_record_answers (Node.judgeSerial_startUp hphase),
    fun hphase howed => exec_record_answers (Node.judgeSerial_busy hphase howed), fun hphase ha => ?_, fun htotal => ?_⟩
  · refine ⟨fun h => exec_record_answers (Node.judgeSerial_sum hphase ha (fun heq => h (hsum.mp heq))),
      fun h ht => exec_record_answers (Node.judgeSerial_unknown hphase ha (hsum.mpr h) (SerialCommand.ofType_none ht)),
      fun h ht hpanel => ?_, fun h ht hpanel => ?_, fun h ht hlen => ?_, fun h ht hpanel hlen => ?_,
      fun h ht hpanel hlen => ?_, fun h hpanel ht z hz hbig => ?_⟩
    · obtain ⟨c, hc, hline, -⟩ := SerialCommand.ofType_commissioning ht
      exact exec_record_answers (Node.judgeSerial_line hphase ha (hsum.mpr h) hc
        ((hline _).trans (congrArg not hpanel)))
    · obtain ⟨cmd, hc, -⟩ := SerialCommand.ofType_panel ht
      exact exec_record_answers (Node.judgeSerial_line hphase ha (hsum.mpr h) hc hpanel)
    · obtain ⟨c, hc, hline, hzero⟩ := SerialCommand.ofType_both ht
      exact exec_record_answers (Node.judgeSerial_length hphase ha (hsum.mpr h) hc (hline _)
        (by simpa [hzero] using hlen))
    · obtain ⟨c, hc, hline, hzero⟩ := SerialCommand.ofType_commissioning ht
      exact exec_record_answers (Node.judgeSerial_length hphase ha (hsum.mpr h) hc
        ((hline _).trans (congrArg not hpanel)) (by simpa [hzero] using hlen))
    · obtain ⟨cmd, hc, -⟩ := SerialCommand.ofType_panel ht
      exact exec_record_answers (Node.judgeSerial_length hphase ha (hsum.mpr h) hc hpanel hlen)
    · obtain ⟨cmd, hc, htype⟩ := SerialCommand.ofType_panel ht
      have hlen : payload.length = (SerialCommand.panel cmd).payloadLength := by rw [hz]; rfl
      have htaken := Node.judgeSerial_taken (n := s.node.hunting) hphase ha (hsum.mpr h) hc hpanel hlen
      have hfield : s.node.hunting.takeSerial (.panel cmd) payload =
          s.node.hunting.answer (rejectAnswer type .field) := by
        rw [hz, ← htype]
        exact Node.takePanelCommand_field hbig
      exact exec_record_answers (htaken.trans hfield)
  · rw [hsum.mpr htotal]
    refine ⟨fun hp => ?_, fun z hz => ?_⟩
    · rw [hp]
      refine ⟨?_, ?_, ?_, ?_, ?_⟩ <;> (intro ht; rw [ht]; rfl)
    · rw [hz]
      refine ⟨?_, ?_, ?_, ?_⟩ <;> (intro ht; rw [ht]; rfl)

open Sys2Proof.Machine in
/-- Settles O52: the byte by what the receiver holds, and the timeout. -/
theorem serialBytesMakeRecords : Obligations.SerialBytesMakeRecords := by
  unfold Obligations.SerialBytesMakeRecords
  intro s b
  have kept : ∀ bs, s.node.serial.rx = some bs → wholeRecord (bs ++ [b]) = false →
      exec (.serialByte b) s = .next { s with node := { s.node with serial := { s.node.serial with
        rx := some (bs ++ [b]), timeout := some (later s.node.clock 20) } } } := by
    intro bs hrx hwhole
    show s.go (s.node.takeByte b) = _
    simp only [Node.takeByte, hrx, hwhole]
    rfl
  refine ⟨fun hrx hb => ?_, fun hrx hb => ?_, fun bs hrx hlen => kept bs hrx (by simp [wholeRecord]; omega),
    fun type len payload hrx => ⟨fun hlen => kept _ hrx ?_, fun hlen => ?_⟩, fun bs hrx hdue => ?_⟩
  · obtain ⟨claims, osc, h⟩ := s.go_woken s.node
    refine ⟨claims, osc, ?_⟩
    show s.go (s.node.takeByte b) = _
    simp only [Node.takeByte, hrx, beq_iff_eq, hb, if_false]
    exact h
  · have htaken : s.node.takeByte b = Node.settleWoken { s.node with serial := s.node.serial.await [] s.node.clock } := by
      simp [Node.takeByte, hrx, hb]
    refine ⟨_, congrArg s.go htaken, rfl, Node.settleWoken_follows _⟩
  · simp [wholeRecord]
    omega
  · have hwhole : wholeRecord (type :: len :: payload ++ [b]) = true := by
      simp [wholeRecord, hlen]
      omega
    have hpayload : ((type :: len :: payload ++ [b]).drop 2).dropLast = payload := by simp
    have hlast : (type :: len :: payload ++ [b]).getLastD 0 = b := by simp [List.getLastD]
    have htaken : s.node.takeByte b = s.node.completeRecord type payload b := by
      simp only [Node.takeByte, hrx, hwhole, if_true, hpayload, hlast]
      rfl
    exact congrArg s.go htaken
  · refine ⟨{ s with node := (s.node.abandonRecord bs).settleWoken }, rejectAnswer (framingType s.node bs) .framing,
      ?_, ?_, ?_, ?_, ?_⟩
    · simp [exec, execSerialRecordTimeout, hrx, hdue, State.go]
    · exact (Node.settleWoken_follows _).serialRx
    · exact (Node.settleWoken_follows _).serialTimeout
    · exact (Node.settleWoken_follows _).serialAnswers
    · intro type rest hbs
      rw [hbs]
      rfl

namespace Sys2Proof.Machine

/-- What a PARK and a RESTART leave alike, before the settling (R179). -/
structure Node.Reset (n m : Node) : Prop where
  clock : m.clock = n.clock
  evidence : m.evidence = n.evidence.restarted
  rx : m.rx = { Receiver.powerOn with carrier := n.rx.carrier }
  queue : m.tx.queue = []
  engine : m.tx.engine = .idle
  alarm : m.alarm = .atReset
  peers : m.peers = .empty
  seen : m.relay.seen = []
  watch : m.relay.watch = []
  link : m.link = .zero
  timer : m.timer = .stopped
  serial : m.serial = .empty
  out : m.out = n.out.restarted
  rests : m.active = false

/-- The node as its answer leaves the line (R180). -/
def Node.answered (n : Node) (rest : List Answer) : Node :=
  { n with serial := { n.serial with answers := rest, tx := .idle } }

theorem Node.park_reset (n : Node) (rest : List Answer) : n.Reset ((n.answered rest).afterAnswer .park) := by
  constructor <;> rfl

theorem Node.restart_reset (n : Node) (rest : List Answer) : n.Reset ((n.answered rest).afterAnswer .restart) := by
  constructor <;> rfl

theorem Node.Reset.settled {n m : Node} (h : n.Reset m) :
    m.settle.clock = n.clock ∧ m.settle.evidence.accI = n.evidence.accI ∧
    m.settle.evidence.accB = n.evidence.accB ∧ m.settle.evidence.seedPending = n.evidence.seedPending ∧
    m.settle.evidence.settling = 8 ∧ m.settle.rx.state = .off ∧ m.settle.rx.carrier = n.rx.carrier ∧
    m.settle.tx.queue = [] ∧ m.settle.tx.engine = .idle ∧ m.settle.alarm = AlarmUnit.atReset ∧
    m.settle.peers = PeerTable.empty ∧ m.settle.relay.seen = [] ∧ m.settle.relay.watch = [] ∧
    m.settle.link = ⟨0, 0⟩ ∧ m.settle.timer.running = false ∧ m.settle.serial = Serial.empty ∧
    m.settle.out.offBase = n.out.offBase ∧ m.settle.out.testPressed = n.out.testPressed ∧
    m.settle.out.overlay = none ∧ m.settle.out.hold = .none := by
  have hf := m.settle_follows
  have hengine : m.settle.tx.engine = .idle := by
    rw [(Node.phaseStays_of_inactive h.rests).engine, if_neg, h.engine]
    rintro ⟨hgap | hwait, -⟩
    · rw [h.engine] at hgap
      cases hgap
    · rw [h.engine] at hwait
      cases hwait
  have halarm : m.settle.alarm = AlarmUnit.atReset := by
    rw [m.settle_alarm, Node.wantsFast_of_rest h.alarm, h.alarm]
    rfl
  refine ⟨hf.clock.trans h.clock, ?_, ?_, ?_, ?_, Node.settle_rx_off h.rests, ?_, hf.txQueue.trans h.queue, hengine,
    halarm, hf.peers.trans h.peers, ?_, ?_, hf.link.trans h.link, ?_, Node.settle_serial_of_empty h.serial, ?_, ?_, ?_, ?_⟩
  · rw [hf.evidence, h.evidence]; rfl
  · rw [hf.evidence, h.evidence]; rfl
  · rw [hf.evidence, h.evidence]; rfl
  · rw [hf.evidence, h.evidence]; rfl
  · rw [hf.rxCarrier, h.rx]
  · rw [hf.relay, h.seen]
  · rw [hf.relay, h.watch]
  · rw [hf.timerRunning, h.timer]; rfl
  · rw [hf.outOffBase, h.out]; rfl
  · rw [hf.outTestPressed, h.out]; rfl
  · rw [hf.outOverlay, h.out]; rfl
  · rw [hf.outHold, h.out]; rfl

/-- An answer being sent leaves the line, and what it set off is taken (R180, R182). -/
theorem exec_answerSent {s : State} {a : Answer} {rest : List Answer} (htx : s.node.serial.tx = .answer)
    (ha : s.node.serial.answers = a :: rest) :
    exec .answerSent s = .next { s with node := ((s.node.answered rest).afterAnswer a.action).settle } := by
  simp [exec, execAnswerSent, htx, ha, State.go, Node.answered]

end Sys2Proof.Machine

open Sys2Proof.Machine in
/-- Settles O53: by what the answer sets off. -/
theorem answerSentTakesItsReset : Obligations.AnswerSentTakesItsReset := by
  unfold Obligations.AnswerSentTakesItsReset
  intro s a rest htx ha
  obtain ⟨m, hm⟩ : ∃ m, m = (s.node.answered rest).afterAnswer a.action := ⟨_, rfl⟩
  have hexec : exec .answerSent s = .next { s with node := m.settle } := by
    rw [hm]
    exact exec_answerSent htx ha
  have hf := m.settle_follows
  refine ⟨_, hexec, rfl, ?_⟩
  cases haction : a.action with
  | none =>
    rw [haction] at hm
    exact ⟨fun _ => hm ▸ hf, fun h => absurd rfl h, nofun, nofun⟩
  | park =>
    rw [haction] at hm
    have hreset : s.node.Reset m := hm ▸ s.node.park_reset rest
    have hstays : m.PhaseStays := Node.phaseStays_of_inactive hreset.rests
    refine ⟨nofun, fun _ => hreset.settled, fun _ => ⟨Eq.trans hstays ?_, ?_, ?_, ?_, ?_⟩, nofun⟩
    · rw [hm]; rfl
    · rw [hf.powerParked, hm]; rfl
    · rw [hf.loader, hm]; rfl
    · rw [m.settle_amber, m.selectAmber_pattern, hm]; rfl
    · rw [hf.txOneHop, hm]; rfl
  | restart =>
    rw [haction] at hm
    have hreset : s.node.Reset m := hm ▸ s.node.restart_reset rest
    have hstays : m.PhaseStays := Node.phaseStays_of_inactive hreset.rests
    refine ⟨nofun, fun _ => hreset.settled, nofun, fun _ => ⟨Eq.trans hstays ?_, ?_, ?_, ?_⟩⟩
    · rw [hm]; rfl
    · rw [hf.loader, hm]; rfl
    · rw [m.settle_amber, m.selectAmber_pattern, hm]; rfl
    · rw [hf.txOneHop, hm]; rfl
end

section
/-! Use deliveries: the RUN hold, and what an ALARM or a CONTROL does (R76 to R81, R133, R165). -/

namespace Sys2Proof.Machine

/-! ## The end of a use delivery -/

theorem Node.reportUse_rx (n : Node) (c : FrameClass) : (n.reportUse c).rx = n.rx := by
  unfold Node.reportUse
  split <;> rfl

/-- The consumer has taken the frame of the slot in service: the slot is FREE, and the rest follows (R131, R133). -/
theorem exec_useDelivery_ends {s : State} {i : Nat} {x : Slot} {m : Node}
    (hs : s.node.rx.service = some ⟨i, .useDelivery⟩) (hx : s.node.rx.slots[i]? = some (some x))
    (hm : (s.node.reportUse x.frame.cls).consume x.frame = m) :
    ∃ t, exec .useDelivery s = .next t ∧ t.pending = s.pending ∧
      Node.FollowsFrom { m with rx := m.rx.endService i } t.node ∧ t.node.rx.slots[i]? = some none ∧
      (m.active = true → m.power.runHold.isSome = true → t.node.power.phase = .run) ∧
      (m.serial.tx ≠ .idle → t.node.serial = m.serial) := by
  have hrx : m.rx = s.node.rx := by
    rw [← hm, ((s.node.reportUse x.frame.cls).consume_acts x.frame).rx, Node.reportUse_rx]
  have hlen : i < m.rx.slots.length := by
    rw [hrx]
    exact lt_of_getElem?_some hx
  obtain ⟨k, hk⟩ : ∃ k : Node, k = { m with rx := m.rx.endService i } := ⟨_, rfl⟩
  have hexec : exec .useDelivery s = .next { s with node := k.settle } := by
    simp only [exec, execUseDelivery, Receiver.serving_of hs hx, hm, hk]
    rfl
  have hf := k.settle_follows
  have hkrx : k.rx = m.rx.endService i := by rw [hk]
  have hkserial : k.serial = m.serial := by rw [hk]
  have hkactive : k.active = m.active := by rw [hk]; rfl
  have hkhold : k.power.runHold = m.power.runHold := by rw [hk]
  refine ⟨_, hexec, rfl, hk ▸ hf, ?_, fun hact hhold => ?_, fun hbusy => ?_⟩
  · rw [hf.rxSlots, hkrx]
    exact Receiver.endService_free hlen
  · rw [Node.settle_phase, hkactive, hkhold, hact, hhold]
    simp
  · rw [← hkserial] at hbusy ⊢
    exact Node.settle_serial_of_busy hbusy

/-- The RUN hold of a delivered ALARM or CONTROL (R165). -/
def Node.held (n : Node) : Node := { n with power := { n.power with runHold := some (later n.clock 307200) } }

theorem Node.consume_alarm (n : Node) {f : Frame} {cause : Cause} {lv q hx : Byte} (h : f.body = .alarm cause lv q hx) :
    (n.reportUse f.cls).consume f = n.held.remoteAlarm f.hdr cause lv q hx := by
  simp only [Node.consume, Frame.cls, h]
  rfl

theorem Node.consume_control (n : Node) {f : Frame} {cmd : Command} {zone : ZoneCode} (h : f.body = .control cmd zone) :
    (n.reportUse f.cls).consume f = n.held.control cmd zone f.hdr.origin f.hdr.zone := by
  simp only [Node.consume, Frame.cls, h]
  rfl

/-! ## CONTROL commands (R77 to R81) -/

section
variable {n : Node} {c : Command} {target : ZoneCode} {origin : Byte} {zone : ZoneCode}

/-- For another zone a command is not applied (R77). -/
theorem Node.control_elsewhere (h : ¬(target = 0 ∨ target = n.cfg.zone)) : n.control c target origin zone = n := by
  obtain ⟨hzero, hzone⟩ := not_or.mp h
  have hother : (target != 0 && target != n.cfg.zone) = true :=
    Bool.and_eq_true_iff.mpr ⟨bne_iff_ne.mpr hzero, bne_iff_ne.mpr hzone⟩
  exact if_pos hother

/-- A TEST_ON in ALARM is refused (R81). -/
theorem Node.control_refused (h : n.alarm.state = .alarm) : n.control .testOn target origin zone = n := by
  simp [Node.control, Node.refusesCommand, h]

theorem Node.control_applied (h : target = 0 ∨ target = n.cfg.zone) (hr : c = .testOn → n.alarm.state ≠ .alarm) :
    n.control c target origin zone = (n.applyCommand c).record (n.controlRecord c origin zone) := by
  have hzone : (target != 0 && target != n.cfg.zone) = false := by
    rcases h with h | h <;> simp [h]
  have haccepted : n.refusesCommand c = false := by
    cases c with
    | testOn => simpa [Node.refusesCommand] using hr rfl
    | _ => rfl
  unfold Node.control
  rw [if_neg (by rw [hzone]; nofun), if_neg (by rw [haccepted]; nofun)]

/-- TEST_ON outside ALARM starts walk test (R81). -/
theorem Node.applyCommand_testOn (h : n.alarm.state ≠ .alarm) : n.applyCommand .testOn =
    { n with alarm := { n.alarm with walkTest := some (later n.clock 1843200) } } := by
  simp [Node.applyCommand, h]

end

/-- The alarm side at rest, as an applied RESET leaves it before it clears PRE_ALARM (R79). -/
def Node.rested (n : Node) : Node :=
  { n with alarm := { n.alarm with
      state := .quiet, confirmCount := 0, hysteresis := 0, limit := none, origins := []
      silenced := false, remote := false, testSound := none } }

theorem Node.applyReset_eq (n : Node) : n.applyReset = n.rested.deliver [.clear .preAlarm none] := rfl

/-! ## Remote ALARMs (R76) -/

section
variable {n : Node} {h : Header} {cause : Cause} {lv q hx : Byte}

/-- The node's own ALARM is ignored. -/
theorem Node.remoteAlarm_own (ho : h.origin = n.cfg.address) : n.remoteAlarm h cause lv q hx = n := by
  simp [Node.remoteAlarm, ho]

/-- A test ALARM only forms its record. -/
theorem Node.remoteAlarm_test (ho : h.origin ≠ n.cfg.address) (ht : h.test = true) :
    n.remoteAlarm h cause lv q hx = n.record (n.alarmRecord true h.origin h.zone cause lv q hx) := by
  simp [Node.remoteAlarm, ho, ht]

/-- The ALARM of another node is noted in the origin list, and recorded on the panel node; where it is no new own-zone
origin of a unit that waits at N, nothing more is done. -/
theorem Node.remoteAlarm_noted (ho : h.origin ≠ n.cfg.address) (ht : h.test = false) {a : AlarmUnit}
    (ha : n.alarm.noteOrigin ⟨h.origin, h.zone, cause, n.clock⟩ = a)
    (hq : a.origins.length = n.alarm.origins.length ∨ h.zone ≠ n.cfg.zone ∨ a.state ≠ .confirming ∨
      a.confirmCount ≠ n.cfg.confirm) :
    n.remoteAlarm h cause lv q hx =
      Node.record { n with alarm := a } (n.alarmRecord false h.origin h.zone cause lv q hx) := by
  have hcfg : (Node.record { n with alarm := a } (n.alarmRecord false h.origin h.zone cause lv q hx)).cfg = n.cfg := by
    rw [Node.record_eq]
    rfl
  have hquiet : Node.reevaluate (Node.record { n with alarm := a }
        (n.alarmRecord false h.origin h.zone cause lv q hx)) =
      Node.record { n with alarm := a } (n.alarmRecord false h.origin h.zone cause lv q hx) ∨
      a.origins.length = n.alarm.origins.length ∨ h.zone ≠ n.cfg.zone := by
    rcases hq with hq | hq | hq | hq
    · exact .inr (.inl hq)
    · exact .inr (.inr hq)
    · exact .inl (by simp [Node.reevaluate, hq])
    · exact .inl (by simp [Node.reevaluate, hq, hcfg])
  simp only [Node.remoteAlarm, beq_iff_eq, ho, if_false, ht, Bool.false_eq_true, ha]
  rcases hquiet with hquiet | hquiet | hquiet
  · rw [hquiet, ite_self]
  · rw [if_neg (by simp [hquiet])]
  · rw [if_neg (by simp [hquiet])]

end

/-- A listed origin keeps its place, with the new cause and stamp (R76). -/
theorem AlarmUnit.noteOrigin_listed {a : AlarmUnit} {o e : OriginEntry} {before after : List OriginEntry}
    (h : a.origins = before ++ e :: after) (he : e.address = o.address) (hb : ∀ y ∈ before, y.address ≠ o.address) :
    a.noteOrigin o = { a with origins := before ++ { e with cause := o.cause, stamp := o.stamp } :: after } := by
  have hany : a.origins.any (fun x => x.address == o.address) = true := by simp [h, he]
  unfold AlarmUnit.noteOrigin
  rw [if_pos hany, h, updateFirst_append _ _ _ _ _ (by simpa using hb) (by simpa using he)]

theorem AlarmUnit.noteOrigin_new {a : AlarmUnit} {o : OriginEntry} (h : ∀ y ∈ a.origins, y.address ≠ o.address) :
    a.noteOrigin o = { a with
      origins := if a.origins.length < 8 then a.origins ++ [o] else a.origins, silenced := false, remote := true } := by
  have hany : a.origins.any (fun x => x.address == o.address) = false := by simpa using h
  unfold AlarmUnit.noteOrigin
  rw [hany]
  rfl

/-- A confirmation leaves the remote-alarm flag, and sounds no silenced alarm (R72, R82). -/
theorem Node.confirm_flags (n : Node) (lv : Nat) : (n.confirm lv).alarm.remote = n.alarm.remote ∧
    (n.alarm.silenced = false → (n.confirm lv).alarm.silenced = false) := by
  unfold Node.confirm
  split
  · obtain ⟨-, -, -, -, -, -, hsilenced, -⟩ := n.testConfirm_alarm lv
    exact ⟨by simp [Node.testConfirm, Node.originate], hsilenced.trans⟩
  · have hdrop : ∀ m : Node, (m.dropNotice .preAlarm none).alarm.remote = m.alarm.remote := fun m =>
      (m.dropNotice_reported _ _).alarmRemote
    obtain ⟨-, -, hsilenced, -⟩ := n.enterAlarm_alarm lv
    exact ⟨by simp [Node.enterAlarm, Node.originate, hdrop, AlarmUnit.addOwnOrigin], fun _ => hsilenced⟩

/-- The ALARM of a new origin clears the silenced flag and sets the remote-alarm flag, whatever follows (R76). -/
theorem Node.remoteAlarm_flags {n : Node} {h : Header} {cause : Cause} {lv q hx : Byte} (ho : h.origin ≠ n.cfg.address)
    (ht : h.test = false) (hnew : ∀ o ∈ n.alarm.origins, o.address ≠ h.origin) :
    (n.remoteAlarm h cause lv q hx).alarm.silenced = false ∧ (n.remoteAlarm h cause lv q hx).alarm.remote = true := by
  have hnoted := AlarmUnit.noteOrigin_new (o := ⟨h.origin, h.zone, cause, n.clock⟩) hnew
  obtain ⟨m, hm⟩ : ∃ m, m = Node.record { n with alarm := n.alarm.noteOrigin ⟨h.origin, h.zone, cause, n.clock⟩ }
      (n.alarmRecord false h.origin h.zone cause lv q hx) := ⟨_, rfl⟩
  have hflags : m.alarm.silenced = false ∧ m.alarm.remote = true := by
    rw [hm, Node.record_alarm, hnoted]
    exact ⟨rfl, rfl⟩
  have hends : n.remoteAlarm h cause lv q hx = m.reevaluate ∨ n.remoteAlarm h cause lv q hx = m := by
    simp only [Node.remoteAlarm, beq_iff_eq, ho, if_false, ht, Bool.false_eq_true, ← hm]
    split
    · exact .inl rfl
    · exact .inr rfl
  rcases hends with hends | hends
  · rw [hends]
    unfold Node.reevaluate
    split
    · exact ⟨(m.confirm_flags _).2 hflags.1, (m.confirm_flags _).1.trans hflags.2⟩
    · exact hflags
  · rw [hends]
    exact hflags

end Sys2Proof.Machine

open Sys2Proof.Machine in
/-- Settles O40: the ALARM of the node's own, a test, a listed origin and a new one. -/
theorem deliveredAlarmIsTaken : Obligations.DeliveredAlarmIsTaken := by
  unfold Obligations.DeliveredAlarmIsTaken
  intro s i x cause lv q hx hs hslot hbody
  obtain ⟨n, hn⟩ : ∃ n, n = s.node.held := ⟨_, rfl⟩
  obtain ⟨m, hm⟩ : ∃ m, m = n.remoteAlarm x.frame.hdr cause lv q hx := ⟨_, rfl⟩
  have hacts : n.ActsFrom m := hm ▸ n.remoteAlarm_acts _ _ _ _ _
  have hconsume : (s.node.reportUse x.frame.cls).consume x.frame = m := by
    rw [s.node.consume_alarm hbody, hm, hn]
  obtain ⟨t, hexec, hpending, hf, hfree, hrun, hserial⟩ := exec_useDelivery_ends hs hslot hconsume
  have hhold : m.power.runHold = some (later s.node.clock 307200) := by rw [hacts.power, hn]; rfl
  have hactive : m.active = s.node.active := by
    rw [Node.active_eq_of_phase (congrArg Power.phase hacts.power), hn]
    rfl
  have hcfg : n.cfg = s.node.cfg := by rw [hn]; rfl
  have halarm : n.alarm = s.node.alarm := by rw [hn]; rfl
  have htx : n.tx = s.node.tx := by rw [hn]; rfl
  have hclock : n.clock = s.node.clock := by rw [hn]; rfl
  refine ⟨t, hexec, hpending, hf.powerRunHold.trans hhold, fun hact => hrun (hactive.trans hact) (by simp [hhold]), hfree,
    hf.evidence.trans (hacts.evidence.trans (by rw [hn]; rfl)), ?_⟩
  simp only [hf.alarmState, hf.alarmConfirmCount, hf.alarmHysteresis, hf.alarmLimit, hf.alarmNotices, hf.alarmLastEvent,
    hf.alarmWalkTest, hf.alarmTestSound, hf.alarmSilenced, hf.alarmRemote, hf.alarmOrigins, hf.txQueue]
  have hrecorded : ∀ (a : AlarmUnit) (r : EventRecord), m = Node.record { n with alarm := a } r →
      m.alarm = a ∧ m.tx.queue = s.node.tx.queue := by
    intro a r h
    rw [h]
    exact ⟨Node.record_alarm _ _, by rw [Node.record_tx, ← htx]⟩
  refine ⟨fun h => ?_, fun hown hbusy => ?_, fun hother htest => ⟨fun before o after hlist ho hbefore => ?_, fun hnone => ?_⟩⟩
  · have hsame : m.alarm = s.node.alarm ∧ m.tx.queue = s.node.tx.queue := by
      by_cases hown : x.frame.hdr.origin = n.cfg.address
      · rw [hm, Node.remoteAlarm_own hown, halarm, htx]
        exact ⟨rfl, rfl⟩
      · have ht : x.frame.hdr.test = true := h.resolve_left (by rw [← hcfg]; exact hown)
        rw [← halarm]
        exact hrecorded n.alarm _ (hm.trans (Node.remoteAlarm_test hown ht))
    rw [hsame.1, hsame.2]
    simp
  · have hkept : m = n := hm.trans (Node.remoteAlarm_own (by rw [hcfg]; exact hown))
    have hserialKept : m.serial = s.node.serial := by rw [hkept, hn]; rfl
    rw [hserial (by rw [hserialKept]; exact hbusy), hserialKept]
  · rw [← hcfg] at hother
    rw [← halarm] at hlist
    have hnoted := AlarmUnit.noteOrigin_listed (o := ⟨x.frame.hdr.origin, x.frame.hdr.zone, cause, n.clock⟩) hlist ho hbefore
    obtain ⟨ha, hq⟩ := hrecorded _ _ (hm.trans (Node.remoteAlarm_noted hother htest hnoted (.inl (by simp [hlist]))))
    rw [ha, hq, halarm, hclock]
    simp
  · rw [← hcfg] at hother
    rw [← halarm] at hnone
    have hnoted := AlarmUnit.noteOrigin_new (o := ⟨x.frame.hdr.origin, x.frame.hdr.zone, cause, n.clock⟩) hnone
    have hflags := Node.remoteAlarm_flags (cause := cause) (lv := lv) (q := q) (hx := hx) hother htest hnone
    refine ⟨hm ▸ hflags.1, hm ▸ hflags.2, fun hfull => ?_, fun hroom hrest => ?_⟩
    · rw [← halarm] at hfull
      rw [if_neg (by omega)] at hnoted
      obtain ⟨ha, hq⟩ := hrecorded _ _ (hm.trans (Node.remoteAlarm_noted hother htest hnoted (.inl rfl)))
      rw [ha, hq, halarm]
      simp
    · rw [← halarm] at hroom hrest
      rw [if_pos hroom] at hnoted
      obtain ⟨ha, hq⟩ := hrecorded _ _ (hm.trans (Node.remoteAlarm_noted hother htest hnoted (.inr (hcfg ▸ hrest))))
      rw [ha, hq, halarm, hclock]
      simp

open Sys2Proof.Machine in
/-- Settles O42: the command elsewhere, and each command where it is applied. -/
theorem deliveredControlIsApplied : Obligations.DeliveredControlIsApplied := by
  unfold Obligations.DeliveredControlIsApplied
  intro s i x cmd zone hs hslot hbody
  obtain ⟨n, hn⟩ : ∃ n, n = s.node.held := ⟨_, rfl⟩
  obtain ⟨m, hm⟩ : ∃ m, m = n.control cmd zone x.frame.hdr.origin x.frame.hdr.zone := ⟨_, rfl⟩
  have hacts : n.ActsFrom m := hm ▸ n.control_acts _ _ _ _
  have hconsume : (s.node.reportUse x.frame.cls).consume x.frame = m := by
    rw [s.node.consume_control hbody, hm, hn]
  obtain ⟨t, hexec, -, hf, hfree, -, -⟩ := exec_useDelivery_ends hs hslot hconsume
  have hcfg : n.cfg = s.node.cfg := by rw [hn]; rfl
  have halarm : n.alarm = s.node.alarm := by rw [hn]; rfl
  have hclock : n.clock = s.node.clock := by rw [hn]; rfl
  refine ⟨t, hexec, hf.powerRunHold.trans (by rw [hacts.power, hn]; rfl), hfree,
    hf.evidence.trans (hacts.evidence.trans (by rw [hn]; rfl)), hf.peers.trans (hacts.peers.trans (by rw [hn]; rfl)), ?_⟩
  simp only [hf.alarmState, hf.alarmConfirmCount, hf.alarmHysteresis, hf.alarmLimit, hf.alarmNotices,
    hf.alarmWalkTest, hf.alarmTestSound, hf.alarmSilenced, hf.alarmRemote, hf.alarmOrigins]
  rw [← hcfg, ← halarm, ← hclock]
  refine ⟨fun h => ?_, fun h hc => ?_, fun h hc => ?_, fun h hc => ?_, fun h hc => ?_⟩
  · rw [hm, Node.control_elsewhere h]
    simp
  · rw [hm, hc, Node.control_applied h (by simp), Node.record_alarm]
    simp [Node.applyCommand]
  · rw [hm, hc, Node.control_applied h (by simp), Node.record_alarm]
    have hclear : NoticeItem.mk .preAlarm none ∉ (n.applyCommand .reset).alarm.notices ∨ n.active = false := by
      by_cases hact : n.active = true
      · refine .inl (Node.deliver_cleared (by decide) _ n.rested hact (by simp) (.inr (by simp)))
      · exact .inr (by simpa using hact)
    have hactive : s.node.active = n.active := by rw [hn]; rfl
    refine ⟨?_, ?_, ?_, ?_, ?_, ?_, ?_, ?_, ?_, fun hact => hclear.resolve_right (by rw [← hactive, hact]; nofun)⟩
    all_goals simp [Node.applyCommand, Node.applyReset_eq, Node.rested]
  · by_cases hstate : n.alarm.state = .alarm
    · rw [hm, hc, Node.control_refused hstate]
      simp [hstate]
    · rw [hm, hc, Node.control_applied h (fun _ => hstate), Node.record_alarm, Node.applyCommand_testOn hstate]
      simp [hstate]
  · rw [hm, hc, Node.control_applied h (by simp), Node.record_alarm]
    simp [Node.applyCommand, AlarmUnit.endTest]
end

section
/-! The replies to STATUS and PEERS, and the commands of the two lines (R63, R180 to R184). -/

namespace Sys2Proof.Machine

/-! ## A command's record arrives -/

section
variable {s : State} {c : SerialCommand} {payload : List Byte}

/-- With no answer owed, a command of this line is taken (R180). -/
theorem State.arrive_taken (hphase : s.node.power.phase ≠ .startUp) (ha : s.node.serial.answers = [])
    (hline : c.takenOn s.node.onPanel = true) (hlen : payload.length = c.payloadLength) :
    s.go (s.node.arrive c payload) = .next { s with node := (s.node.hunting.takeSerial c payload).settle } :=
  congrArg (fun n : Node => s.go n.settle) (Node.judgeSerial_taken (n := s.node.hunting) hphase ha rfl
    (SerialCommand.ofType_type c) hline hlen)

/-- A command of the other line is rejected (R180). -/
theorem State.arrive_elsewhere (hphase : s.node.power.phase ≠ .startUp) (ha : s.node.serial.answers = [])
    (hline : c.takenOn s.node.onPanel = false) :
    s.go (s.node.arrive c payload) =
      .next { s with node := (s.node.hunting.answer (rejectAnswer c.type .type)).settle } :=
  congrArg (fun n : Node => s.go n.settle) (Node.judgeSerial_line (n := s.node.hunting) hphase ha rfl
    (SerialCommand.ofType_type c) hline)

end

/-- The one answer owed where none was. -/
theorem Node.hunting_answer {n : Node} (ha : n.serial.answers = []) (a : Answer) : n.hunting.answer a =
    { n with serial := { n.serial with rx := none, timeout := none, answers := [a] } } := by
  simp [Node.hunting, Serial.hunt, Node.answer, ha]

/-! ## The bytes of the replies (Tables 11-5 and 11-6) -/

theorem bytes4_eq (v : Stamp) : bytes4 v =
    [byte (v.toNat / 16777216), byte (v.toNat / 65536), byte (v.toNat / 256), byte v.toNat] := by
  have hbyte : ∀ k, v.extractLsb' k 8 = byte (v.toNat / 2 ^ k) := by
    intro k
    refine BitVec.eq_of_toNat_eq ?_
    simp [byte, BitVec.extractLsb'_toNat, Nat.shiftRight_eq_div_pow]
  simp [bytes4, hbyte]

theorem zone_byte (z : ZoneCode) : z.zeroExtend 8 = byte z.toNat := by
  refine BitVec.eq_of_toNat_eq ?_
  simp [byte]

theorem Link.state_code (l : Link) : l.state.code.zeroExtend 8 =
    if 256 ≤ l.efc then (2 : Byte) else if 127 < l.efc ∨ 127 < l.rfc then 1 else 0 := by
  unfold Link.state
  by_cases h : 256 ≤ l.efc
  · rw [if_pos h, if_pos h]; rfl
  · rw [if_neg h, if_neg h]
    by_cases h' : 127 < l.efc ∨ 127 < l.rfc
    · rw [if_pos (by simpa using h'), if_pos h']; rfl
    · rw [if_neg (by simpa using h'), if_neg h']; rfl

theorem flagByte_eq (b : Bool) : flagByte b = if b then 1 else 0 := rfl

theorem captureBytes_length {c : Option Capture} (h : ∀ x, c = some x → x.header.length = 7) :
    (captureBytes c).length = 12 := by
  cases c with
  | none => rfl
  | some x => simp [captureBytes, h x rfl, bytes4]

theorem Node.statusPayload_length (n : Node) (h : ∀ c, n.rx.capture = some c → c.header.length = 7) :
    n.statusPayload.length =
      43 + n.loader.clamps.length + 2 * n.alarm.notices.length + 7 * n.alarm.origins.length := by
  have hitems : (n.alarm.notices.flatMap NoticeItem.bytes).length = 2 * n.alarm.notices.length := by
    simp [List.length_flatMap, NoticeItem.bytes, Nat.mul_comm]
  have horigins : (n.alarm.origins.flatMap OriginEntry.bytes).length = 7 * n.alarm.origins.length := by
    simp [List.length_flatMap, OriginEntry.bytes, bytes4, Nat.mul_comm]
  simp only [Node.statusPayload, List.length_append, List.length_cons, List.length_nil, List.length_map, hitems, horigins,
    captureBytes_length h, bytes2, bytes4, Node.statistics]
  omega

/-- What the PEERS reply says of a table entry (Table 11-6). -/
def peerEntry (now : Stamp) (x : Option Peer × Nat) : List Byte := x.1.elim [] (fun p => p.bytes now x.2)

theorem entryBytes_eq (now : Stamp) (es : List (Option Peer)) : ∀ i,
    entryBytes now i es = (es.zipIdx i).flatMap (peerEntry now) := by
  induction es with
  | nil => exact fun _ => rfl
  | cons e es ih =>
    intro i
    cases e with
    | none => exact (ih (i + 1)).trans (by simp [List.zipIdx_cons, peerEntry])
    | some p => exact (congrArg (p.bytes now i ++ ·) (ih (i + 1))).trans (by simp [List.zipIdx_cons, peerEntry])

theorem Peer.bytes_length (p : Peer) (now : Stamp) (i : Nat) : (p.bytes now i).length = 12 := by
  cases hv : p.pv <;> simp [Peer.bytes, pvBytes, bytes2, hv]

theorem entryBytes_length (now : Stamp) (es : List (Option Peer)) : ∀ i,
    (entryBytes now i es).length = 12 * (es.filter Option.isSome).length := by
  induction es with
  | nil => exact fun _ => rfl
  | cons e es ih =>
    intro i
    cases e with
    | none => simpa [entryBytes] using ih (i + 1)
    | some p =>
      simp only [entryBytes, List.length_append, Peer.bytes_length, ih (i + 1), Option.isSome_some, List.filter_cons_of_pos,
        List.length_cons]
      omega

/-- A STATUS taken on an empty line: the statistics cleared, and one answer owed (R181). -/
theorem Node.hunting_takeStatus {n : Node} (ha : n.serial.answers = []) : n.hunting.takeStatus =
    { n with
      sensing := { n.sensing with skipped := 0 }
      peers := { n.peers with untracked := 0 }
      tx := { n.tx with drops := 0, losses := 0 }
      rx := { n.rx with badFrames := 0, foreign := 0, overruns := 0 }
      serial := { n.serial with
        rx := none, timeout := none, answers := [⟨frameRecord 0x84 n.statusPayload, .none⟩] } } := by
  have hpayload : n.hunting.statusPayload = n.statusPayload := rfl
  rw [Node.takeStatus, hpayload]
  simp [Node.hunting, Serial.hunt, Node.clearStatistics, Node.answer, ha]

theorem OriginEntry.bytes_eq (o : OriginEntry) : o.bytes = [o.address, byte o.zone.toNat, o.cause.code] ++
    [byte (o.stamp.toNat / 16777216), byte (o.stamp.toNat / 65536), byte (o.stamp.toNat / 256), byte o.stamp.toNat] := by
  rw [OriginEntry.bytes, bytes4_eq, zone_byte]

/-- The four fields of a peer entry that may be absent (Table 11-6). -/
theorem Peer.bytes_fields (p : Peer) (now : Stamp) :
    (p.zone.map (fun z => z.zeroExtend 8)).getD 255 = (match p.zone with
      | none => (255 : Byte) | some z => byte z.toNat) ∧
    (p.role.map (fun r => r.code.zeroExtend 8)).getD 255 = (match p.role with
      | none => (255 : Byte) | some .detector => 0 | some .repeater => 1 | some .panelAttached => 2) ∧
    (p.alarm.map (fun a => a.code.zeroExtend 8)).getD 255 = (match p.alarm with
      | none => (255 : Byte) | some .quiet => 0 | some .watch => 1 | some .confirming => 2 | some .alarm => 3) ∧
    pvBytes now p.pv = (match p.pv with
      | none => [255, 255, 255]
      | some v => [v.value, byte (elapsed now v.stamp / 1024 / 256), byte (elapsed now v.stamp / 1024)]) := by
  refine ⟨?_, ?_, ?_, ?_⟩
  · cases p.zone with
    | none => rfl
    | some z => exact zone_byte z
  · cases p.role with
    | none => rfl
    | some r => cases r <;> rfl
  · cases p.alarm with
    | none => rfl
    | some a => cases a <;> rfl
  · cases p.pv <;> rfl

end Sys2Proof.Machine

open Sys2Proof.Machine in
/-- Settles O49: the two replies byte by byte. -/
theorem statusAndPeersAreAnswered : Obligations.StatusAndPeersAreAnswered := by
  unfold Obligations.StatusAndPeersAreAnswered
  refine ⟨?_, ?_⟩
  · intro s hphase ha n two four
    obtain ⟨k, hk⟩ : ∃ k, k = s.node.hunting.takeStatus := ⟨_, rfl⟩
    have hexec : exec .status s = .next { s with node := k.settle } :=
      hk ▸ State.arrive_taken (c := .status) (payload := []) hphase ha rfl rfl
    have hf := k.settle_follows
    rw [Node.hunting_takeStatus ha] at hk
    refine ⟨_, n.power.phase.code.zeroExtend 8, (n.loader.image.map (fun i => i.role.code.zeroExtend 8)).getD 255,
      n.alarm.state.code.zeroExtend 8, n.link.state.code.zeroExtend 8, n.power.battery.code.zeroExtend 8,
      outcomeCode n.loader.cause, captureBytes n.rx.capture, ?_, ?_, ?_, n.link.state_code, ?_, ?_, ?_, hexec, rfl, ?_, ?_⟩
    · cases n.power.phase <;> rfl
    · cases n.loader.image with
      | none => rfl
      | some img => cases hrole : img.role <;> simp [hrole, Role.code]
    · cases n.alarm.state <;> rfl
    · cases n.power.battery <;> rfl
    · cases n.loader.cause with
      | none => rfl
      | some c => cases c <;> rfl
    · cases n.rx.capture with
      | none => rfl
      | some c => simp [captureBytes, bytes4_eq, four]
    · simp only [Node.statistics, hf.sensing, hf.peers, hf.txDrops, hf.txLosses, hf.rxBadFrames, hf.rxForeign, hf.rxOverruns]
      rw [hk]
    · intro payload
      have horigin : OriginEntry.bytes = fun o => [o.address, byte o.zone.toNat, o.cause.code] ++ four o.stamp :=
        funext OriginEntry.bytes_eq
      have hpayload : n.statusPayload = payload := by
        rw [Node.statusPayload, bytes4_eq, horigin]
        rfl
      refine ⟨?_, fun hcapture => hpayload ▸ n.statusPayload_length hcapture⟩
      rw [← hpayload]
      exact hk ▸ hf
  · intro s hphase ha entry body
    have hentry : entry = peerEntry s.node.clock := by
      funext x
      obtain ⟨e, i⟩ := x
      cases e with
      | none => rfl
      | some p =>
        obtain ⟨hzone, hrole, halarm, hpv⟩ := p.bytes_fields s.node.clock
        show _ = p.bytes s.node.clock i
        rw [Peer.bytes, hzone, hrole, halarm, hpv, flagByte_eq] <;> rfl
    have hbody : body = entryBytes s.node.clock 0 s.node.peers.entries := by
      rw [entryBytes_eq, ← hentry]
    obtain ⟨k, hk⟩ : ∃ k, k = s.node.hunting.takePeers := ⟨_, rfl⟩
    have hexec : exec .peers s = .next { s with node := k.settle } :=
      hk ▸ State.arrive_taken (c := .peers) (payload := []) hphase ha rfl rfl
    have hf := k.settle_follows
    refine ⟨_, hexec, rfl, ?_, hbody ▸ entryBytes_length _ _ _⟩
    rw [Node.takePeers, Node.hunting_answer ha] at hk
    rw [hk] at hf
    rw [hbody]
    exact hk ▸ hf
end

section
/-! PARK, RESTART and WAKE, and the panel commands (R182, R184). -/

namespace Sys2Proof.Machine

/-- A command that is answered and does no more. -/
theorem State.arrive_answers {s : State} {c : SerialCommand} {a : Answer} (ha : s.node.serial.answers = [])
    (h : s.go (s.node.arrive c []) = .next { s with node := (s.node.hunting.answer a).settle }) :
    ∃ t, s.go (s.node.arrive c []) = .next t ∧ t.pending = s.pending ∧
      Node.FollowsFrom { s.node with serial := { s.node.serial with rx := none, timeout := none, answers := [a] } }
        t.node :=
  ⟨_, h, rfl, s.node.hunting_answer ha a ▸ Node.settle_follows _⟩

theorem Node.active_of_dormant {n : Node} (h : n.power.phase = .dormant) : n.active = false := by
  simp [Node.active, h]

/-! ## A panel command -/

theorem Transmitter.queuedControl_iff (t : Transmitter) (cmd : Command) (z : ZoneCode) :
    t.queuedControl cmd z = true ↔
      ∃ e ∈ t.queue, (e.state = .waiting ∨ e.state = .holdoff) ∧ e.frame.body = .control cmd z := by
  simp [Transmitter.queuedControl, TxEntry.waits_iff]

/-- The accepted panel command: applied, and its CONTROL frame originated (R184). -/
def Node.commanded (n : Node) (cmd : Command) (z : ZoneCode) : Node :=
  ((n.answer (acceptAnswer (SerialCommand.panel cmd).type .none)).control cmd z n.cfg.address n.cfg.zone).originate false
    (.control cmd z)

section
variable {n : Node} {cmd : Command} {target : Byte}

theorem Node.takePanelCommand_duplicate (hz : target.toNat ≤ 63)
    (hq : n.tx.queuedControl cmd (target.setWidth 6) = true) :
    n.takePanelCommand cmd target = n.answer (duplicateAnswer (SerialCommand.panel cmd).type) := by
  have hzone : zoneOfByte target = some (target.setWidth 6) := if_pos hz
  simp [Node.takePanelCommand, hzone, hq]

theorem Node.takePanelCommand_accepted (hz : target.toNat ≤ 63)
    (hq : n.tx.queuedControl cmd (target.setWidth 6) = false) :
    n.takePanelCommand cmd target = n.commanded cmd (target.setWidth 6) := by
  have hzone : zoneOfByte target = some (target.setWidth 6) := if_pos hz
  simp [Node.takePanelCommand, hzone, hq, Node.commanded]

end

/-- With no PRE_ALARM to clear, a command touches neither the queue nor the counter. -/
theorem Node.control_quiet (n : Node) (c : Command) (target : ZoneCode) (origin : Byte) (zone : ZoneCode)
    (hno : NoticeItem.mk .preAlarm none ∉ n.alarm.notices) :
    (n.control c target origin zone).tx = n.tx ∧ (n.control c target origin zone).relay = n.relay := by
  by_cases h : target = 0 ∨ target = n.cfg.zone
  · by_cases hr : c = .testOn ∧ n.alarm.state = .alarm
    · rw [hr.1, Node.control_refused hr.2]
      exact ⟨rfl, rfl⟩
    · rw [Node.control_applied h (fun hc hs => hr ⟨hc, hs⟩), Node.record_tx, Node.record_relay]
      cases c with
      | silence => exact ⟨rfl, rfl⟩
      | reset =>
        have hreset : n.applyCommand .reset = n.rested := Node.deliver_clear_absent (n := n.rested) hno
        rw [hreset]
        exact ⟨rfl, rfl⟩
      | testOn => rw [Node.applyCommand_testOn (fun hs => hr ⟨rfl, hs⟩)]; exact ⟨rfl, rfl⟩
      | testOff => exact ⟨rfl, rfl⟩
  · rw [Node.control_elsewhere h]
    exact ⟨rfl, rfl⟩

/-- The CONTROL frame of an accepted panel command is alone in an empty queue. -/
theorem Node.commanded_queue {n : Node} (cmd : Command) (z : ZoneCode) (hact : n.active = true) (hq : n.tx.queue = [])
    (hno : NoticeItem.mk .preAlarm none ∉ n.alarm.notices) :
    ∃ k : Node, k.cfg = n.cfg ∧ k.relay = n.relay ∧
      (n.commanded cmd z).tx.queue = [k.ownEntry false (.control cmd z)] ∧
      (n.commanded cmd z).relay.originSeq = n.relay.originSeq + 1 := by
  obtain ⟨a, ha⟩ : ∃ a, a = n.answer (acceptAnswer (SerialCommand.panel cmd).type .none) := ⟨_, rfl⟩
  obtain ⟨k, hk⟩ : ∃ k, k = a.control cmd z n.cfg.address n.cfg.zone := ⟨_, rfl⟩
  have hacts : a.ActsFrom k := hk ▸ a.control_acts _ _ _ _
  obtain ⟨htx, hrelay⟩ := a.control_quiet cmd z n.cfg.address n.cfg.zone (by rw [ha]; exact hno)
  rw [← hk] at htx hrelay
  have hkq : k.tx.queue = [] := by rw [htx, ha]; exact hq
  have hkact : k.active = true := by
    rw [Node.active_eq_of_phase (congrArg Power.phase hacts.power), ha]
    exact hact
  have hlined : k.Lined := Node.lined_of_empty hkact hkq
  have horiginate : n.commanded cmd z = k.pushOwn false (.control cmd z) := by
    rw [← hlined.originate (by simp [hkq]) false (.control cmd z) rfl, hk, ha]
    rfl
  refine ⟨k, ?_, ?_, ?_, ?_⟩
  · show k.loader.image.getD _ = _
    rw [hacts.loader, ha]
    rfl
  · rw [hrelay, ha]
    rfl
  · rw [horiginate, Node.pushOwn_queue _ _ _ rfl, hkq]
    rfl
  · rw [horiginate, Node.pushOwn_originSeq, hrelay, ha]
    rfl

/-- What an applied command leaves of the alarm side (R78, R79, R81). -/
theorem Node.control_effects (n : Node) (c : Command) (target : ZoneCode) (origin : Byte) (zone : ZoneCode)
    (h : target = 0 ∨ target = n.cfg.zone) :
    (c = .silence → (n.control c target origin zone).alarm.silenced = true) ∧
    (c = .reset → (n.control c target origin zone).alarm.state = .quiet ∧
      (n.control c target origin zone).alarm.origins = [] ∧ (n.control c target origin zone).alarm.silenced = false ∧
      (n.control c target origin zone).alarm.remote = false) ∧
    (c = .testOn → n.alarm.state ≠ .alarm →
      (n.control c target origin zone).alarm.walkTest = some (later n.clock 1843200)) ∧
    (c = .testOff → (n.control c target origin zone).alarm.walkTest = none) := by
  refine ⟨fun hc => ?_, fun hc => ?_, fun hc hs => ?_, fun hc => ?_⟩
  · rw [hc, Node.control_applied h (by simp), Node.record_alarm]
    rfl
  · rw [hc, Node.control_applied h (by simp), Node.record_alarm]
    simp [Node.applyCommand, Node.applyReset_eq, Node.rested]
  · rw [hc, Node.control_applied h (fun _ => hs), Node.record_alarm, Node.applyCommand_testOn hs]
  · rw [hc, Node.control_applied h (by simp), Node.record_alarm]
    rfl

end Sys2Proof.Machine

open Sys2Proof.Machine in
/-- Settles O50: the commands of the commissioning line by the line and the phase, those of the panel line by what
waits in the queue. -/
theorem lineCommandsAreAnswered : Obligations.LineCommandsAreAnswered := by
  unfold Obligations.LineCommandsAreAnswered
  refine ⟨?_, ?_⟩
  · intro s hphase ha owes gives
    have answers : ∀ (c : SerialCommand) (a : Answer), c.payloadLength = 0 → c.takenOn s.node.onPanel = true →
        s.node.hunting.takeSerial c [] = s.node.hunting.answer a →
        ∃ t, s.go (s.node.arrive c []) = .next t ∧ t.pending = s.pending ∧ (owes a).FollowsFrom t.node :=
      fun c a hlen hline htaken =>
        State.arrive_answers ha (htaken ▸ State.arrive_taken (c := c) hphase ha hline hlen.symm)
    refine ⟨fun hpanel => ⟨?_, ?_, ?_⟩, fun hpanel => ⟨fun hact => ?_, fun hd => ?_, ?_, fun hact => ?_,
      fun hd hread => ?_, fun hd hread => ?_⟩⟩
    · exact State.arrive_answers (c := .park) ha (State.arrive_elsewhere hphase ha (congrArg not hpanel))
    · exact State.arrive_answers (c := .restart) ha (State.arrive_elsewhere hphase ha (congrArg not hpanel))
    · exact State.arrive_answers (c := .wake) ha (State.arrive_elsewhere hphase ha (congrArg not hpanel))
    · exact answers .park _ rfl (congrArg not hpanel) (congrArg s.node.hunting.answer (if_pos hact))
    · exact answers .park _ rfl (congrArg not hpanel) (congrArg s.node.hunting.answer
        (if_neg (by rw [show s.node.hunting.active = false from Node.active_of_dormant hd]; nofun)))
    · exact answers .restart _ rfl (congrArg not hpanel) rfl
    · exact answers .wake _ rfl (congrArg not hpanel) (if_pos hact)
    · refine answers .wake _ rfl (congrArg not hpanel) ?_
      have hact : s.node.hunting.active = false := Node.active_of_dormant hd
      have hreading : s.node.hunting.loader.read.isSome = true := hread
      simp [Node.takeSerial, Node.takeWake, hact, hreading]
      rfl
    · have hact : s.node.hunting.active = false := Node.active_of_dormant hd
      have hreading : s.node.hunting.loader.read = none := hread
      obtain ⟨k, hk⟩ : ∃ k, k = s.node.hunting.requestExit.answer (acceptAnswer 0x05 .none) := ⟨_, rfl⟩
      have htaken : s.node.hunting.takeSerial .wake [] = k := by
        simp [Node.takeSerial, Node.takeWake, hact, hreading, hk]
      have hexec : exec .wake s = .next { s with node := k.settle } :=
        htaken ▸ State.arrive_taken (c := .wake) (payload := []) hphase ha (congrArg not hpanel) rfl
      refine ⟨_, hexec, rfl, ?_⟩
      have hf := k.settle_follows
      have hexit : s.node.hunting.requestExit = { s.node.hunting with
          loader := { s.node.loader with read := some ⟨1, none, true⟩ } } := if_neg (by simp [hreading])
      have hkeq : k = { owes ⟨frameRecord 0x81 [0x05], .none⟩ with
          loader := { s.node.loader with read := some ⟨1, none, true⟩ } } := by
        have howed : s.node.hunting.serial.answers ++ [acceptAnswer 0x05 .none] = [acceptAnswer 0x05 .none] :=
          congrArg (· ++ [acceptAnswer 0x05 .none]) ha
        rw [hk, hexit, Node.answer, howed] <;> rfl
      exact hkeq ▸ hf
  · intro s zone c cmd type hc hpanel hact ha hz
    have hphase : s.node.power.phase ≠ .startUp := by
      intro hp
      simp [Node.active, hp] at hact
    have hrun : exec c s = s.go (s.node.arrive (.panel cmd) [zone]) ∧ type = (SerialCommand.panel cmd).type := by
      rcases hc with ⟨rfl, rfl, rfl⟩ | ⟨rfl, rfl, rfl⟩ | ⟨rfl, rfl, rfl⟩ | ⟨rfl, rfl, rfl⟩
      · exact ⟨rfl, rfl⟩
      · exact ⟨rfl, rfl⟩
      · exact ⟨rfl, rfl⟩
      · exact ⟨rfl, rfl⟩
    obtain ⟨n, hn⟩ : ∃ n, n = s.node.hunting := ⟨_, rfl⟩
    obtain ⟨k, hk⟩ : ∃ k, k = n.takePanelCommand cmd zone := ⟨_, rfl⟩
    have hexec : exec c s = .next { s with node := k.settle } := by
      rw [hrun.1, State.arrive_taken (c := .panel cmd) (payload := [zone]) hphase ha hpanel rfl, hk, hn]
      rfl
    have hf := k.settle_follows
    have howed : n.serial.answers = [] := by rw [hn]; exact ha
    by_cases hqueued : n.tx.queuedControl cmd (zone.setWidth 6) = true
    · have hkeq : k = { s.node with serial := { s.node.serial with
          rx := none, timeout := none, answers := [⟨frameRecord 0x82 [type], .none⟩] } } := by
        rw [hk, Node.takePanelCommand_duplicate hz hqueued, hn, hrun.2]
        exact s.node.hunting_answer ha _
      refine ⟨_, hexec, rfl, hf.serialRx.trans (by rw [hkeq]), hf.evidence.trans (by rw [hkeq]),
        hf.peers.trans (by rw [hkeq]), fun _ => hkeq ▸ hf, fun hnone => ?_⟩
      obtain ⟨e, he, hwaits, hbody⟩ := (Transmitter.queuedControl_iff _ _ _).mp hqueued
      rw [hn] at he
      exact absurd hbody (hnone e he hwaits)
    · have hkeq : k = n.commanded cmd (zone.setWidth 6) := by
        rw [hk, Node.takePanelCommand_accepted hz (by simpa using hqueued)]
      obtain ⟨a, ha'⟩ : ∃ a, a = n.answer (acceptAnswer (SerialCommand.panel cmd).type .none) := ⟨_, rfl⟩
      obtain ⟨m, hm⟩ : ∃ m, m = a.control cmd (zone.setWidth 6) n.cfg.address n.cfg.zone := ⟨_, rfl⟩
      have hkm : k = m.originate false (.control cmd (zone.setWidth 6)) := by rw [hkeq, hm, ha', Node.commanded]
      have hacts : a.ActsFrom k := hkm ▸ (hm ▸ a.control_acts _ _ _ _).trans (m.originate_acts _ _)
      refine ⟨_, hexec, rfl, hf.serialRx.trans (hacts.serialRx.trans (by rw [ha', hn]; rfl)),
        hf.evidence.trans (hacts.evidence.trans (by rw [ha', hn]; rfl)),
        hf.peers.trans (hacts.peers.trans (by rw [ha', hn]; rfl)), fun ⟨e, he, hwaits, hbody⟩ => ?_, fun _ => ?_⟩
      · refine absurd ((Transmitter.queuedControl_iff _ _ _).mpr ⟨e, ?_, hwaits, hbody⟩) hqueued
        rw [hn]
        exact he
      · refine ⟨?_, fun hq hno => ?_, fun happlied => ?_⟩
        · rw [hf.serialAnswers, hacts.serialAnswers, ha', Node.answer_serialAnswers, howed, hrun.2]
          rfl
        · obtain ⟨j, hcfg, hrelay, hqueue, hseq⟩ := Node.commanded_queue (n := n) cmd (zone.setWidth 6)
            (by rw [hn]; exact hact) (by rw [hn]; exact hq) (by rw [hn]; exact hno)
          have hncfg : n.cfg = s.node.cfg := by rw [hn]; rfl
          have hnrelay : n.relay = s.node.relay := by rw [hn]; rfl
          refine ⟨⟨_, (hf.txQueue.trans (hkeq ▸ hqueue)), rfl, rfl, rfl, rfl, ?_, ?_⟩, ?_⟩
          · show j.relay.originSeq = _
            rw [hrelay, hnrelay]
          · show j.cfg.address = _
            rw [hcfg, hncfg]
          · rw [hf.relay, hkeq, hseq, hnrelay]
        · have hacfg : a.cfg = s.node.cfg := by rw [ha', hn]; rfl
          have haalarm : a.alarm = s.node.alarm := by rw [ha', hn]; rfl
          have haclock : a.clock = s.node.clock := by rw [ha', hn]; rfl
          have hzone : zone.setWidth 6 = (0 : Sys2Proof.ZoneCode) ∨ zone.setWidth 6 = a.cfg.zone := by
            rw [hacfg]
            exact happlied.imp_left (fun h => by rw [h]; rfl)
          have heffects := a.control_effects cmd (zone.setWidth 6) n.cfg.address n.cfg.zone hzone
          have hremote : k.alarm.remote = m.alarm.remote := by rw [hkm]; simp [Node.originate]
          rw [← hm, haalarm, haclock] at heffects
          simp only [hf.alarmState, hf.alarmOrigins, hf.alarmSilenced, hf.alarmRemote, hf.alarmWalkTest, hremote]
          rw [hkm, Node.originate_alarmState, Node.originate_alarmOrigins, Node.originate_alarmSilenced,
            Node.originate_alarmWalkTest]
          exact heffects
end

section
/-! The panel record queue (R183): how a record joins it, and how the oldest leaves it. -/

namespace Sys2Proof.Machine

/-! ## A record joins the queue -/

section
variable {s : Serial} {r : EventRecord}

theorem Serial.push_room (h : s.panel.length < 32) : s.push r = { s with panel := s.panel ++ [r] } := if_pos h

theorem EventRecord.isAlarm_iff (r : EventRecord) : r.isAlarm = true ↔ r.kind = .alarm ∨ r.kind = .testAlarm := by
  simp [EventRecord.isAlarm]

/-- The records begun and those waiting, of a split of the queue. -/
theorem Serial.split_begun {begun waiting : List EventRecord} (h : s.panel = begun ++ waiting)
    (hb : begun.length = s.begun) : s.panel.take s.begun = begun ∧ s.panel.drop s.begun = waiting := by
  rw [h, ← hb]
  exact ⟨List.take_left, List.drop_left⟩

/-- In a full queue the oldest waiting record that is no ALARM leaves (R183). -/
theorem Serial.push_replaces {begun a b : List EventRecord} {old : EventRecord} (hl : 32 ≤ s.panel.length)
    (h : s.panel = begun ++ (a ++ old :: b)) (hb : begun.length = s.begun) (hold : old.isAlarm = false)
    (ha : ∀ y ∈ a, y.isAlarm = true) : s.push r = { s with panel := begun ++ a ++ b ++ [r], lost := true } := by
  obtain ⟨htake, hdrop⟩ := Serial.split_begun h hb
  have hindex : indexOf (fun x : EventRecord => !x.isAlarm) (a ++ old :: b) = some a.length :=
    indexOf_append _ _ _ _ (fun y hy => by simp [ha y hy]) (by simp [hold])
  unfold Serial.push
  rw [if_neg (by omega)]
  simp only [htake, hdrop, hindex, removeAt_append, List.append_assoc]

/-- Where all that wait are ALARMs, an ALARM takes the place of the oldest, and any other record is discarded (R183). -/
theorem Serial.push_full {begun waiting : List EventRecord} (hl : 32 ≤ s.panel.length) (h : s.panel = begun ++ waiting)
    (hb : begun.length = s.begun) (ha : ∀ y ∈ waiting, y.isAlarm = true) :
    s.push r = { s with
      panel := if r.isAlarm = true then begun ++ waiting.drop 1 ++ [r] else s.panel
      lost := true } := by
  obtain ⟨htake, hdrop⟩ := Serial.split_begun h hb
  have hindex : indexOf (fun x : EventRecord => !x.isAlarm) waiting = none := indexOf_none _ _ (fun y hy => by simp [ha y hy])
  have hbegun : s.begun ≤ 1 := by
    unfold Serial.begun
    split <;> omega
  have hsome : waiting.isEmpty = false := by
    cases waiting with
    | nil =>
      rw [h, List.append_nil] at hl
      omega
    | cons => rfl
  unfold Serial.push
  rw [if_neg (by omega)]
  simp only [htake, hdrop, hindex, hsome, Bool.not_false, Bool.and_true]
  cases r.isAlarm <;> rfl

theorem Serial.push_full_lost (hl : 32 ≤ s.panel.length) : (s.push r).lost = true := by
  unfold Serial.push
  rw [if_neg (by omega)]
  simp only []
  split
  · rfl
  · split <;> rfl

end

/-! ## The next sending begins -/

section
variable {s : Serial}

theorem Serial.kick_answer (h : s.tx = .idle) (ha : s.answers ≠ []) : s.kick = { s with tx := .answer } := by
  simp [Serial.kick, h, ha]

theorem Serial.kick_event {r : EventRecord} {rest : List EventRecord} (h : s.tx = .idle) (ha : s.answers = [])
    (hp : s.panel = r :: rest) :
    s.kick = { s with tx := .event, panel := { r with lost := s.lost } :: rest, lost := false } := by
  simp [Serial.kick, h, ha, hp]

theorem Serial.kick_none (h : s.tx = .idle) (ha : s.answers = []) (hp : s.panel = []) : s.kick = s := by
  simp [Serial.kick, h, ha, hp]

end

/-- The 14 bytes of an EVENT record (Table 11-7). -/
theorem EventRecord.payload_eq (r : EventRecord) : r.payload =
    [ r.kind.code, r.origin, byte r.zone.toNat, r.code, if r.sense then 1 else 0, r.subject.getD 0, r.q, r.hx, r.lv,
      byte (r.stamp.toNat / 16777216), byte (r.stamp.toNat / 65536), byte (r.stamp.toNat / 256), byte r.stamp.toNat,
      if r.lost then 1 else 0 ] := by
  rw [EventRecord.payload, bytes4_eq, zone_byte]
  rfl

/-- The node as an event record has been sent. -/
def Node.eventSent (n : Node) : Node := { n with serial := { n.serial with panel := n.serial.panel.drop 1, tx := .idle } }

theorem exec_eventRecordSent {s : State} (h : s.node.serial.tx = .event) :
    exec .eventRecordSent s = .next { s with node := s.node.eventSent.settle } := by
  simp [exec, execEventRecordSent, h, State.go, Node.eventSent]

/-! ## A record alone is formed by a delivery -/

theorem Node.consume_notice (n : Node) {f : Frame} {kind : NoticeKind} {set : Bool} {subject : Option Byte}
    (h : f.body = .notice kind set subject) :
    (n.reportUse f.cls).consume f = n.record (n.noticeRecord f.hdr kind set subject) := by
  simp only [Node.consume, Frame.cls, h]
  rfl

/-- A delivery that only forms a record, while the line is busy: the record joins the queue, and nothing else of the
alarm side or the transmit queue changes. -/
theorem exec_useDelivery_records {s : State} {i : Nat} {x : Slot} {k : Node} {r : EventRecord}
    (hs : s.node.rx.service = some ⟨i, .useDelivery⟩) (hx : s.node.rx.slots[i]? = some (some x))
    (hpanel : s.node.onPanel = true) (hbusy : s.node.serial.tx ≠ .idle)
    (hk : (s.node.reportUse x.frame.cls).consume x.frame = k.record r) (halarm : k.alarm = s.node.alarm)
    (htx : k.tx = s.node.tx) (hserial : k.serial = s.node.serial) (hloader : k.loader = s.node.loader) :
    ∃ t, exec .useDelivery s = .next t ∧ t.pending = s.pending ∧
      t.node.alarm.state = s.node.alarm.state ∧ t.node.alarm.origins = s.node.alarm.origins ∧
      t.node.tx.queue = s.node.tx.queue ∧ t.node.serial = s.node.serial.push r := by
  have hkpanel : k.onPanel = true := by
    rw [← hpanel, Node.onPanel, Node.onPanel, hloader]
  have hpushed : (k.record r).serial = s.node.serial.push r := by
    rw [k.record_eq, if_pos hkpanel, hserial]
  obtain ⟨-, -, -, htx'⟩ := s.node.serial.push_kept r
  obtain ⟨t, hexec, hpending, hf, -, -, hkept⟩ := exec_useDelivery_ends hs hx hk
  refine ⟨t, hexec, hpending, ?_, ?_, ?_, ?_⟩
  · rw [hf.alarmState, ← halarm]
    exact congrArg AlarmUnit.state (k.record_alarm r)
  · rw [hf.alarmOrigins, ← halarm]
    exact congrArg AlarmUnit.origins (k.record_alarm r)
  · rw [hf.txQueue, ← htx]
    exact congrArg Transmitter.queue (k.record_tx r)
  · rw [hkept (by rw [hpushed, htx']; exact hbusy), hpushed]

end Sys2Proof.Machine

open Sys2Proof.Machine in
/-- Settles O54: what begins after a record is sent, and how a record joins the queue, with room and without. -/
theorem eventRecordSentLeavesTheQueue : Obligations.EventRecordSentLeavesTheQueue := by
  unfold Obligations.EventRecordSentLeavesTheQueue
  refine ⟨?_, ?_⟩
  · intro s r rest htx hp hrun hpanel
    obtain ⟨m, hm⟩ : ∃ m, m = s.node.eventSent := ⟨_, rfl⟩
    have hexec : exec .eventRecordSent s = .next { s with node := m.settle } := hm ▸ exec_eventRecordSent htx
    have hf := m.settle_follows
    have hrole : m.RunByRole := ⟨by rw [hm]; exact hrun, by rw [hm]; exact hpanel⟩
    have hphase : m.settle.power.phase = .run := Eq.trans hrole.stays hrole.phase
    have hidle : m.serial.tx = .idle := by rw [hm]; rfl
    have hanswers : m.serial.answers = s.node.serial.answers := by rw [hm]; rfl
    have hrest : m.serial.panel = rest := by rw [hm]; exact congrArg (List.drop 1) hp
    have hlost : m.serial.lost = s.node.serial.lost := by rw [hm]; rfl
    have hkick : m.settle.serial = m.serial.kick := Node.settle_serial_of_run hphase
    refine ⟨_, hexec, rfl, hf.serialAnswers.trans hanswers, hf.txQueue.trans (by rw [hm]; rfl),
      hf.alarmNotices.trans (by rw [hm]; rfl), fun ha => ?_, fun ha hnil => ?_, fun r' more ha hcons => ?_⟩
    · rw [hkick, Serial.kick_answer hidle (by rw [hanswers]; exact ha)]
      exact ⟨rfl, hrest⟩
    · rw [hkick, Serial.kick_none hidle (hanswers.trans ha) (hrest.trans hnil)]
      exact ⟨hidle, hrest.trans hnil⟩
    · rw [hkick, Serial.kick_event hidle (hanswers.trans ha) (hrest.trans hcons), ← hlost]
      refine ⟨rfl, rfl, rfl, ?_⟩
      show some (frameRecord 0x90 (EventRecord.payload { r' with lost := m.serial.lost })) = _
      rw [EventRecord.payload_eq] <;> rfl
  · intro s i x record hs hx hpanel hbusy hkind plain
    have hdelivered : ∃ t, exec .useDelivery s = .next t ∧ t.pending = s.pending ∧
        t.node.alarm.state = s.node.alarm.state ∧ t.node.alarm.origins = s.node.alarm.origins ∧
        t.node.tx.queue = s.node.tx.queue ∧ t.node.serial = s.node.serial.push record := by
      rcases hkind with ⟨kind, set, subject, hbody, hrecord⟩ | ⟨cause, lv, q, hx', hbody, htest, hother, hrecord⟩
      · rw [hrecord]
        exact exec_useDelivery_records hs hx hpanel hbusy (s.node.consume_notice hbody) rfl rfl rfl rfl
      · rw [hrecord]
        exact exec_useDelivery_records hs hx hpanel hbusy
          ((s.node.consume_alarm hbody).trans (Node.remoteAlarm_test (n := s.node.held) hother htest)) rfl rfl rfl rfl
    have hplain : ∀ y : EventRecord, plain y ↔ y.isAlarm = false := by
      intro y
      rw [← Bool.not_eq_true, EventRecord.isAlarm_iff]
      exact not_or.symm
    have hloud : ∀ y : EventRecord, ¬plain y ↔ y.isAlarm = true := by
      intro y
      rw [hplain, Bool.not_eq_false]
    obtain ⟨t, hexec, hpending, hstate, horigins, hqueue, hserial⟩ := hdelivered
    refine ⟨t, hexec, hpending, hstate, horigins, hqueue, ?_, fun hroom => ?_, fun hfull begun waiting hsplit hbegun => ?_⟩
    · obtain ⟨-, -, hanswers, -⟩ := s.node.serial.push_kept record
      rw [hserial, hanswers]
    · rw [hserial, Serial.push_room hroom]
      exact ⟨rfl, rfl⟩
    · have hb : begun.length = s.node.serial.begun := by
        rw [hbegun]
        simp [Serial.begun]
      refine ⟨?_, fun a old b hw hold ha => ?_, fun hall => ⟨fun hk => ?_, fun hk => ?_⟩⟩
      · rw [hserial]
        exact Serial.push_full_lost hfull
      · rw [hserial, Serial.push_replaces hfull (by rw [hsplit, hw]) hb ((hplain old).mp hold)
          (fun y hy => (hloud y).mp (ha y hy))]
      · rw [hserial, Serial.push_full hfull hsplit hb (fun y hy => (hloud y).mp (hall y hy)),
          if_pos ((record.isAlarm_iff).mpr (.inr hk))]
      · rw [hserial, Serial.push_full hfull hsplit hb (fun y hy => (hloud y).mp (hall y hy)),
          if_neg (by rw [record.isAlarm_iff, hk]; simp)]
end

section
/-! A good frame: the Peer Table takes its sender (R45 to R55). -/

namespace Sys2Proof.Machine

/-! ## The parts of a good frame's end -/

/-- The frame has passed its CRC, and the good frame is reported to link health (R126, R127). -/
def Node.passed (n : Node) : Node := n.endAssembly.linger.deliver [.frame true]

theorem Node.linger_eq (n : Node) : n.linger = { n with power := { n.power with
    linger := if n.power.phase = .patrol then some (later n.clock 1024) else n.power.linger } } := by
  unfold Node.linger
  by_cases h : n.power.phase = .patrol
  · rw [if_pos (by simpa using h), if_pos h]
  · rw [if_neg (by simpa using h), if_neg h]

section
variable (n : Node)

@[simp] theorem Node.passed_clock : n.passed.clock = n.clock := by simp [Node.passed, Node.linger_eq]
@[simp] theorem Node.passed_peers : n.passed.peers = n.peers := by simp [Node.passed, Node.linger_eq]
@[simp] theorem Node.passed_loader : n.passed.loader = n.loader := by simp [Node.passed, Node.linger_eq]
@[simp] theorem Node.passed_cfg : n.passed.cfg = n.cfg := by simp [Node.cfg]
@[simp] theorem Node.passed_evidence : n.passed.evidence = n.evidence := by simp [Node.passed, Node.linger_eq]
@[simp] theorem Node.passed_rx : n.passed.rx = n.endAssembly.rx := by simp [Node.passed, Node.linger_eq]
@[simp] theorem Node.passed_active : n.passed.active = n.active := by simp [Node.passed, Node.linger_eq, Node.active]
@[simp] theorem Node.passed_alarmState : n.passed.alarm.state = n.alarm.state := by simp [Node.passed, Node.linger_eq]

theorem Node.passed_mem {x : NoticeItem} (hx : x.kind ≠ .linkStrained) :
    x ∈ n.passed.alarm.notices ↔ x ∈ n.alarm.notices := by
  refine (Node.deliver_mem_iff hx _ n.endAssembly.linger (by simp [Task.concerns])).trans ?_
  rw [Node.linger_eq]
  rfl

end

/-- What the filters make of the receive slots (R127 to R131). -/
def Node.filteredRx (n : Node) (f : Frame) : Receiver :=
  match decideFilter f.key n.cfg.filters with
  | none => n.rx
  | some (relay, use) => (n.rx.accept n.clock ⟨f, relay, use, n.clock, false⟩).dispatch

theorem Node.filterFrame_eq (n : Node) (f : Frame) : n.filterFrame f = { n with rx := n.filteredRx f } := by
  unfold Node.filterFrame Node.filteredRx
  cases decideFilter f.key n.cfg.filters <;> rfl

/-- The end of a good frame: the Link Observer, the filters, and what follows (R126, R127). -/
theorem exec_frameEnd_good {s : State} {bytes : List Byte} {level : Nat} {f : Frame}
    (hs : s.node.rx.state = .assembling) (hlevel : s.node.rx.assembly = some level)
    (hgood : judgeFrame s.node.cfg.networkId bytes = .good f) :
    ∃ o : Node, o = s.node.passed.observe level f ∧
      exec (.frameEnd bytes) s = .next { s with node := Node.settle { o with rx := o.filteredRx f } } := by
  refine ⟨_, rfl, ?_⟩
  have hgood' : judgeFrame s.node.endAssembly.cfg.networkId bytes = .good f := hgood
  have hjudged : s.node.endAssembly.judgeEnd level bytes = (s.node.passed.observe level f).filterFrame f := by
    unfold Node.judgeEnd
    rw [hgood']
    rfl
  rw [← Node.filterFrame_eq, ← hjudged]
  simp only [exec, execFrameEnd, hs, hlevel]
  rfl

/-! ## The Link Observer -/

/-- A table whose beacon-listing flag a BEACON sets (R61). -/
def PeerTable.listing (t : PeerTable) (b : Bool) : PeerTable := { t with listed := b || t.listed }

/-- The node once the lost-subject check is made and the sender is in the table (R48 to R55, R59). -/
def Node.taken (n : Node) (level : Nat) (f : Frame) : Node :=
  { n.checkLostSubject f.hdr.sender with
    peers := PeerTable.listing
      ((n.checkLostSubject f.hdr.sender).peers.take n.cfg.address n.cfg.zone n.clock level f).1 (f.lists n.cfg.address) }

theorem Node.observe_own {n : Node} {level : Nat} {f : Frame} (h0 : f.hdr.sender ≠ 0) (h255 : f.hdr.sender ≠ 255)
    (h : f.hdr.sender = n.cfg.address) : n.observe level f = n.conflict := by
  have haddress : (f.hdr.sender == 0 || f.hdr.sender == 255) = false :=
    Bool.or_eq_false_iff.mpr ⟨beq_eq_false_iff_ne.mpr h0, beq_eq_false_iff_ne.mpr h255⟩
  unfold Node.observe
  simp only [haddress]
  exact if_pos (beq_iff_eq.mpr h)

/-- The frame of another node: taken, and where it reports of a partner the confirmation is looked at again (R70). -/
theorem Node.observe_other {n : Node} {level : Nat} {f : Frame} (h0 : f.hdr.sender ≠ 0) (h255 : f.hdr.sender ≠ 255)
    (h : f.hdr.sender ≠ n.cfg.address) :
    n.observe level f = n.taken level f ∨ n.observe level f = (n.taken level f).reevaluate := by
  have haddress : (f.hdr.sender == 0 || f.hdr.sender == 255) = false :=
    Bool.or_eq_false_iff.mpr ⟨beq_eq_false_iff_ne.mpr h0, beq_eq_false_iff_ne.mpr h255⟩
  have htable : ∀ (t : PeerTable) (b : Bool), (if b then { t with listed := true } else t) = t.listing b := by
    intro t b
    cases b <;> rfl
  unfold Node.observe
  simp only [haddress, beq_eq_false_iff_ne.mpr h, htable, Bool.false_eq_true, if_false]
  split
  · exact .inr rfl
  · exact .inl rfl

/-- The sender is no lost subject afterwards (R59). -/
theorem Node.checkLostSubject_peers (n : Node) (a : Byte) : (n.checkLostSubject a).peers =
    { n.peers with lostSubjects := n.peers.lostSubjects.filter (· != a) } := by
  unfold Node.checkLostSubject
  by_cases h : n.peers.lostSubjects.contains a = true
  · rw [if_pos h, Node.deliver_peers]
  · rw [if_neg h]
    have hkept : n.peers.lostSubjects.filter (· != a) = n.peers.lostSubjects := by
      refine List.filter_eq_self.mpr (fun x hx => bne_iff_ne.mpr (fun heq => h ?_))
      rw [← heq]
      exact List.contains_iff_mem.mpr hx
    rw [hkept]

theorem Node.observe_peers {n : Node} {level : Nat} {f : Frame} (h0 : f.hdr.sender ≠ 0) (h255 : f.hdr.sender ≠ 255)
    (h : f.hdr.sender ≠ n.cfg.address) : (n.observe level f).peers = (n.taken level f).peers := by
  rcases Node.observe_other (level := level) h0 h255 h with ho | ho
  · rw [ho]
  · rw [ho, (Node.reevaluate_acts _).peers]

/-! ## The table takes a sender -/

/-- The frame that a matched entry, or the entry of a newcomer, becomes. -/
theorem Peer.content_keeps (p : Peer) (own : Byte) (now : Stamp) (f : Frame) :
    (p.content own now f).state = p.state ∧ (p.content own now f).heard = p.heard ∧
    (p.content own now f).missed = p.missed ∧ (p.content own now f).heardAt = p.heardAt ∧
    (p.content own now f).address = p.address ∧ (p.content own now f).level = p.level := by
  unfold Peer.content
  split
  · exact ⟨rfl, rfl, rfl, rfl, rfl, rfl⟩
  · split
    · exact ⟨rfl, rfl, rfl, rfl, rfl, rfl⟩
    · exact ⟨rfl, rfl, rfl, rfl, rfl, rfl⟩
    · exact ⟨rfl, rfl, rfl, rfl, rfl, rfl⟩

/-- The table with an entry written, out of the loss order (R48, R53, R55). -/
def PeerTable.written (t : PeerTable) (i : Nat) (p : Peer) : PeerTable :=
  { t with entries := setAt t.entries i (some p), lossOrder := t.lossOrder.filter (· != i) }

/-- Entry `i` is FRESH and heard now with the level given, and the other entries are as they were. -/
def PeerTable.Hears (t b : PeerTable) (i : Nat) (sender : Byte) (now : Stamp) (level : Nat) : Prop :=
  (∃ q, b.entries[i]? = some (some q) ∧ q.state = .fresh ∧ q.heard = true ∧ q.missed = 0 ∧ q.heardAt = now ∧
    q.address = sender ∧ q.level = level) ∧
  i ∉ b.lossOrder ∧ (∀ j, j ≠ i → b.entries[j]? = t.entries[j]?) ∧ b.untracked = t.untracked

/-- A newcomer is counted untracked, and the entries stay (R54). -/
def PeerTable.CountsUntracked (t b : PeerTable) : Prop :=
  b.entries = t.entries ∧ b.lossOrder = t.lossOrder ∧ b.untracked = min 255 (t.untracked + 1)

section
variable {t : PeerTable} {own : Byte} {zone : ZoneCode} {now : Stamp} {level : Nat} {f : Frame} {i : Nat} {p : Peer}

theorem PeerTable.find_first (hi : t.entries[i]? = some (some p)) (hp : p.address = f.hdr.sender)
    (hfirst : ∀ (j : Nat) (q : Peer), j < i → t.entries[j]? = some (some q) → q.address ≠ f.hdr.sender) :
    t.find f.hdr.sender = some i := by
  obtain ⟨a, b, hsplit, hlen⟩ := getElem?_split _ _ _ hi
  unfold PeerTable.find
  rw [hsplit, hlen]
  refine indexOf_append _ _ _ _ (fun e he => ?_) (by simpa using hp)
  cases e with
  | none => rfl
  | some q =>
    obtain ⟨j, hj, hget⟩ := List.mem_iff_getElem.mp he
    have hq := hfirst j q (by omega) (by rw [hsplit, List.getElem?_append_left hj, List.getElem?_eq_getElem hj, hget])
    simpa using hq

theorem PeerTable.find_none (h : ∀ q, some q ∈ t.entries → q.address ≠ f.hdr.sender) : t.find f.hdr.sender = none := by
  refine indexOf_none _ _ (fun e he => ?_)
  cases e with
  | none => rfl
  | some q => simpa using h q he

theorem PeerTable.take_matched (hi : t.entries[i]? = some (some p)) (hf : t.find f.hdr.sender = some i) :
    t.take own zone now level f =
      (t.written i ((p.refresh now level).content own now f), some ((p.refresh now level).content own now f)) := by
  simp only [PeerTable.take, hf, hi, Option.join_some, PeerTable.written]

theorem PeerTable.take_placed (hf : t.find f.hdr.sender = none) (hp : t.place zone level f = some i) :
    t.take own zone now level f =
      (t.written i ((newPeer now level f).content own now f), some ((newPeer now level f).content own now f)) := by
  simp only [PeerTable.take, hf, hp, PeerTable.written]

theorem PeerTable.take_untracked (hf : t.find f.hdr.sender = none) (hp : t.place zone level f = none) :
    t.take own zone now level f = ({ t with untracked := countUp t.untracked }, none) := by
  simp only [PeerTable.take, hf, hp]

end

section
variable {t : PeerTable} {own : Byte} {zone : ZoneCode} {now : Stamp} {level : Nat} {f : Frame} {i : Nat} {p : Peer}

theorem PeerTable.written_hears (b : Bool) (hi : i < t.entries.length) (hstate : p.state = .fresh)
    (hheard : p.heard = true) (hmissed : p.missed = 0) :
    t.Hears ((t.written i (p.content own now f)).listing b) i p.address p.heardAt p.level := by
  obtain ⟨cstate, cheard, cmissed, cat, caddress, clevel⟩ := p.content_keeps own now f
  refine ⟨⟨p.content own now f, setAt_getElem?_self _ _ _ hi, cstate.trans hstate, cheard.trans hheard,
    cmissed.trans hmissed, cat, caddress, clevel⟩, ?_, fun j hj => setAt_getElem?_ne _ _ _ _ hj, rfl⟩
  simp [PeerTable.written, PeerTable.listing]

/-- A sender that matches an entry (R48). -/
theorem PeerTable.take_matched_hears (b : Bool) (hi : t.entries[i]? = some (some p)) (hp : p.address = f.hdr.sender)
    (hfirst : ∀ (j : Nat) (q : Peer), j < i → t.entries[j]? = some (some q) → q.address ≠ f.hdr.sender) :
    t.Hears ((t.take own zone now level f).1.listing b) i f.hdr.sender now ((3 * p.level + level) / 4) := by
  rw [PeerTable.take_matched hi (PeerTable.find_first hi hp hfirst), ← hp]
  exact PeerTable.written_hears (p := p.refresh now level) b (lt_of_getElem?_some hi) rfl rfl rfl

/-- A newcomer that is placed (R53, R55). -/
theorem PeerTable.take_placed_hears (b : Bool) (hnew : ∀ q, some q ∈ t.entries → q.address ≠ f.hdr.sender)
    (hi : i < t.entries.length) (hp : t.place zone level f = some i) :
    t.Hears ((t.take own zone now level f).1.listing b) i f.hdr.sender now level := by
  rw [PeerTable.take_placed (PeerTable.find_none hnew) hp]
  exact PeerTable.written_hears (p := newPeer now level f) b hi rfl rfl rfl

/-- A newcomer that is not placed (R54). -/
theorem PeerTable.take_untracked_counts (b : Bool) (hnew : ∀ q, some q ∈ t.entries → q.address ≠ f.hdr.sender)
    (hp : t.place zone level f = none) : t.CountsUntracked ((t.take own zone now level f).1.listing b) := by
  rw [PeerTable.take_untracked (PeerTable.find_none hnew) hp]
  exact ⟨rfl, rfl, rfl⟩

end

/-! ## Where a newcomer is placed (R53, R54) -/

theorem weakestFrom_mem {group : Peer → Bool} : ∀ {es : List (Option Peer)} {k j l : Nat},
    weakestFrom group k es = some (j, l) →
    ∃ (i : Nat) (q : Peer), es[i]? = some (some q) ∧ group q = true ∧ q.level = l := by
  intro es
  induction es with
  | nil => exact fun h => by cases h
  | cons e es ih =>
    intro k j l h
    have hrest : weakestFrom group (k + 1) es = some (j, l) →
        ∃ (i : Nat) (q : Peer), (e :: es)[i]? = some (some q) ∧ group q = true ∧ q.level = l := by
      intro hlater
      obtain ⟨i, q, hi, hq⟩ := ih hlater
      exact ⟨i + 1, q, by simpa using hi, hq⟩
    cases e with
    | none => exact hrest h
    | some p =>
      simp only [weakestFrom] at h
      split at h
      · next hg =>
        have hhead : (k, p.level) = (j, l) → ∃ (i : Nat) (q : Peer),
            (some p :: es)[i]? = some (some q) ∧ group q = true ∧ q.level = l :=
          fun heq => ⟨0, p, rfl, hg, congrArg Prod.snd heq⟩
        split at h
        · exact hhead (Option.some.inj h)
        · next hlater =>
          split at h
          · exact hhead (Option.some.inj h)
          · exact hrest (hlater.trans h)
      · exact hrest h

/-- The weakest of a group, the lower index among equals. -/
theorem weakestFrom_of {group : Peer → Bool} {p : Peer} (hg : group p = true) : ∀ {es : List (Option Peer)} {i k : Nat},
    es[i]? = some (some p) →
    (∀ (j : Nat) (q : Peer), es[j]? = some (some q) → group q = true → p.level < q.level ∨ (p.level = q.level ∧ i ≤ j)) →
    weakestFrom group k es = some (k + i, p.level) := by
  intro es
  induction es with
  | nil => exact fun h _ => by simp at h
  | cons e es ih =>
    intro i k hi hmin
    cases i with
    | zero =>
      have he : e = some p := by simpa using hi
      subst he
      simp only [weakestFrom, hg, if_true]
      split
      · rfl
      · next j l hlater =>
        obtain ⟨x, q, hx, hq, hl⟩ := weakestFrom_mem hlater
        rw [if_pos (by rcases hmin (x + 1) q (by simpa using hx) hq with h | h <;> omega)]
        rfl
    | succ i =>
      have hlater : weakestFrom group (k + 1) es = some (k + 1 + i, p.level) := by
        refine ih (by simpa using hi) (fun j q hj hq => ?_)
        rcases hmin (j + 1) q (by simpa using hj) hq with h | ⟨h, hij⟩
        · exact .inl h
        · exact .inr ⟨h, by omega⟩
      have hindex : k + 1 + i = k + (i + 1) := by omega
      rw [hindex] at hlater
      cases e with
      | none => exact hlater
      | some q =>
        simp only [weakestFrom, hlater]
        by_cases hq : group q = true
        · have hweaker : ¬q.level ≤ p.level := by
            rcases hmin 0 q rfl hq with h | ⟨-, h⟩ <;> omega
          rw [if_pos hq, if_neg hweaker]
        · rw [if_neg hq]

theorem weakestFrom_none {group : Peer → Bool} : ∀ {es : List (Option Peer)} {k : Nat},
    (∀ q, some q ∈ es → group q = false) → weakestFrom group k es = none := by
  intro es
  induction es with
  | nil => exact fun _ => rfl
  | cons e es ih =>
    intro k h
    have hrest : weakestFrom group (k + 1) es = none := ih (fun q hq => h q (List.mem_cons_of_mem _ hq))
    cases e with
    | none => exact hrest
    | some q =>
      have hq : group q = false := h q List.mem_cons_self
      simp only [weakestFrom, hq, hrest, Bool.false_eq_true, if_false]

section
variable {t : PeerTable} {zone : ZoneCode} {level : Nat} {f : Frame} {i : Nat}

/-- A newcomer that describes itself, of the node's own zone (R54). -/
def Frame.comesHome (f : Frame) (zone : ZoneCode) : Prop :=
  f.hdr.sender = f.hdr.origin ∧ f.hdr.zone = zone ∧ f.hdr.zone ≠ 0

theorem Frame.comesHome_iff (f : Frame) (zone : ZoneCode) :
    (f.fromOrigin && zoneOfCode f.hdr.zone == some zone) = true ↔ f.comesHome zone := by
  unfold Frame.comesHome Frame.fromOrigin zoneOfCode
  by_cases h : f.hdr.zone = 0
  · simp [h]
  · simp only [Bool.and_eq_true, beq_iff_eq, if_neg h, Option.some.injEq]
    exact and_congr_right fun _ => ⟨fun hz => ⟨hz, h⟩, fun hz => hz.1⟩

theorem PeerTable.place_free (hi : t.entries[i]? = some none) (hfirst : ∀ j < i, t.entries[j]? ≠ some none) :
    t.place zone level f = some i := by
  obtain ⟨a, b, hsplit, hlen⟩ := getElem?_split _ _ _ hi
  have hindex : indexOf Option.isNone t.entries = some i := by
    rw [hsplit, hlen]
    refine indexOf_append _ _ _ _ (fun e he => ?_) rfl
    obtain ⟨j, hj, hget⟩ := List.mem_iff_getElem.mp he
    cases e with
    | none =>
      refine absurd ?_ (hfirst j (by omega))
      rw [hsplit, List.getElem?_append_left hj, List.getElem?_eq_getElem hj, hget]
    | some q => rfl
  simp only [PeerTable.place, hindex]

section
variable (hfull : ∀ e ∈ t.entries, e ≠ none)
include hfull

theorem PeerTable.no_free : indexOf Option.isNone t.entries = none :=
  indexOf_none _ _ (fun e he => by
    cases e with
    | none => exact absurd rfl (hfull none he)
    | some q => rfl)

theorem PeerTable.place_lost {more : List Nat} (h : t.lossOrder = i :: more) : t.place zone level f = some i := by
  simp only [PeerTable.place, PeerTable.no_free hfull, h]

/-- With no LOST entry, a newcomer is placed by the weakest of the other zones' entries and of its own (R54). -/
theorem PeerTable.place_weakest (h : t.lossOrder = []) : t.place zone level f =
    if f.fromOrigin && zoneOfCode f.hdr.zone == some zone then
      match t.weakest (fun p => !p.partner zone) with
      | some (i, _) => some i
      | none => yields (t.weakest (fun p => p.partner zone)) level
    else yields (t.weakest (fun p => !p.partner zone)) level := by
  simp only [PeerTable.place, PeerTable.no_free hfull, h] <;> rfl

end

end

/-- The weakest of a group: of the lowest level, and of those the lowest index. -/
def PeerTable.Weakest (t : PeerTable) (i : Nat) (group : Peer → Bool) (p : Peer) : Prop :=
  t.entries[i]? = some (some p) ∧ group p = true ∧
  ∀ (j : Nat) (q : Peer), t.entries[j]? = some (some q) → group q = true →
    p.level < q.level ∨ (p.level = q.level ∧ i ≤ j)

theorem PeerTable.Weakest.found {t : PeerTable} {i : Nat} {group : Peer → Bool} {p : Peer} (h : t.Weakest i group p) :
    t.weakest group = some (i, p.level) := by
  obtain ⟨hi, hg, hmin⟩ := h
  have hfound := weakestFrom_of (k := 0) hg hi hmin
  rwa [Nat.zero_add] at hfound

theorem yields_some {i l level : Nat} : yields (some (i, l)) level = if l + 6 ≤ level then some i else none := rfl

theorem Peer.partner_iff (p : Peer) (zone : ZoneCode) : p.partner zone = true ↔ p.zone = some zone := by
  simp [Peer.partner]

end Sys2Proof.Machine

open Sys2Proof.Machine in
/-- Settles O33: the matched entry, and the place of a newcomer by the FREE entries, the LOST ones and the weakest. -/
theorem goodFrameRefreshesItsSender : Obligations.GoodFrameRefreshesItsSender := by
  unfold Obligations.GoodFrameRefreshesItsSender
  intro s bytes level f i hs hlevel hgood h0 h255 hother hlost
  obtain ⟨o, ho, hexec⟩ := exec_frameEnd_good hs hlevel hgood
  have hf := Node.settle_follows { o with rx := o.filteredRx f }
  have hpeers : (Node.settle { o with rx := o.filteredRx f }).peers = PeerTable.listing
      (s.node.peers.take s.node.cfg.address s.node.cfg.zone s.node.clock level f).1
      (f.lists s.node.cfg.address) := by
    have hsame : s.node.peers.lostSubjects.filter (· != f.hdr.sender) = s.node.peers.lostSubjects :=
      List.filter_eq_self.mpr (fun x hx => bne_iff_ne.mpr (fun heq => hlost (heq ▸ hx)))
    rw [hf.peers, ho]
    refine (Node.observe_peers h0 h255 (by simpa using hother)).trans ?_
    simp only [Node.taken, Node.checkLostSubject_peers, Node.passed_peers, hsame, Node.passed_cfg, Node.passed_clock]
  have hhears : ∀ {m : Nat}, s.node.peers.Hears (PeerTable.listing
      (s.node.peers.take s.node.cfg.address s.node.cfg.zone s.node.clock level f).1
      (f.lists s.node.cfg.address)) i f.hdr.sender s.node.clock m →
      s.node.peers.Hears (Node.settle { o with rx := o.filteredRx f }).peers i f.hdr.sender s.node.clock m :=
    fun h => hpeers ▸ h
  have hplaced : (∀ q, some q ∈ s.node.peers.entries → q.address ≠ f.hdr.sender) → i < s.node.peers.entries.length →
      s.node.peers.place s.node.cfg.zone level f = some i →
      s.node.peers.Hears (Node.settle { o with rx := o.filteredRx f }).peers i f.hdr.sender s.node.clock level :=
    fun hnew hi hp => hhears (PeerTable.take_placed_hears _ hnew hi hp)
  have hcounted : (∀ q, some q ∈ s.node.peers.entries → q.address ≠ f.hdr.sender) →
      s.node.peers.place s.node.cfg.zone level f = none →
      s.node.peers.CountsUntracked (Node.settle { o with rx := o.filteredRx f }).peers :=
    fun hnew hp => hpeers ▸ PeerTable.take_untracked_counts _ hnew hp
  refine ⟨_, hexec, rfl, ?_⟩
  intro entries zone heard untracked weakest ours comesHome
  refine ⟨fun p hi hp hfirst => hhears (PeerTable.take_matched_hears _ hi hp hfirst), fun hnew => ⟨fun hi hfirst =>
    hplaced hnew (lt_of_getElem?_some hi) (PeerTable.place_free hi hfirst), fun hfull => ⟨fun more horder hi =>
    hplaced hnew hi (PeerTable.place_lost hfull horder), fun horder => ?_⟩⟩⟩
  have hplace := PeerTable.place_weakest (zone := zone) (level := level) (f := f) hfull horder
  have hhome : (f.fromOrigin && zoneOfCode f.hdr.zone == some zone) = true ↔ comesHome := f.comesHome_iff zone
  have hours : ∀ q : Peer, Peer.partner zone q = true ↔ ours q := fun q => q.partner_iff zone
  have hforeign : ∀ q : Peer, (!Peer.partner zone q) = true ↔ ¬ours q := by
    intro q
    rw [← hours]
    simp
  refine ⟨fun p hw => ?_, fun hall => ?_⟩
  · obtain ⟨hi, hg, hmin⟩ := hw
    have hothers : s.node.peers.weakest (fun q => !q.partner zone) = some (i, p.level) :=
      PeerTable.Weakest.found ⟨hi, (hforeign p).mpr hg, fun j q hj hq => hmin j q hj ((hforeign q).mp hq)⟩
    rw [hothers] at hplace
    refine ⟨fun hcase => hplaced hnew (lt_of_getElem?_some hi) (hplace.trans ?_), fun haway hlevel =>
      hcounted hnew (hplace.trans ?_)⟩
    · by_cases hh : comesHome
      · exact if_pos (hhome.mpr hh)
      · refine (if_neg (fun hc => hh (hhome.mp hc))).trans ?_
        exact if_pos (hcase.resolve_left hh)
    · refine (if_neg (fun hc => haway (hhome.mp hc))).trans ?_
      exact if_neg (by omega)
  · have hothers : s.node.peers.weakest (fun q => !q.partner zone) = none :=
      weakestFrom_none (fun q hq => by rw [(hours q).mpr (hall q hq)]; rfl)
    rw [hothers] at hplace
    refine ⟨fun haway => hcounted hnew (hplace.trans (if_neg (fun hc => haway (hhome.mp hc)))), fun p hw hh => ?_⟩
    obtain ⟨hi, hg, hmin⟩ := hw
    have hown : s.node.peers.weakest (fun q => q.partner zone) = some (i, p.level) :=
      PeerTable.Weakest.found ⟨hi, (hours p).mpr hg, fun j q hj hq => hmin j q hj ((hours q).mp hq)⟩
    have hyields := hplace.trans (if_pos (hhome.mpr hh))
    rw [hown] at hyields
    exact ⟨fun hlevel => hplaced hnew (lt_of_getElem?_some hi) (hyields.trans (if_pos hlevel)), fun hlevel =>
      hcounted hnew (hyields.trans (if_neg (by omega)))⟩
end

section
/-! A good frame: what it writes into its sender's entry, the lost subjects and the address conflict
(R47, R49, R50, R59). -/

namespace Sys2Proof.Machine

/-! ## What the content of a frame writes -/

section
variable {p : Peer} {own : Byte} {now : Stamp} {f : Frame}

theorem Peer.content_beacon {status lv : Byte} {heard : List Byte} (h : f.hdr.sender = f.hdr.origin)
    (hb : f.body = .beacon status lv heard) : p.content own now f =
      { p with
        zone := zoneOfCode f.hdr.zone
        role := Role.ofCode f.hdr.role
        alarm := some (AlarmState.ofCode (status.extractLsb' 6 2))
        pv := some ⟨lv, now⟩
        twoWay := heard.contains own } := by
  simp [Peer.content, Frame.fromOrigin, h, hb]

theorem Peer.content_evidence {lv : Byte} {state : AlarmState} (h : f.hdr.sender = f.hdr.origin)
    (hb : f.body = .evidence lv state) :
    p.content own now f = { p with alarm := some state, pv := some ⟨lv, now⟩ } := by
  simp [Peer.content, Frame.fromOrigin, h, hb]

theorem Peer.content_other (h : f.hdr.sender ≠ f.hdr.origin ∨ (f.cls ≠ .beacon ∧ f.cls ≠ .evidence)) :
    p.content own now f = p := by
  unfold Peer.content
  rcases h with h | ⟨hbeacon, hevidence⟩
  · rw [if_pos (by simpa [Frame.fromOrigin] using h)]
  · split
    · rfl
    · cases hb : f.body <;> simp_all [Frame.cls, Body.cls]

end

theorem AlarmState.ofCode_status (status : Byte) : AlarmState.ofCode (status.extractLsb' 6 2) =
    match status.toNat / 64 with
    | 0 => .quiet
    | 1 => .watch
    | 2 => .confirming
    | _ => .alarm := by
  have hcode : (status.extractLsb' 6 2).toNat = status.toNat / 64 := by
    have hlt := status.isLt
    rw [BitVec.extractLsb'_toNat, Nat.shiftRight_eq_div_pow]
    omega
  unfold AlarmState.ofCode
  rw [hcode] <;> rfl

/-- What a frame's content makes of an entry `p` (R49, R50). -/
def Frame.Writes (f : Frame) (own : Byte) (now : Stamp) (q p : Peer) : Prop :=
  (∀ status lv heard, f.hdr.sender = f.hdr.origin → f.body = .beacon status lv heard →
    q.zone = zoneOfCode f.hdr.zone ∧ q.role = Role.ofCode f.hdr.role ∧ q.pv = some ⟨lv, now⟩ ∧
    (q.twoWay = true ↔ own ∈ heard) ∧ q.alarm = some (AlarmState.ofCode (status.extractLsb' 6 2))) ∧
  (∀ lv state, f.hdr.sender = f.hdr.origin → f.body = .evidence lv state →
    q.zone = p.zone ∧ q.role = p.role ∧ q.twoWay = p.twoWay ∧ q.alarm = some state ∧ q.pv = some ⟨lv, now⟩) ∧
  ((¬f.hdr.sender = f.hdr.origin ∨ (f.cls ≠ .beacon ∧ f.cls ≠ .evidence)) →
    q.zone = p.zone ∧ q.role = p.role ∧ q.twoWay = p.twoWay ∧ q.alarm = p.alarm ∧ q.pv = p.pv)

/-- Two entries agree in all that the content of a frame is about. -/
def Peer.SameContent (q p : Peer) : Prop :=
  q.zone = p.zone ∧ q.role = p.role ∧ q.twoWay = p.twoWay ∧ q.alarm = p.alarm ∧ q.pv = p.pv

theorem Peer.content_writes {q p : Peer} (own : Byte) (now : Stamp) (f : Frame) (h : q.SameContent p) :
    f.Writes own now (q.content own now f) p := by
  obtain ⟨hzone, hrole, htwoWay, halarm, hpv⟩ := h
  refine ⟨fun status lv heard hself hb => ?_, fun lv state hself hb => ?_, fun hno => ?_⟩
  · rw [Peer.content_beacon hself hb]
    exact ⟨rfl, rfl, rfl, List.contains_iff_mem, rfl⟩
  · rw [Peer.content_evidence hself hb]
    exact ⟨hzone, hrole, htwoWay, rfl, rfl⟩
  · rw [Peer.content_other hno]
    exact ⟨hzone, hrole, htwoWay, halarm, hpv⟩

section
variable {t : PeerTable} {own : Byte} {zone : ZoneCode} {now : Stamp} {level : Nat} {f : Frame} {i : Nat} {p : Peer}

theorem PeerTable.take_matched_writes (b : Bool) (hi : t.entries[i]? = some (some p)) (hp : p.address = f.hdr.sender)
    (hfirst : ∀ (j : Nat) (q : Peer), j < i → t.entries[j]? = some (some q) → q.address ≠ f.hdr.sender) :
    ∃ q, ((t.take own zone now level f).1.listing b).entries[i]? = some (some q) ∧ f.Writes own now q p := by
  rw [PeerTable.take_matched hi (PeerTable.find_first hi hp hfirst)]
  exact ⟨_, setAt_getElem?_self _ _ _ (lt_of_getElem?_some hi),
    Peer.content_writes (q := p.refresh now level) own now f ⟨rfl, rfl, rfl, rfl, rfl⟩⟩

/-- An entry of the sender that was in no entry is the one that admits it (R55). -/
theorem PeerTable.take_admitted_writes (b : Bool) (hnew : ∀ q, some q ∈ t.entries → q.address ≠ f.hdr.sender)
    {q : Peer} (hq : some q ∈ ((t.take own zone now level f).1.listing b).entries) (haddress : q.address = f.hdr.sender)
    (hp : (newPeer now level f).SameContent p) : f.Writes own now q p := by
  cases hplace : t.place zone level f with
  | none =>
    rw [PeerTable.take_untracked (PeerTable.find_none hnew) hplace] at hq
    exact absurd haddress (hnew q hq)
  | some i =>
    rw [PeerTable.take_placed (PeerTable.find_none hnew) hplace] at hq
    obtain ⟨j, hj⟩ := List.mem_iff_getElem?.mp hq
    have hget : (setAt t.entries i (some ((newPeer now level f).content own now f)))[j]? = some (some q) := hj
    by_cases hji : j = i
    · subst hji
      have hlen : j < t.entries.length := by
        have h := lt_of_getElem?_some hget
        rwa [setAt_length] at h
      rw [setAt_getElem?_self _ _ _ hlen] at hget
      obtain rfl : (newPeer now level f).content own now f = q := Option.some.inj (Option.some.inj hget)
      exact Peer.content_writes own now f hp
    · rw [setAt_getElem?_ne _ _ _ _ hji] at hget
      exact absurd haddress (hnew q (List.mem_of_getElem? hget))

theorem PeerTable.take_keeps_rest (t : PeerTable) :
    (t.take own zone now level f).1.conflictRaised = t.conflictRaised ∧
    (t.take own zone now level f).1.conflictHeard = t.conflictHeard ∧
    (t.take own zone now level f).1.quietCount = t.quietCount ∧
    (t.take own zone now level f).1.listed = t.listed ∧
    (t.take own zone now level f).1.lostSubjects = t.lostSubjects := by
  unfold PeerTable.take
  split
  · split
    · exact ⟨rfl, rfl, rfl, rfl, rfl⟩
    · exact ⟨rfl, rfl, rfl, rfl, rfl⟩
  · split
    · exact ⟨rfl, rfl, rfl, rfl, rfl⟩
    · exact ⟨rfl, rfl, rfl, rfl, rfl⟩

end

theorem Frame.lists_iff (f : Frame) (own : Byte) :
    f.lists own = true ↔ ∃ status lv heard, f.body = .beacon status lv heard ∧ own ∈ heard := by
  unfold Frame.lists
  cases f.body <;> simp

/-! ## A re-evaluation keeps the other notices, and only a present event stamps -/

theorem Node.Stamped.record {n t : Node} (h : n.Stamped t) (r : EventRecord) : n.Stamped (t.record r) := by
  unfold Node.Stamped
  rw [Node.record_alarm]
  exact h

theorem Node.originate_stamped (n : Node) (test : Bool) (b : Body) : n.Stamped (n.originate test b) :=
  n.nextSeq.deliver_stamped _

theorem Node.testConfirm_stamped (n : Node) (lv : Nat) : n.Stamped (n.testConfirm lv) := by
  obtain ⟨m, hm⟩ : ∃ m, m = n.originate true (n.alarmBody lv) := ⟨_, rfl⟩
  have hsent : n.Stamped m := hm ▸ n.originate_stamped true (n.alarmBody lv)
  have hclock : m.clock = n.clock := by
    rw [hm]
    exact Node.deliver_clock _ _
  have hrested : m.Stamped (Node.deliver { m with alarm := { m.alarm with
      state := .quiet, confirmCount := 0, hysteresis := 0, limit := none
      testSound := some (later n.clock 10240) } } [.clear .preAlarm none]) :=
    Node.deliver_stamped { m with alarm := { m.alarm with
      state := .quiet, confirmCount := 0, hysteresis := 0, limit := none
      testSound := some (later n.clock 10240) } } _
  unfold Node.testConfirm
  simp only [← hm]
  exact Node.Stamped.record (hsent.trans hclock hrested) _

theorem Node.enterAlarm_stamped (n : Node) (lv : Nat) : n.Stamped (n.enterAlarm lv) := by
  unfold Node.enterAlarm
  refine Node.Stamped.record (Node.Stamped.trans ?_ (.of_same ?_) (Node.originate_stamped _ _ _)) _
  · rw [(Node.dropNotice_reported _ _ _).clock]
  · rw [Node.dropNotice_lastEvent]
    rfl

theorem Node.confirm_stamped (n : Node) (lv : Nat) : n.Stamped (n.confirm lv) := by
  unfold Node.confirm
  split
  · exact n.testConfirm_stamped lv
  · exact n.enterAlarm_stamped lv

theorem Node.reevaluate_keepsItems (n : Node) : n.KeepsItems n.reevaluate := by
  unfold Node.reevaluate
  split
  · exact n.confirm_keepsItems _
  · exact .refl n

theorem Node.reevaluate_stamped (n : Node) : n.Stamped n.reevaluate := by
  unfold Node.reevaluate
  split
  · exact n.confirm_stamped _
  · exact .of_same rfl

/-! ## The lost-subject check (R59) and the conflict (R47) -/

theorem Node.checkLostSubject_found {n : Node} {a : Byte} (h : a ∈ n.peers.lostSubjects) (hact : n.active = true) :
    NoticeItem.mk .peerLost (some a) ∉ (n.checkLostSubject a).alarm.notices ∧
    (n.checkLostSubject a).alarm.lastEvent = some n.clock := by
  unfold Node.checkLostSubject
  rw [if_pos (List.contains_iff_mem.mpr h)]
  exact ⟨Node.deliver_cleared (by decide) _ _ hact (by simp) (.inr (by simp)),
    Node.deliver_lastEvent (k := .peerRestored) (s := some a) _ _ hact (by simp)⟩

theorem Node.checkLostSubject_absent {n : Node} {a : Byte} (h : a ∉ n.peers.lostSubjects) :
    n.checkLostSubject a = n := by
  unfold Node.checkLostSubject
  exact if_neg (fun hc => h (List.contains_iff_mem.mp hc))

theorem Node.checkLostSubject_clock (n : Node) (a : Byte) : (n.checkLostSubject a).clock = n.clock := by
  unfold Node.checkLostSubject
  split
  · rw [Node.deliver_clock]
  · rfl

theorem Node.conflict_peers (n : Node) : n.conflict.peers =
    { n.peers with conflictHeard := true, quietCount := 0, conflictRaised := true } := by
  simp [Node.conflict]

theorem Node.conflict_raised {n : Node} (h : n.peers.conflictRaised = false) (hact : n.active = true) :
    NoticeItem.mk .addressConflict (some n.cfg.address) ∈ n.conflict.alarm.notices := by
  unfold Node.conflict
  rw [h]
  exact Node.deliver_raised (by decide) _ _ hact (by simp) (.inr (by simp))

theorem Node.conflict_standing {n : Node} (h : n.peers.conflictRaised = true) :
    n.conflict.alarm = n.alarm := by
  unfold Node.conflict
  rw [h]
  rfl

/-- After the observation of a lost subject's frame. -/
theorem Node.observe_found {n : Node} {level : Nat} {f : Frame} (h0 : f.hdr.sender ≠ 0) (h255 : f.hdr.sender ≠ 255)
    (hother : f.hdr.sender ≠ n.cfg.address) (h : f.hdr.sender ∈ n.peers.lostSubjects) (hact : n.active = true) :
    NoticeItem.mk .peerLost (some f.hdr.sender) ∉ (n.observe level f).alarm.notices ∧
    (n.observe level f).alarm.lastEvent = some n.clock := by
  obtain ⟨hitem, hstamp⟩ := Node.checkLostSubject_found h hact
  have hclock : (n.taken level f).clock = n.clock := n.checkLostSubject_clock f.hdr.sender
  rcases Node.observe_other (level := level) h0 h255 hother with ho | ho
  · rw [ho]
    exact ⟨hitem, hstamp⟩
  · rw [ho]
    refine ⟨fun hm => hitem (((n.taken level f).reevaluate_keepsItems _ (by simp) (by simp)).mp hm), ?_⟩
    rw [← hclock]
    exact (Node.reevaluate_stamped _).stays (by rw [hclock]; exact hstamp)

/-- After the observation of another sender's frame. -/
theorem Node.observe_notLost {n : Node} {level : Nat} {f : Frame} (h0 : f.hdr.sender ≠ 0) (h255 : f.hdr.sender ≠ 255)
    (hother : f.hdr.sender ≠ n.cfg.address) (h : f.hdr.sender ∉ n.peers.lostSubjects) :
    NoticeItem.mk .peerLost (some f.hdr.sender) ∈ (n.observe level f).alarm.notices ↔
      NoticeItem.mk .peerLost (some f.hdr.sender) ∈ n.alarm.notices := by
  have htaken : (n.taken level f).alarm = n.alarm :=
    (congrArg Node.alarm (Node.checkLostSubject_absent h) :)
  rcases Node.observe_other (level := level) h0 h255 hother with ho | ho
  · rw [ho, htaken]
  · rw [ho, ← htaken]
    exact Node.reevaluate_keepsItems _ _ (by simp) (by simp)

end Sys2Proof.Machine

open Sys2Proof.Machine in
/-- Settles O34: the content of the sender's entry, the lost subject and the conflict, kept by what follows. -/
theorem framesWriteTheirSendersEntry : Obligations.FramesWriteTheirSendersEntry := by
  unfold Obligations.FramesWriteTheirSendersEntry
  intro s bytes level f hs hlevel hgood h0 h255 a sender own conflictItem lostItem zone role
  obtain ⟨o, ho, hexec⟩ := exec_frameEnd_good hs hlevel hgood
  have hf := Node.settle_follows { o with rx := o.filteredRx f }
  have hnotices : (Node.settle { o with rx := o.filteredRx f }).alarm.notices = o.alarm.notices := by
    rw [Node.settle_alarm]
  have hevent : (Node.settle { o with rx := o.filteredRx f }).alarm.lastEvent = o.alarm.lastEvent := by
    rw [Node.settle_alarm]
  refine ⟨_, hexec, rfl, ?_⟩
  intro b
  have hb : b = o.peers := hf.peers
  refine ⟨fun hown => ?_, fun hother => ?_⟩
  · have hconflict : o = s.node.passed.conflict := ho.trans (Node.observe_own h0 h255 (by simpa using hown))
    refine ⟨?_, fun hclear hact => ?_, fun hraised => ?_⟩
    · rw [hb, hconflict, Node.conflict_peers, Node.passed_peers]
    · rw [hnotices, hconflict]
      have h := Node.conflict_raised (n := s.node.passed) (by simpa using hclear) (by simpa using hact)
      rwa [Node.passed_cfg] at h
    · rw [hnotices, hconflict, Node.conflict_standing (by simpa using hraised)]
      exact s.node.passed_mem (by simp)
  · have hother' : f.hdr.sender ≠ s.node.passed.cfg.address := by simpa using hother
    obtain ⟨t, ht⟩ : ∃ t : PeerTable, t = { s.node.peers with
        lostSubjects := s.node.peers.lostSubjects.filter (· != f.hdr.sender) } := ⟨_, rfl⟩
    have hpeers : b = PeerTable.listing
        (t.take s.node.cfg.address s.node.cfg.zone s.node.clock level f).1 (f.lists s.node.cfg.address) := by
      rw [hb, ho, ht]
      refine (Node.observe_peers h0 h255 hother').trans ?_
      simp only [Node.taken, Node.checkLostSubject_peers, Node.passed_peers, Node.passed_cfg, Node.passed_clock]
    obtain ⟨kraised, kheard, kquiet, klisted, klost⟩ := t.take_keeps_rest (own := s.node.cfg.address)
      (zone := s.node.cfg.zone) (now := s.node.clock) (level := level) (f := f)
    have hentries : t.entries = s.node.peers.entries := by rw [ht]
    refine ⟨?_, ?_, ?_, ?_, ?_, fun hlost hact => ?_, fun hnot => ?_, ?_⟩
    · exact (congrArg PeerTable.conflictRaised hpeers).trans (kraised.trans (by rw [ht]))
    · exact (congrArg PeerTable.conflictHeard hpeers).trans (kheard.trans (by rw [ht]))
    · exact (congrArg PeerTable.quietCount hpeers).trans (kquiet.trans (by rw [ht]))
    · have hlisted : b.listed = (f.lists own || a.listed) := by
        rw [hpeers]
        refine congrArg (f.lists own || ·) (klisted.trans (by rw [ht]))
      rw [hlisted, ← f.lists_iff, Bool.or_eq_true, or_comm]
    · have hfilter : (fun x => !decide (x = sender)) = (· != f.hdr.sender) := by
        funext x
        rw [bne, beq_eq_decide]
      have hkept : b.lostSubjects = a.lostSubjects.filter (· != f.hdr.sender) :=
        (congrArg PeerTable.lostSubjects hpeers).trans (klost.trans (by rw [ht]))
      rw [hkept, ← hfilter]
      simp
    · rw [hnotices, hevent, ho]
      have h := Node.observe_found (level := level) h0 h255 hother' (by simpa using hlost) (by simpa using hact)
      rwa [Node.passed_clock] at h
    · rw [hnotices, ho, Node.observe_notLost h0 h255 hother' (by simpa using hnot)]
      exact s.node.passed_mem (by simp)
    · intro itself written
      have hwritten : ∀ {q p : Peer}, f.Writes s.node.cfg.address s.node.clock q p → written q p := by
        rintro q p ⟨hbeacon, hevidence, hrest⟩
        refine ⟨fun status lv heard hself hbody => ?_, hevidence, hrest⟩
        obtain ⟨wzone, wrole, wpv, wtwoWay, walarm⟩ := hbeacon status lv heard hself hbody
        rw [AlarmState.ofCode_status] at walarm
        exact ⟨wzone, wrole, wpv, wtwoWay, walarm⟩
      refine ⟨fun i p hi hp hfirst => ?_, fun hnew q hq haddress p hzone hrole htwoWay halarm hpv => ?_⟩
      · rw [hpeers]
        obtain ⟨q, hq, hw⟩ := PeerTable.take_matched_writes (own := s.node.cfg.address) (zone := s.node.cfg.zone)
          (now := s.node.clock) (level := level) (f.lists s.node.cfg.address)
          (hentries ▸ hi) hp (hentries ▸ hfirst)
        exact ⟨q, hq, hwritten hw⟩
      · rw [hpeers] at hq
        refine hwritten (PeerTable.take_admitted_writes _ (hentries ▸ hnew) hq haddress ?_)
        have hself : f.fromOrigin = true ↔ itself := beq_iff_eq
        refine ⟨?_, ?_, htwoWay.symm, halarm.symm, hpv.symm⟩
        · rw [hzone]
          by_cases h : itself
          · rw [if_pos h]; exact if_pos (hself.mpr h)
          · rw [if_neg h]; exact if_neg (fun hc => h (hself.mp hc))
        · rw [hrole]
          by_cases h : itself
          · rw [if_pos h]; exact if_pos (hself.mpr h)
          · rw [if_neg h]; exact if_neg (fun hc => h (hself.mp hc))
end

section
/-! A good frame: the filters and the receive slots (R127 to R132). -/

namespace Sys2Proof.Machine

/-! ## What the filters are given -/

/-- The Link Observer leaves the receiver, the clock and the image. -/
theorem Node.observe_same (n : Node) (level : Nat) (f : Frame) :
    (n.observe level f).rx = n.rx ∧ (n.observe level f).clock = n.clock ∧ (n.observe level f).loader = n.loader := by
  have hchecked : (n.checkLostSubject f.hdr.sender).rx = n.rx ∧ (n.checkLostSubject f.hdr.sender).clock = n.clock ∧
      (n.checkLostSubject f.hdr.sender).loader = n.loader := by
    unfold Node.checkLostSubject
    split
    · exact ⟨Node.deliver_rx _ _, Node.deliver_clock _ _, Node.deliver_loader _ _⟩
    · exact ⟨rfl, rfl, rfl⟩
  obtain ⟨crx, cclock, cloader⟩ := hchecked
  by_cases h0 : f.hdr.sender = 0 ∨ f.hdr.sender = 255
  · have hnone : n.observe level f = n := by
      unfold Node.observe
      exact if_pos (Bool.or_eq_true_iff.mpr (h0.imp beq_iff_eq.mpr beq_iff_eq.mpr))
    rw [hnone]
    exact ⟨rfl, rfl, rfl⟩
  · obtain ⟨h0, h255⟩ := not_or.mp h0
    by_cases hown : f.hdr.sender = n.cfg.address
    · rw [Node.observe_own h0 h255 hown]
      exact ⟨Node.deliver_rx _ _, Node.deliver_clock _ _, Node.deliver_loader _ _⟩
    · rcases Node.observe_other (level := level) h0 h255 hown with ho | ho
      · rw [ho]
        exact ⟨crx, cclock, cloader⟩
      · have hacts := (n.taken level f).reevaluate_acts
        rw [ho]
        exact ⟨hacts.rx.trans crx, hacts.clock.trans cclock, hacts.loader.trans cloader⟩

/-- The receiver that a good frame's end leaves, but for its state. -/
def Receiver.judgedGood (r : Receiver) (now : Stamp) (filters : List Filter) (f : Frame) : Receiver :=
  match decideFilter f.key filters with
  | none => r
  | some (relay, use) => (r.accept now ⟨f, relay, use, now, false⟩).dispatch

/-- Two receivers agree in the slots, their order, the dispatcher, the overruns and the capture. -/
def Receiver.SameSlots (u r : Receiver) : Prop :=
  u.slots = r.slots ∧ u.order = r.order ∧ u.service = r.service ∧ u.overruns = r.overruns ∧ u.capture = r.capture

theorem exec_frameEnd_slots {s : State} {bytes : List Byte} {level : Nat} {f : Frame}
    (hs : s.node.rx.state = .assembling) (hlevel : s.node.rx.assembly = some level)
    (hgood : judgeFrame s.node.cfg.networkId bytes = .good f) :
    ∃ t, exec (.frameEnd bytes) s = .next t ∧ t.pending = s.pending ∧
      t.node.rx.SameSlots (s.node.endAssembly.rx.judgedGood s.node.clock s.node.cfg.filters f) := by
  obtain ⟨o, ho, hexec⟩ := exec_frameEnd_good hs hlevel hgood
  obtain ⟨orx, oclock, oloader⟩ := s.node.passed.observe_same level f
  rw [← ho] at orx oclock oloader
  rw [Node.passed_rx] at orx
  rw [Node.passed_clock] at oclock
  rw [Node.passed_loader] at oloader
  have hrx : o.filteredRx f = s.node.endAssembly.rx.judgedGood s.node.clock s.node.cfg.filters f := by
    have hfiltered : ∀ n : Node, n.filteredRx f = n.rx.judgedGood n.clock n.cfg.filters f := fun _ => rfl
    have hcfg : o.cfg = s.node.cfg := by rw [Node.cfg, oloader]; rfl
    rw [hfiltered, orx, oclock, hcfg]
  have hf := Node.settle_follows { o with rx := o.filteredRx f }
  refine ⟨_, hexec, rfl, ?_⟩
  rw [← hrx]
  exact ⟨hf.rxSlots, hf.rxOrder, hf.rxService, hf.rxOverruns, hf.rxCapture⟩

/-! ## The filters (R128) -/

theorem Filter.matches_iff (flt : Filter) (k : Key) : flt.matches k = true ↔ (k ^^^ flt.key) &&& flt.mask = 0 :=
  beq_iff_eq

theorem decideFilter_none {k : Key} {filters : List Filter} (h : ∀ x ∈ filters, (k ^^^ x.key) &&& x.mask ≠ 0) :
    decideFilter k filters = none := by
  induction filters with
  | nil => rfl
  | cons x xs ih =>
    have hx : ¬x.matches k = true := fun hm => h x List.mem_cons_self ((x.matches_iff k).mp hm)
    rw [decideFilter, if_neg hx]
    exact ih (fun y hy => h y (List.mem_cons_of_mem _ hy))

theorem decideFilter_first {k : Key} {before after : List Filter} {flt : Filter}
    (h : ∀ x ∈ before, (k ^^^ x.key) &&& x.mask ≠ 0) (hflt : (k ^^^ flt.key) &&& flt.mask = 0) :
    decideFilter k (before ++ flt :: after) =
      if flt.relay || flt.use then some (flt.relay, flt.use) else none := by
  induction before with
  | nil => exact if_pos ((flt.matches_iff k).mpr hflt)
  | cons x xs ih =>
    have hx : ¬x.matches k = true := fun hm => h x List.mem_cons_self ((x.matches_iff k).mp hm)
    rw [List.cons_append, decideFilter, if_neg hx]
    exact ih (fun y hy => h y (List.mem_cons_of_mem _ hy))

/-! ## The slots (R129, R130) -/

theorem FrameClass.rank_lt_alarm (c : FrameClass) : c.rank < FrameClass.alarm.rank ↔ c ≠ .alarm := by
  cases c <;> decide

section
variable {r : Receiver} {now : Stamp} {x y : Slot} {i : Nat}

theorem Receiver.accept_free (hi : r.slots[i]? = some none) (hfirst : ∀ j < i, r.slots[j]? ≠ some none) :
    r.accept now x = r.fill i x := by
  obtain ⟨a, b, hsplit, hlen⟩ := getElem?_split _ _ _ hi
  have hindex : indexOf Option.isNone r.slots = some i := by
    rw [hsplit, hlen]
    refine indexOf_append _ _ _ _ (fun e he => ?_) rfl
    obtain ⟨j, hj, hget⟩ := List.mem_iff_getElem.mp he
    cases e with
    | none =>
      refine absurd ?_ (hfirst j (by omega))
      rw [hsplit, List.getElem?_append_left hj, List.getElem?_eq_getElem hj, hget]
    | some q => rfl
  unfold Receiver.accept
  rw [hindex]

/-- An occupied slot that an arriving ALARM may displace: READY and below ALARM (R130). -/
theorem Receiver.below_iff (hy : r.slots[i]? = some (some y)) :
    (r.ready i && decide (r.rankAt i < FrameClass.alarm.rank)) = true ↔ y.inService = false ∧ y.frame.cls ≠ .alarm := by
  have hslot : r.slot i = some y := by rw [Receiver.slot, hy]; rfl
  rw [Receiver.ready, Receiver.rankAt, hslot, Bool.and_eq_true]
  refine and_congr ?_ ?_
  · simp
  · rw [decide_eq_true_iff]
    exact y.frame.cls.rank_lt_alarm

theorem Receiver.below_occupied (h : (r.ready i && decide (r.rankAt i < FrameClass.alarm.rank)) = true) :
    ∃ y : Slot, r.slots[i]? = some (some y) := by
  have hready := (Bool.and_eq_true_iff.mp h).1
  unfold Receiver.ready Receiver.slot at hready
  cases hget : r.slots[i]? with
  | none => simp [hget] at hready
  | some e =>
    cases e with
    | none => simp [hget] at hready
    | some y => exact ⟨y, rfl⟩

theorem Receiver.displaceable_none
    (h : ∀ i : Nat, ¬∃ y : Slot, r.slots[i]? = some (some y) ∧ y.inService = false ∧ y.frame.cls ≠ .alarm) :
    r.displaceable = none := by
  have hempty : r.order.filter (fun i => r.ready i && decide (r.rankAt i < FrameClass.alarm.rank)) = [] := by
    refine List.filter_eq_nil_iff.mpr (fun i _ hbelow => ?_)
    obtain ⟨y, hy⟩ := Receiver.below_occupied hbelow
    exact h i ⟨y, hy, (Receiver.below_iff hy).mp hbelow⟩
  unfold Receiver.displaceable
  rw [hempty]

theorem Receiver.displaceable_newest {older newer : List Nat} (horder : r.order = older ++ i :: newer)
    (hy : r.slots[i]? = some (some y)) (hready : y.inService = false) (hbelow : y.frame.cls ≠ .alarm)
    (holder : ∀ j ∈ older, ∀ z, r.slots[j]? = some (some z) → z.inService = false →
      y.frame.cls.rank ≤ z.frame.cls.rank)
    (hnewer : ∀ j ∈ newer, ∀ z, r.slots[j]? = some (some z) → z.inService = false →
      y.frame.cls.rank < z.frame.cls.rank) : r.displaceable = some i := by
  obtain ⟨g, hg⟩ : ∃ g : Nat → Bool, g = fun i => r.ready i && decide (r.rankAt i < FrameClass.alarm.rank) := ⟨_, rfl⟩
  have hrank : ∀ {j : Nat} {z : Slot}, r.slots[j]? = some (some z) → r.rankAt j = z.frame.cls.rank := by
    intro j z hz
    simp [Receiver.rankAt, Receiver.slot, hz]
  have hgz : ∀ j, g j = true → ∃ z, r.slots[j]? = some (some z) ∧ z.inService = false := by
    intro j hj
    rw [hg] at hj
    obtain ⟨z, hz⟩ := Receiver.below_occupied hj
    exact ⟨z, hz, ((Receiver.below_iff hz).mp hj).1⟩
  have hgi : g i = true := by
    rw [hg]
    exact (Receiver.below_iff hy).mpr ⟨hready, hbelow⟩
  have hlow : ∀ j ∈ older, g j = true → y.frame.cls.rank ≤ r.rankAt j := by
    intro j hj hgj
    obtain ⟨z, hz, hs⟩ := hgz j hgj
    rw [hrank hz]
    exact holder j hj z hz hs
  have hhigh : ∀ j ∈ newer, g j = true → y.frame.cls.rank < r.rankAt j := by
    intro j hj hgj
    obtain ⟨z, hz, hs⟩ := hgz j hgj
    rw [hrank hz]
    exact hnewer j hj z hz hs
  have hall : r.order.filter g = older.filter g ++ i :: newer.filter g := by
    rw [horder, List.filter_append, List.filter_cons_of_pos hgi]
  have hmem : ∀ j, j ∈ r.order.filter g → y.frame.cls.rank ≤ r.rankAt j := by
    intro j hj
    rw [hall, List.mem_append, List.mem_cons] at hj
    rcases hj with hj | rfl | hj
    · exact hlow j (List.mem_filter.mp hj).1 (List.mem_filter.mp hj).2
    · exact le_of_eq (hrank hy).symm
    · exact le_of_lt (hhigh j (List.mem_filter.mp hj).1 (List.mem_filter.mp hj).2)
  have hi : i ∈ r.order.filter g := by
    rw [hall]
    simp
  have hlast : ((r.order.filter g).filter (fun j => r.rankAt j == y.frame.cls.rank)).getLast? = some i := by
    have hnone : (newer.filter g).filter (fun j => r.rankAt j == y.frame.cls.rank) = [] := by
      refine List.filter_eq_nil_iff.mpr (fun j hj heq => ?_)
      have hlt := hhigh j (List.mem_filter.mp hj).1 (List.mem_filter.mp hj).2
      exact absurd (beq_iff_eq.mp heq) (by omega)
    rw [hall, List.filter_append, List.filter_cons_of_pos (by simpa using hrank hy), hnone]
    simp
  unfold Receiver.displaceable
  simp only [← hg]
  cases hbelow : r.order.filter g with
  | nil =>
    rw [hbelow] at hi
    cases hi
  | cons j rest =>
    have hleast : rest.foldl (fun m k => min m (r.rankAt k)) (r.rankAt j) = y.frame.cls.rank := by
      refine foldl_min_eq r.rankAt _ rest _ (hmem j (by rw [hbelow]; simp))
        (fun k hk => hmem k (by rw [hbelow]; exact List.mem_cons_of_mem _ hk)) ?_
      rw [hbelow] at hi
      rcases List.mem_cons.mp hi with rfl | hi
      · exact .inl (hrank hy)
      · exact .inr ⟨i, hi, hrank hy⟩
    simp only [hleast, ← hbelow]
    exact hlast

theorem Receiver.accept_overruns (hfull : ∀ e ∈ r.slots, e ≠ none) :
    (r.accept now x).overruns = min 255 (r.overruns + 1) ∧ (r.accept now x).service = r.service := by
  have hindex : indexOf Option.isNone r.slots = none := indexOf_none _ _ (fun e he => by
    cases e with
    | none => exact absurd rfl (hfull none he)
    | some q => rfl)
  unfold Receiver.accept
  rw [hindex]
  simp only []
  split
  · exact ⟨rfl, rfl⟩
  · split
    · exact ⟨rfl, rfl⟩
    · exact ⟨rfl, rfl⟩

theorem Receiver.accept_lost (hfull : ∀ e ∈ r.slots, e ≠ none)
    (h : x.frame.cls ≠ .alarm ∨ r.displaceable = none) : r.accept now x = r.overrun now x.frame := by
  have hindex : indexOf Option.isNone r.slots = none := indexOf_none _ _ (fun e he => by
    cases e with
    | none => exact absurd rfl (hfull none he)
    | some q => rfl)
  have hnone : (if x.frame.cls == .alarm then r.displaceable else none) = none := by
    split
    · next ha => exact h.resolve_left (fun hc => hc (beq_iff_eq.mp ha))
    · rfl
  unfold Receiver.accept
  simp only [hindex, hnone]

theorem Receiver.accept_displaces (hfull : ∀ e ∈ r.slots, e ≠ none) (hx : x.frame.cls = .alarm)
    (hd : r.displaceable = some i) (hy : r.slots[i]? = some (some y)) :
    r.accept now x = (r.overrun now y.frame).fill i x := by
  have hindex : indexOf Option.isNone r.slots = none := indexOf_none _ _ (fun e he => by
    cases e with
    | none => exact absurd rfl (hfull none he)
    | some q => rfl)
  have hslot : r.slot i = some y := by rw [Receiver.slot, hy]; rfl
  unfold Receiver.accept
  simp only [hindex, hx, beq_self_eq_true, if_true, hd, hslot]

theorem Receiver.dispatch_serving (h : r.service.isSome = true) : r.dispatch = r := if_pos h

end

/-- What a fill leaves (R129). -/
theorem Receiver.fill_takes {r : Receiver} {i : Nat} (x : Slot) (hi : i < r.slots.length) :
    (r.fill i x).slots[i]? = some (some x) ∧ (∀ j, j ≠ i → (r.fill i x).slots[j]? = r.slots[j]?) ∧
    (r.fill i x).order = r.order.filter (· ≠ i) ++ [i] ∧ (r.fill i x).service = r.service := by
  refine ⟨setAt_getElem?_self _ _ _ hi, fun j hj => setAt_getElem?_ne _ _ _ _ hj, ?_, rfl⟩
  have hne : (fun j : Nat => j != i) = (fun j : Nat => decide (j ≠ i)) := by
    funext j
    simp [bne, beq_eq_decide]
  unfold Receiver.fill
  rw [hne]

/-! ## An idle receiver takes a frame (R131, R132) -/

section
variable {r : Receiver} {x : Slot}

/-- The receiver whose one occupied slot is slot 0. -/
def Receiver.holding (r : Receiver) (x : Slot) : Receiver :=
  { r with slots := [some x, none, none, none], order := [0] }

theorem Receiver.holding_choose (hx : x.inService = false) : (r.holding x).choose = some 0 := by
  simp [Receiver.choose, Receiver.holding, Receiver.ready, Receiver.rankAt, Receiver.slot, hx]

theorem Receiver.accept_idle {now : Stamp} (hslots : r.slots = [none, none, none, none]) (horder : r.order = []) :
    r.accept now x = r.holding x := by
  rw [Receiver.accept_free (i := 0) (by rw [hslots]; rfl) (fun j hj => absurd hj (Nat.not_lt_zero j))]
  unfold Receiver.fill Receiver.holding
  rw [hslots, horder]
  rfl

theorem Receiver.holding_dispatch (hx : x.inService = false) (hservice : r.service = none) :
    (r.holding x).dispatch =
      if x.frame.cls.relayable then
        { r.holding { x with inService := true } with service := some ⟨0, .seenCheck⟩ }
      else if x.use then { r.holding { x with inService := true } with service := some ⟨0, .useDelivery⟩ }
      else { r with slots := [none, none, none, none], order := [], service := none } := by
  have hidle : ¬(r.holding x).service.isSome = true := by simp [Receiver.holding, hservice]
  unfold Receiver.dispatch
  rw [if_neg hidle, Receiver.beginService]
  simp only [Receiver.holding_choose hx]
  rfl

end

end Sys2Proof.Machine

open Sys2Proof.Machine in
/-- Settles O35: the filter that decides, then the slot that an accepted frame takes. -/
theorem acceptedFramesTakeSlots : Obligations.AcceptedFramesTakeSlots := by
  unfold Obligations.AcceptedFramesTakeSlots
  intro s bytes level f hs hlevel hgood
  obtain ⟨t, hexec, hpending, hsame⟩ := exec_frameEnd_slots hs hlevel hgood
  refine ⟨t, hexec, hpending, ?_⟩
  intro r u stays
  obtain ⟨r', hr'⟩ : ∃ r' : Receiver, r' = s.node.endAssembly.rx := ⟨_, rfl⟩
  have hr : r'.SameSlots r := by
    rw [hr']
    exact ⟨rfl, rfl, rfl, rfl, rfl⟩
  obtain ⟨rslots, rorder, rservice, roverruns, rcapture⟩ := hr
  rw [← hr'] at hsame
  have hstays : decideFilter f.key s.node.cfg.filters = none → stays := by
    intro hnone
    unfold Receiver.judgedGood at hsame
    rw [hnone] at hsame
    obtain ⟨a, b, c, d, e⟩ := hsame
    exact ⟨a.trans rslots, b.trans rorder, c.trans rservice, d.trans roverruns, e.trans rcapture⟩
  refine ⟨fun hno => hstays (decideFilter_none hno), fun before flt after hfilters hbefore hflt => ?_⟩
  have hdecide := decideFilter_first (after := after) hbefore hflt
  rw [← hfilters] at hdecide
  refine ⟨fun hrelay huse => hstays (hdecide.trans (by rw [hrelay, huse]; rfl)), fun hsome => ?_⟩
  rw [if_pos (Bool.or_eq_true_iff.mpr hsome)] at hdecide
  obtain ⟨x, hx⟩ : ∃ x : Slot, x = ⟨f, flt.relay, flt.use, s.node.clock, false⟩ := ⟨_, rfl⟩
  have haccepted : u.SameSlots (r'.accept s.node.clock x).dispatch := by
    unfold Receiver.judgedGood at hsame
    rw [hdecide] at hsame
    rw [hx]
    exact hsame
  refine ⟨fun hslots horder hservice => ?_, fun hserving => ?_⟩
  · rw [Receiver.accept_idle (rslots.trans hslots) (rorder.trans horder),
      Receiver.holding_dispatch (by rw [hx]) (rservice.trans hservice)] at haccepted
    have hclass : x.frame.cls = f.cls := by rw [hx]
    have huse : x.use = flt.use := by rw [hx]
    rw [hclass, huse] at haccepted
    refine ⟨fun hrelayable => ?_, fun hone hflag => ?_, fun hone hflag => ?_⟩
    · rw [if_pos hrelayable, hx] at haccepted
      obtain ⟨a, b, c, -, -⟩ := haccepted
      exact ⟨a, b, c⟩
    · rw [if_neg (by simp [hone]), if_pos hflag, hx] at haccepted
      obtain ⟨a, b, c, -, -⟩ := haccepted
      exact ⟨a, b, c⟩
    · rw [if_neg (by simp [hone]), if_neg (by simp [hflag])] at haccepted
      obtain ⟨a, b, c, -, -⟩ := haccepted
      exact ⟨a.trans hslots.symm, b, c⟩
  · intro arrived takes rankBelow
    have harrived : x = arrived := hx
    have hserves : (r'.accept s.node.clock x).service.isSome = true → u.SameSlots (r'.accept s.node.clock x) := by
      intro h
      rwa [Receiver.dispatch_serving h] at haccepted
    have hr'serving : r'.service.isSome = true := by rw [rservice]; exact hserving
    have htakes : ∀ (q : Receiver) (i : Nat), q.slots = r.slots → q.order = r.order → q.service = r.service →
        i < r.slots.length → u.SameSlots (q.fill i x) → takes i := by
      intro q i qslots qorder qservice hi hfill
      obtain ⟨a, b, c, -, -⟩ := hfill
      obtain ⟨fself, fother, forder, fservice⟩ := q.fill_takes x (i := i) (by rw [qslots]; exact hi)
      refine ⟨?_, fun j hj => ?_, ?_, c.trans (fservice.trans qservice)⟩
      · rw [a, ← harrived]
        exact fself
      · rw [a, ← qslots]
        exact fother j hj
      · rw [b, ← qorder]
        exact forder
    refine ⟨fun i hi hfirst => ?_, fun hlen hfull hall => ?_⟩
    · have hfill := Receiver.accept_free (r := r') (now := s.node.clock) (x := x) (rslots ▸ hi) (rslots ▸ hfirst)
      rw [hfill] at hserves
      have hu := hserves hr'serving
      refine ⟨htakes r' i rslots rorder rservice (lt_of_getElem?_some hi) hu, ?_⟩
      obtain ⟨-, -, -, d, e⟩ := hu
      exact ⟨d.trans roverruns, e.trans rcapture⟩
    · have hfull' : ∀ e ∈ r'.slots, e ≠ none := rslots ▸ hfull
      obtain ⟨hoverruns, hservice⟩ := Receiver.accept_overruns (now := s.node.clock) (x := x) hfull'
      have hu := hserves (by rw [hservice]; exact hr'serving)
      refine ⟨?_, fun hlost => ?_, fun halarm older newer i y horder hy hready hbelow holder hnewer => ?_⟩
      · obtain ⟨-, -, -, d, -⟩ := hu
        rw [d, hoverruns, roverruns]
      · have hcase : x.frame.cls ≠ .alarm ∨ r'.displaceable = none := by
          refine hlost.imp (fun h => by rw [hx]; exact h) (fun h => Receiver.displaceable_none ?_)
          rw [rslots]
          exact h
        rw [Receiver.accept_lost hfull' hcase] at hu
        obtain ⟨a, b, c, -, e⟩ := hu
        refine ⟨a.trans rslots, b.trans rorder, c.trans rservice, e.trans ?_⟩
        rw [hx]
        rfl
      · have hd : r'.displaceable = some i := by
          refine Receiver.displaceable_newest (rorder.trans horder) (rslots ▸ hy) hready hbelow ?_ ?_
          · rw [rslots]; exact holder
          · rw [rslots]; exact hnewer
        rw [Receiver.accept_displaces hfull' (by rw [hx]; exact halarm) hd (rslots ▸ hy)] at hu
        refine ⟨htakes (r'.overrun s.node.clock y.frame) i rslots rorder rservice (lt_of_getElem?_some hy) hu, ?_⟩
        obtain ⟨-, -, -, -, e⟩ := hu
        exact e
end

section
/-! Assembly, and the frames that are bad or foreign (R124 to R128, R153). -/

namespace Sys2Proof.Machine

/-! ## A bad frame (R125, R126, R153) -/

section
variable (n : Node)

@[simp] theorem Node.badFrame_rx : n.badFrame.rx = { n.rx with badFrames := countUp n.rx.badFrames } := by
  simp [Node.badFrame]
@[simp] theorem Node.badFrame_power : n.badFrame.power = n.power := by simp [Node.badFrame]
@[simp] theorem Node.badFrame_peers : n.badFrame.peers = n.peers := by simp [Node.badFrame]
@[simp] theorem Node.badFrame_sensing : n.badFrame.sensing = n.sensing := by simp [Node.badFrame]
@[simp] theorem Node.badFrame_loader : n.badFrame.loader = n.loader := by simp [Node.badFrame]
@[simp] theorem Node.badFrame_clock : n.badFrame.clock = n.clock := by simp [Node.badFrame]
@[simp] theorem Node.badFrame_losses : n.badFrame.tx.losses = n.tx.losses := by simp [Node.badFrame]
@[simp] theorem Node.badFrame_contention : n.badFrame.tx.contention = n.tx.contention := by simp [Node.badFrame]
@[simp] theorem Node.badFrame_onPanel : n.badFrame.onPanel = n.onPanel := by simp [Node.onPanel]
@[simp] theorem Node.badFrame_alarmSideCause : n.badFrame.alarmSideCause = n.alarmSideCause := by
  simp [Node.alarmSideCause, Node.badFrame]

theorem Node.badFrame_seen : n.badFrame.relay.seen.map (fun e => (e.origin, e.seq, e.cls, e.firstHeard, e.copies)) =
    n.relay.seen.map (fun e => (e.origin, e.seq, e.cls, e.firstHeard, e.copies)) := by
  have hplain : ∀ es : List SeenEntry, es.map (fun e => (e.origin, e.seq, e.cls, e.firstHeard, e.copies)) =
      (es.map SeenEntry.plain).map (fun e => (e.origin, e.seq, e.cls, e.firstHeard, e.copies)) := fun es => by
    rw [List.map_map]
    rfl
  obtain ⟨k, hk⟩ : ∃ k : Node, k = { n with rx := { n.rx with badFrames := countUp n.rx.badFrames } } := ⟨_, rfl⟩
  have hseen := (k.deliver_acts [.frame false]).bounds.seen
  have hrelay : k.relay = n.relay := by rw [hk]
  have hbad : n.badFrame = k.deliver [.frame false] := by rw [hk]; rfl
  rw [hrelay] at hseen
  rw [hbad, hplain, hseen, ← hplain]

/-- The engine at most leaves IDLE: a notice can follow. -/
theorem Node.badFrame_engine : n.badFrame.tx.engine = n.tx.engine ∨ n.tx.engine = .idle ∧
    (n.badFrame.tx.engine = .gap ∨ n.badFrame.tx.engine = .wait) := by
  rcases (Node.deliver_acts { n with rx := { n.rx with badFrames := countUp n.rx.badFrames } }
    [.frame false]).bounds.served.engine with h | ⟨h, h' | ⟨h', -⟩⟩
  · exact .inl h
  · exact .inr ⟨h, .inl h'⟩
  · exact .inr ⟨h, .inr h'⟩

theorem Node.badFrame_engine_ne {n : Node} (h : n.tx.engine ≠ .sending) : n.badFrame.tx.engine ≠ .sending := by
  rcases n.badFrame_engine with he | ⟨-, he | he⟩
  · rwa [he]
  · rw [he]; nofun
  · rw [he]; nofun

theorem Node.RunByRole.badFrame {n : Node} (h : n.RunByRole) : n.badFrame.RunByRole :=
  ⟨by simpa using h.phase, by simpa using h.role⟩

theorem Node.Patrolling.badFrame {n : Node} (h : n.Patrolling) : n.badFrame.Patrolling :=
  ⟨by simpa using h.phase, by simpa using h.role, by simpa using h.alarmSide, by simpa using h.hold⟩

end

/-- A bad frame strains a LINKED node with RFC 127 only (R153, R156). -/
theorem Link.bad_state {l : Link} (h : l.rfc ≠ 127 ∨ l.state ≠ .linked) : (l.afterFrame false).state = l.state := by
  have hafter : l.afterFrame false = { l with rfc := min 255 (l.rfc + 1) } := by simp [Link.afterFrame]
  rw [hafter]
  by_cases hisolated : 256 ≤ l.efc
  · simp [Link.state, hisolated]
  · by_cases hefc : 127 < l.efc
    · simp [Link.state, hisolated, hefc]
    · have hrfc : (127 < min 255 (l.rfc + 1)) = (127 < l.rfc) := by
        have hne : l.rfc ≠ 127 := by
          rcases h with h | h
          · exact h
          · intro heq
            exact h (by simp [Link.state, hisolated, hefc, heq])
        rw [eq_iff_iff]
        omega
      simp [Link.state, hisolated, hefc, hrfc]

theorem Node.deliver_bad_quiet {n : Node} (h : n.link.rfc ≠ 127 ∨ n.link.state ≠ .linked) :
    n.deliver [.frame false] = { n with link := { n.link with rfc := min 255 (n.link.rfc + 1) } } :=
  Node.deliver_single (Node.setLink_same (Link.bad_state h))

/-- RFC rises by 1, up to 255 (R153). -/
theorem Node.deliver_bad_rfc (n : Node) : (n.deliver [.frame false]).link.rfc = min 255 (n.link.rfc + 1) := by
  by_cases h : n.link.rfc ≠ 127 ∨ n.link.state ≠ .linked
  · rw [Node.deliver_bad_quiet h]
  · obtain ⟨hrfc, hlinked⟩ := not_or.mp h
    have hrfc : n.link.rfc = 127 := not_not.mp hrfc
    have hlinked : n.link.state = .linked := not_not.mp hlinked
    cases hact : n.active with
    | true => rw [(Node.deliver_bad_strains hact hlinked hrfc).1, hrfc]; rfl
    | false =>
      obtain ⟨m, hm⟩ : ∃ m : Node, m = (n.setLink (n.link.afterFrame false)).1 := ⟨_, rfl⟩
      have hmlink : m.link.rfc = min 255 (n.link.rfc + 1) := by
        rw [hm, Node.setLink_link]
        rfl
      have hmact : m.active = false := by
        have hpower := (Node.setLink_reported n (n.link.afterFrame false)).power
        rw [← hm] at hpower
        simpa [Node.active, hpower] using hact
      have hquiet : ∀ t ∈ (n.setLink (n.link.afterFrame false)).2, Machine.deliver 11 t m = m := by
        intro t ht
        have hrun : Task.run m t = (m, []) := by
          unfold Node.setLink at ht
          simp only [] at ht
          split at ht
          · rw [List.mem_singleton.mp ht]; simp [Task.run, Node.raise, hmact]
          · split at ht
            · rw [List.mem_singleton.mp ht]; simp [Task.run, Node.clear, hmact]
            · cases ht
        show (Task.run m t).2.foldl _ (Task.run m t).1 = m
        rw [hrun]
        rfl
      have hstays : ∀ ts : List Task, (∀ t ∈ ts, Machine.deliver 11 t m = m) →
          ts.foldl (fun k t => Machine.deliver 11 t k) m = m := by
        intro ts
        induction ts with
        | nil => exact fun _ => rfl
        | cons t ts ih =>
          intro hall
          rw [List.foldl_cons, hall t List.mem_cons_self]
          exact ih (fun u hu => hall u (List.mem_cons_of_mem _ hu))
      have hdeliver : n.deliver [.frame false] = m := by
        show (n.setLink (n.link.afterFrame false)).2.foldl _ (n.setLink (n.link.afterFrame false)).1 = m
        rw [← hm]
        exact hstays _ hquiet
      rw [hdeliver, hmlink]

theorem Node.badFrame_rfc (n : Node) : n.badFrame.link.rfc = min 255 (n.link.rfc + 1) :=
  Node.deliver_bad_rfc { n with rx := { n.rx with badFrames := countUp n.rx.badFrames } }

theorem Node.badFrame_quiet {n : Node} (h : n.link.rfc ≠ 127 ∨ n.link.state ≠ .linked) : n.badFrame =
    { n with
      rx := { n.rx with badFrames := countUp n.rx.badFrames }
      link := { n.link with rfc := min 255 (n.link.rfc + 1) } } :=
  Node.deliver_bad_quiet (n := { n with rx := { n.rx with badFrames := countUp n.rx.badFrames } }) h

/-! ## The settling -/

/-- An empty assembly buffer stays empty. -/
theorem Node.settle_noAssembly {n : Node} (h : n.rx.assembly = none) : n.settle.rx.assembly = none := by
  have hpowered : n.poweredNode.rx.assembly = none := by
    unfold Node.poweredNode Node.settlePower
    simp only []
    split
    · split
      · unfold Node.enterRun
        simp only []
        split
        · rfl
        · simpa using h
      · simpa using h
    · split
      · simpa using h
      · simpa [Node.enterPatrol] using h
    · simpa using h
  rw [n.settle_rx, Node.switchRx_assembly, hpowered]
  split <;> rfl

theorem Node.rxWanted_of_run {n : Node} (h : n.power.phase = .run) (he : n.tx.engine ≠ .sending) :
    n.rxWanted = true := by
  simp [Node.rxWanted, h, he]

theorem Node.rxWanted_of_frameHold {n : Node} (h : n.power.phase = .patrol) (he : n.tx.engine ≠ .sending)
    (hf : n.power.frameHold = true) : n.rxWanted = true := by
  simp [Node.rxWanted, h, he, hf]

/-- A receiver that is on and wanted keeps its state (R124, R164). -/
theorem Node.PhaseStays.rxKept {n : Node} (h : n.PhaseStays) (hw : n.rxWanted = true) (hon : n.rx.state ≠ .off) :
    n.settle.rx.state = n.rx.state := by
  rw [h.rxState, if_pos hw, if_neg hon]

/-! ## The commands -/

/-- What the end of a frame leaves before it is judged: an empty buffer, the receiver in `st`, the power side `pw`. -/
def Node.discarding (n : Node) (st : RxState) (pw : Power) : Node :=
  { n with rx := { n.rx with state := st, assembly := none }, power := pw }

/-- A discarded frame: a foreign one is counted, any other is bad. -/
def Node.discarded (n : Node) (judged : Judgement) : Node :=
  if judged = .foreign then { n with rx := { n.rx with foreign := countUp n.rx.foreign } } else n.badFrame

theorem exec_badLength_discards {s : State} {len : Byte} (hs : s.node.rx.state = .assembling) (hl : 12 < len.toNat) :
    exec (.badLength len) s = .next { s with
      node := ((s.node.discarding .flushing s.node.power).discarded .bad).settle } := exec_badLength hs hl

/-- The power side once a frame has ended complete: no frame hold, and from a CRC passed in PATROL a new linger. -/
def Node.endedPower (n : Node) (judged : Judgement) : Power :=
  { n.power with
    frameHold := false
    linger := if judged ≠ .bad ∧ n.power.phase = .patrol then some (later n.clock 1024) else n.power.linger }

theorem exec_frameEnd_discards {s : State} {bytes : List Byte} {level : Nat} {judged : Judgement}
    (hs : s.node.rx.state = .assembling) (hlevel : s.node.rx.assembly = some level)
    (hj : judged = judgeFrame s.node.cfg.networkId bytes) (hnot : ∀ f, judged ≠ .good f) :
    exec (.frameEnd bytes) s = .next { s with
      node := ((s.node.discarding (if s.node.rx.carrier then .syncHunt else .listening)
        (s.node.endedPower judged)).discarded judged).settle } := by
  have hj' : judgeFrame s.node.endAssembly.cfg.networkId bytes = judged := hj.symm
  have hjudged : s.node.endAssembly.judgeEnd level bytes = (s.node.discarding
      (if s.node.rx.carrier then .syncHunt else .listening) (s.node.endedPower judged)).discarded judged := by
    unfold Node.judgeEnd
    rw [hj']
    have hlinger : judged ≠ .bad → s.node.endAssembly.linger = s.node.discarding
        (if s.node.rx.carrier then .syncHunt else .listening) (s.node.endedPower judged) := by
      intro hne
      refine (Node.linger_eq _).trans ?_
      simp only [Node.endedPower, hne, ne_eq, not_false_eq_true, true_and]
      rfl
    cases judged with
    | bad => rfl
    | foreign =>
      show { s.node.endAssembly.linger with
        rx := { s.node.endAssembly.rx with foreign := countUp s.node.endAssembly.rx.foreign } } = _
      rw [hlinger (by nofun)]
      exact (if_pos rfl).symm
    | malformed =>
      show s.node.endAssembly.linger.badFrame = _
      rw [hlinger (by nofun)]
      exact (if_neg (by nofun)).symm
    | good f => exact absurd rfl (hnot f)
  rw [← hjudged]
  simp only [exec, execFrameEnd, hs, hlevel]
  rfl

section
variable {n : Node} {st : RxState} {pw : Power} {judged : Judgement}

theorem Node.RunByRole.discarded (h : n.RunByRole) (hphase : pw.phase = n.power.phase) :
    ((n.discarding st pw).discarded judged).RunByRole := by
  have hk : (n.discarding st pw).RunByRole := ⟨hphase.trans h.phase, h.role⟩
  unfold Node.discarded
  split
  · exact ⟨hk.phase, hk.role⟩
  · exact hk.badFrame

theorem Node.Patrolling.discarded (h : n.Patrolling) (hphase : pw.phase = n.power.phase)
    (hhold : pw.runHold = n.power.runHold) : ((n.discarding st pw).discarded judged).Patrolling := by
  have hk : (n.discarding st pw).Patrolling := ⟨hphase.trans h.phase, h.role, h.alarmSide, hhold.trans h.hold⟩
  unfold Node.discarded
  split
  · exact ⟨hk.phase, hk.role, hk.alarmSide, hk.hold⟩
  · exact hk.badFrame

theorem Node.discarded_engine (he : n.tx.engine ≠ .sending) :
    ((n.discarding st pw).discarded judged).tx.engine ≠ .sending := by
  unfold Node.discarded
  split
  · exact he
  · exact Node.badFrame_engine_ne (n := n.discarding st pw) he

@[simp] theorem Node.discarded_power : ((n.discarding st pw).discarded judged).power = pw := by
  unfold Node.discarded
  split
  · rfl
  · exact Node.badFrame_power _

@[simp] theorem Node.discarded_rxState : ((n.discarding st pw).discarded judged).rx.state = st := by
  unfold Node.discarded
  split
  · rfl
  · rw [Node.badFrame_rx]; rfl

/-- What a discarded frame leaves and counts (R125, R126, R153). -/
structure Node.Discards (n t : Node) (judged : Judgement) : Prop where
  assembly : t.rx.assembly = none
  slots : t.rx.slots = n.rx.slots
  peers : t.peers = n.peers
  seen : t.relay.seen.map (fun e => (e.origin, e.seq, e.cls, e.firstHeard, e.copies)) =
    n.relay.seen.map (fun e => (e.origin, e.seq, e.cls, e.firstHeard, e.copies))
  skipped : t.sensing.skipped = n.sensing.skipped
  losses : t.tx.losses = n.tx.losses
  overruns : t.rx.overruns = n.rx.overruns
  bad : judged ≠ .foreign → t.rx.badFrames = min 255 (n.rx.badFrames + 1) ∧
    t.link.rfc = min 255 (n.link.rfc + 1) ∧ t.rx.foreign = n.rx.foreign
  foreign : judged = .foreign → t.rx.badFrames = n.rx.badFrames ∧ t.link = n.link ∧
    t.rx.foreign = min 255 (n.rx.foreign + 1)
  quiet : (judged = .foreign ∨ n.link.rfc ≠ 127 ∨ n.link.state ≠ .linked) →
    t.relay = n.relay ∧ t.tx.queue = n.tx.queue ∧ t.tx.drops = n.tx.drops

theorem Node.discarded_discards : n.Discards ((n.discarding st pw).discarded judged) judged := by
  by_cases hj : judged = .foreign
  · have hm : (n.discarding st pw).discarded judged = { n.discarding st pw with
        rx := { (n.discarding st pw).rx with foreign := countUp n.rx.foreign } } := if_pos hj
    rw [hm]
    exact ⟨rfl, rfl, rfl, rfl, rfl, rfl, rfl, fun h => absurd hj h, fun _ => ⟨rfl, rfl, rfl⟩, fun _ => ⟨rfl, rfl, rfl⟩⟩
  · have hm : (n.discarding st pw).discarded judged = (n.discarding st pw).badFrame := if_neg hj
    rw [hm]
    have hrx := (n.discarding st pw).badFrame_rx
    refine ⟨by rw [hrx]; rfl, by rw [hrx]; rfl, Node.badFrame_peers _, Node.badFrame_seen _,
      congrArg Sensing.skipped (Node.badFrame_sensing _), Node.badFrame_losses _, by rw [hrx]; rfl,
      fun _ => ⟨by rw [hrx]; rfl, Node.badFrame_rfc _, by rw [hrx]; rfl⟩, fun h => absurd h hj, fun h => ?_⟩
    rw [Node.badFrame_quiet (n := n.discarding st pw) (h.resolve_left hj)]
    exact ⟨rfl, rfl, rfl⟩

theorem Node.Discards.settled {m : Node} (h : n.Discards m judged) : n.Discards m.settle judged := by
  have hf := m.settle_follows
  exact
    { assembly := Node.settle_noAssembly h.assembly
      slots := hf.rxSlots.trans h.slots
      peers := hf.peers.trans h.peers
      seen := by rw [hf.relay]; exact h.seen
      skipped := by rw [hf.sensing]; exact h.skipped
      losses := hf.txLosses.trans h.losses
      overruns := hf.rxOverruns.trans h.overruns
      bad := by rw [hf.rxBadFrames, hf.link, hf.rxForeign]; exact h.bad
      foreign := by rw [hf.rxBadFrames, hf.link, hf.rxForeign]; exact h.foreign
      quiet := by rw [hf.relay, hf.txQueue, hf.txDrops]; exact h.quiet }

end

theorem exec_syncFound {s : State} (level : BitVec 7) (hs : s.node.rx.state = .syncHunt)
    (hosc : s.node.power.oscillator = .running) : exec (.syncFound level) s = .next { s with
      node := Node.settle { s.node with
        rx := { s.node.rx with state := .assembling, assembly := some level.toNat }
        power := if s.node.power.phase = .patrol then { s.node.power with hunt := none, frameHold := true }
          else s.node.power } } := by
  simp [exec, execSyncFound, hs, hosc, State.go]

end Sys2Proof.Machine

open Sys2Proof.Machine in
/-- Settles O32: the start of assembly, and the two ways a frame is discarded. -/
theorem assemblyStartsAndBadFramesCount : Obligations.AssemblyStartsAndBadFramesCount := by
  unfold Obligations.AssemblyStartsAndBadFramesCount
  refine ⟨fun s level hs hosc hcase => ?_, fun s c judged hs hcase => ?_⟩
  · obtain ⟨m, hm⟩ : ∃ m : Node, m = { s.node with
        rx := { s.node.rx with state := .assembling, assembly := some level.toNat }
        power := if s.node.power.phase = .patrol then { s.node.power with hunt := none, frameHold := true }
          else s.node.power } := ⟨_, rfl⟩
    have hexec : exec (.syncFound level) s = .next { s with node := m.settle } := by
      rw [hm]
      exact exec_syncFound level hs hosc
    have hf := m.settle_follows
    have hstate : m.rx.state = .assembling := by rw [hm]
    have hkept : m.PhaseStays ∧ m.rxWanted = true := by
      rcases hcase with ⟨hp, hidle⟩ | ⟨hrun, hengine⟩
      · have hpower : m.power = { s.node.power with hunt := none, frameHold := true } := by
          rw [hm]
          exact if_pos hp.phase
        have hmp : m.Patrolling := ⟨by rw [hpower]; exact hp.phase, by rw [hm]; exact hp.role,
          by rw [hm]; exact hp.alarmSide, by rw [hpower]; exact hp.hold⟩
        exact ⟨hmp.stays, Node.rxWanted_of_frameHold hmp.phase (by rw [hm]; simp [hidle]) (by rw [hpower])⟩
      · have hpower : m.power = s.node.power := by
          rw [hm]
          exact if_neg (by rw [hrun.phase]; nofun)
        have hmr : m.RunByRole := ⟨by rw [hpower]; exact hrun.phase, by rw [hm]; exact hrun.role⟩
        exact ⟨hmr.stays, Node.rxWanted_of_run hmr.phase (by rw [hm]; exact hengine)⟩
    obtain ⟨hstays, hwanted⟩ := hkept
    refine ⟨_, hexec, rfl, ?_, ?_, ?_, ?_, ?_, ?_, fun hp => ?_⟩
    · rw [hstays.rxKept hwanted (by rw [hstate]; nofun), hstate]
    · rw [hstays.assembly, if_pos (.inl hwanted), hm]
    · rw [hf.rxSlots, hm]
    · rw [hf.peers, hm]
    · unfold Node.statistics
      rw [hf.sensing, hf.peers, hf.txDrops, hf.txLosses, hf.rxBadFrames, hf.rxForeign, hf.rxOverruns, hm]
    · rw [hf.relay, hm]
    · obtain ⟨-, hhunt, -⟩ := hstays.holds
      have hpower : m.power = { s.node.power with hunt := none, frameHold := true } := by
        rw [hm]
        exact if_pos hp.phase
      refine ⟨by rw [hhunt, hpower], ?_⟩
      rw [hstays.frameHold, if_pos (.inl hwanted), hpower]
  · have hends : ∃ (st : RxState) (pw : Power), exec c s = .next { s with
        node := ((s.node.discarding st pw).discarded judged).settle } ∧ pw.phase = s.node.power.phase ∧
        pw.runHold = s.node.power.runHold ∧
        ((∃ len, c = .badLength len) → st = .flushing ∧ pw = s.node.power) ∧
        ((∃ bytes, c = .frameEnd bytes) → st = (if s.node.rx.carrier then .syncHunt else .listening) ∧
          pw = s.node.endedPower judged) := by
      rcases hcase with ⟨len, rfl, hl, rfl⟩ | ⟨bytes, level, rfl, hlevel, hj, hnot⟩
      · exact ⟨_, _, exec_badLength_discards hs hl, rfl, rfl, fun _ => ⟨rfl, rfl⟩, fun ⟨_, h⟩ => by cases h⟩
      · exact ⟨_, _, exec_frameEnd_discards hs hlevel hj hnot, rfl, rfl, (fun ⟨_, h⟩ => by cases h), fun _ => ⟨rfl, rfl⟩⟩
    obtain ⟨st, pw, hexec, hphase, hhold, hlength, hend⟩ := hends
    have hd := (Node.discarded_discards (n := s.node) (st := st) (pw := pw) (judged := judged)).settled
    have hrun : s.node.RunByRole → s.node.tx.engine ≠ .sending → st ≠ .off →
        ((s.node.discarding st pw).discarded judged).settle.rx.state = st := by
      intro h he hon
      have hr := h.discarded (st := st) (judged := judged) hphase
      rw [hr.stays.rxKept (Node.rxWanted_of_run hr.phase (Node.discarded_engine he)) (by simpa using hon)]
      exact Node.discarded_rxState
    refine ⟨_, hexec, rfl, hd.assembly, hd.slots, hd.peers, hd.seen, hd.skipped, hd.losses, hd.overruns, hd.bad,
      hd.foreign, hd.quiet, fun hc he hon => ?_, fun hc he hr => ?_, fun hc hp hj => ?_⟩
    · obtain ⟨hst, hpw⟩ := hlength hc
      rcases hon with hr | ⟨hp, hframe⟩
      · exact (hrun hr he (by rw [hst]; nofun)).trans hst
      · have hmp := hp.discarded (st := st) (judged := judged) hphase hhold
        have hwanted := Node.rxWanted_of_frameHold hmp.phase (Node.discarded_engine he)
          (by rw [Node.discarded_power, hpw]; exact hframe)
        have hkept := hmp.stays.rxKept hwanted (by rw [Node.discarded_rxState, hst]; nofun)
        exact hkept.trans (Node.discarded_rxState.trans hst)
    · obtain ⟨hst, -⟩ := hend hc
      exact (hrun hr he (by rw [hst]; split <;> nofun)).trans hst
    · obtain ⟨-, hpw⟩ := hend hc
      obtain ⟨-, -, hlinger⟩ := (hp.discarded (st := st) (judged := judged) hphase hhold).stays.holds
      refine hlinger.trans ?_
      rw [Node.discarded_power, hpw]
      exact if_pos ⟨hj, hp.phase⟩
end

section
/-! Carrier: its end (R113, R114, R116, R124, R126). -/

namespace Sys2Proof.Machine

/-! ## The engine under settling -/

theorem Node.poweredNode_engine (n : Node) : n.poweredNode.tx.engine = n.tx.engine := by
  unfold Node.poweredNode Node.settlePower
  simp only []
  split
  · split
    · simp [Node.enterRun]
    · simp
  · split
    · simp
    · simp [Node.enterPatrol]
  · simp

/-- With no carrier nothing defers (R113). -/
theorem Node.settle_engine_of_quiet {n : Node} (h : n.rx.carrier = false) : n.settle.tx.engine = n.tx.engine := by
  have hcarrier : n.poweredNode.switchRx.rx.carrier = false := by
    rw [Node.switchRx_carrier, n.poweredNode_follows.rxCarrier, h]
  have hstays : n.poweredNode.switchRx.deferToCarrier = n.poweredNode.switchRx := if_neg (by
    intro hc
    obtain ⟨⟨-, hc⟩, -⟩ := (by simpa only [Bool.and_eq_true] using hc :
      (_ ∧ n.poweredNode.switchRx.rx.carrier = true) ∧ _)
    rw [hcarrier] at hc
    cases hc)
  rw [n.settle_tx, hstays, Node.switchRx_engine, Node.poweredNode_engine]

/-! ## When the receiver is wanted in PATROL (R164) -/

theorem Node.rxWanted_of_hold {n : Node} (h : n.power.phase = .patrol) (he : n.tx.engine ≠ .sending)
    (hk : n.power.listen.isSome = true ∨ n.power.hunt.isSome = true ∨ n.power.linger.isSome = true) :
    n.rxWanted = true := by
  rcases hk with hk | hk | hk <;> simp [Node.rxWanted, h, he, hk]

theorem Node.rxWanted_of_none {n : Node} (h : n.power.phase = .patrol) (he : n.tx.engine = .idle)
    (hk : ¬(n.power.listen.isSome = true ∨ n.power.hunt.isSome = true ∨ n.power.linger.isSome = true))
    (hf : n.power.frameHold = false) : n.rxWanted = false := by
  obtain ⟨hl, hk⟩ := not_or.mp hk
  obtain ⟨hh, hg⟩ := not_or.mp hk
  simp [Node.rxWanted, h, he, hl, hh, hg, hf, Engine.claims]

/-! ## Carrier that stood in a window (R114, R116) -/

theorem listens_iff (code k : Nat) : listens code k = true ↔ 1 ≤ k ∧ k ≤ 11 ∧ code.testBit (11 - k) = false := by
  simp [listens, and_assoc]

/-- Carrier from `start` to `stop` stood in some listening slot. -/
theorem Contention.heardBetween_iff (c : Contention) (start stop : Int) : c.heardBetween start stop = true ↔
    ∃ k : Nat, 1 ≤ k ∧ k ≤ 11 ∧ c.code.testBit (11 - k) = false ∧
      start < c.edge + 250 * k + 250 ∧ c.edge + 250 * k ≤ stop := by
  unfold Contention.heardBetween Contention.slotOf
  rw [List.any_eq_true]
  constructor
  · rintro ⟨k, hk, h⟩
    simp only [Bool.and_eq_true, decide_eq_true_eq, listens_iff] at h
    obtain ⟨⟨hstart, hstop⟩, hlow, hhigh, hbit⟩ := h
    exact ⟨k, hlow, hhigh, hbit, by omega, by omega⟩
  · rintro ⟨k, hlow, hhigh, hbit, hstart, hstop⟩
    refine ⟨k, List.mem_range.mpr (by omega), ?_⟩
    simp only [Bool.and_eq_true, decide_eq_true_eq, listens_iff]
    exact ⟨⟨by omega, by omega⟩, hlow, hhigh, hbit⟩

/-- The CONTENDING entries wait again in their places (R116). -/
theorem Transmitter.lost_queue (t : Transmitter) (c : Contention) : (t.lose c).queue =
    t.queue.map (fun e => if e.state = .contending then { e with state := .waiting } else e) := by
  refine List.map_congr_left (fun e _ => ?_)
  by_cases h : e.state = .contending
  · rw [if_pos h, if_pos (beq_iff_eq.mpr h)]
  · rw [if_neg h, if_neg (fun hb => h (beq_iff_eq.mp hb))]

/-! ## The end of carrier -/

/-- The receiver once carrier has ended without a frame in assembly (R124). -/
def Node.carrierless (n : Node) : Node :=
  { n with
    rx := { n.rx with carrier := false, state := .listening }
    power := { n.power with frameHold := if n.rx.state = .flushing then false else n.power.frameHold } }

theorem Node.carrierGone_calm {n : Node} (hoff : n.rx.state ≠ .off) (h : n.rx.state ≠ .assembling) :
    Node.carrierGone { n with rx := { n.rx with carrier := false } } = n.carrierless := by
  unfold Node.carrierGone Node.carrierless
  cases hs : n.rx.state with
  | off => exact absurd hs hoff
  | assembling => exact absurd hs h
  | listening =>
    have hstate : ({ n.rx with carrier := false, state := .listening } : Receiver) = { n.rx with carrier := false } := by
      rw [← hs]
    exact congrArg (fun r : Receiver => { n with rx := r }) hstate.symm
  | syncHunt => simp only [reduceCtorEq, if_false]
  | flushing => simp only [if_true]

theorem Node.carrierGone_assembling {n : Node} (h : n.rx.state = .assembling) :
    Node.carrierGone { n with rx := { n.rx with carrier := false } } =
      (Node.discarding { n with rx := { n.rx with carrier := false } } .listening
        { n.power with frameHold := false }).badFrame := by
  unfold Node.carrierGone
  simp only [h]
  rfl

/-- What the receiver's side of the end of carrier leaves (R124, R126, R164). -/
structure Node.CarrierGone (n r : Node) : Prop where
  carrier : r.rx.carrier = false
  state : r.rx.state = .listening
  peers : r.peers = n.peers
  slots : r.rx.slots = n.rx.slots
  phase : r.power.phase = n.power.phase
  listen : r.power.listen = n.power.listen
  hunt : r.power.hunt = n.power.hunt
  linger : r.power.linger = n.power.linger
  panel : r.onPanel = n.onPanel
  alarmSide : r.alarmSideCause = n.alarmSideCause
  hold : r.power.runHold = n.power.runHold
  contention : r.tx.contention = n.tx.contention
  frame : (n.rx.state = .assembling ∨ n.rx.state = .flushing) → r.power.frameHold = false
  engine : n.tx.engine ≠ .idle → r.tx.engine = n.tx.engine
  sending : n.tx.engine ≠ .sending → r.tx.engine ≠ .sending

theorem Node.carrierGone_gone (n : Node) (hoff : n.rx.state ≠ .off) :
    n.CarrierGone (Node.carrierGone { n with rx := { n.rx with carrier := false } }) := by
  by_cases ha : n.rx.state = .assembling
  · rw [Node.carrierGone_assembling ha]
    obtain ⟨k, hk⟩ : ∃ k : Node, k = Node.discarding { n with rx := { n.rx with carrier := false } } .listening
      { n.power with frameHold := false } := ⟨_, rfl⟩
    rw [← hk]
    have hpower := k.badFrame_power
    have hrx := k.badFrame_rx
    exact
      { carrier := by rw [hrx, hk]; rfl
        state := by rw [hrx, hk]; rfl
        peers := by rw [Node.badFrame_peers, hk]; rfl
        slots := by rw [hrx, hk]; rfl
        phase := by rw [hpower, hk]; rfl
        listen := by rw [hpower, hk]; rfl
        hunt := by rw [hpower, hk]; rfl
        linger := by rw [hpower, hk]; rfl
        panel := by rw [Node.badFrame_onPanel, hk]; rfl
        alarmSide := by rw [Node.badFrame_alarmSideCause, hk]; rfl
        hold := by rw [hpower, hk]; rfl
        contention := by rw [Node.badFrame_contention, hk]; rfl
        frame := fun _ => by rw [hpower, hk]; rfl
        engine := fun he => by
          have htx : k.tx = n.tx := by rw [hk]; rfl
          rcases k.badFrame_engine with h | ⟨h, -⟩
          · rw [h, htx]
          · exact absurd (htx ▸ h) he
        sending := fun he => Node.badFrame_engine_ne (by rw [hk]; exact he) }
  · rw [Node.carrierGone_calm hoff ha]
    exact
      { carrier := rfl
        state := rfl
        peers := rfl
        slots := rfl
        phase := rfl
        listen := rfl
        hunt := rfl
        linger := rfl
        panel := rfl
        alarmSide := rfl
        hold := rfl
        contention := rfl
        frame := fun h => if_pos (h.resolve_left ha)
        engine := fun _ => rfl
        sending := id }

/-- The engine's side of the end of carrier is the transmitter's alone. -/
theorem Node.carrierGoneEngine_rest (n : Node) (us : Int) : ∃ t : Transmitter, n.carrierGoneEngine us = { n with tx := t } := by
  unfold Node.carrierGoneEngine
  split
  · split
    · exact ⟨_, rfl⟩
    · exact ⟨_, rfl⟩
  · split
    · exact ⟨_, rfl⟩
    · exact ⟨_, rfl⟩
  · exact ⟨_, rfl⟩
  · exact ⟨n.tx, rfl⟩

section
variable {n : Node} {us : Int}

theorem Node.carrierGoneEngine_other (h : n.tx.engine ≠ .deferred) (hw : n.tx.engine ≠ .window) :
    n.carrierGoneEngine us = n := by
  unfold Node.carrierGoneEngine
  split
  · next he _ => exact absurd he hw
  · next he _ => exact absurd he h
  · next he _ => exact absurd he h
  · rfl

theorem Node.carrierGoneEngine_queue (hw : n.tx.engine ≠ .window) : (n.carrierGoneEngine us).tx.queue = n.tx.queue := by
  unfold Node.carrierGoneEngine
  split
  · next he _ => exact absurd he hw
  · split
    · rfl
    · rfl
  · rfl
  · rfl

theorem Node.carrierGoneEngine_released (h : n.tx.engine = .deferred) (hc : n.tx.contention = none) :
    (n.carrierGoneEngine us).tx.engine = .gap := by
  unfold Node.carrierGoneEngine
  simp only [h, hc]

theorem Node.carrierGoneEngine_loser {c : Contention} (h : n.tx.engine = .deferred) (hc : n.tx.contention = some c) :
    (n.carrierGoneEngine us).tx.engine = if us < c.edge + 3000 then .deferred else .gap := by
  unfold Node.carrierGoneEngine
  simp only [h, hc]
  by_cases hlt : us < c.edge + 3000
  · rw [if_pos hlt, if_pos (by omega)]
  · rw [if_neg hlt, if_neg (by omega)]

theorem Node.carrierGoneEngine_window {c : Contention} (h : n.tx.engine = .window) (hc : n.tx.contention = some c) :
    n.carrierGoneEngine us = if c.heard.any (fun h => c.heardBetween h us) then
        { n with tx := n.tx.lose { c with quietFrom := some us } }
      else { n with tx := { n.tx with contention := some { c with heard := none } } } := by
  unfold Node.carrierGoneEngine
  simp only [h, hc]

theorem Node.carrierGoneEngine_sending (h : n.tx.engine ≠ .sending) : (n.carrierGoneEngine us).tx.engine ≠ .sending := by
  unfold Node.carrierGoneEngine
  split
  · split
    · nofun
    · exact h
  · split
    · exact h
    · nofun
  · nofun
  · exact h

end

theorem exec_carrierEnd {s : State} {us : Int} (hcarrier : s.node.rx.carrier = true) (hoff : s.node.rx.state ≠ .off) :
    exec (.carrierEnd us) s = .next { s with
      node := ((Node.carrierGone { s.node with
        rx := { s.node.rx with carrier := false } }).carrierGoneEngine us).settle } := by
  have hoff' : (s.node.rx.state == .off) = false := beq_eq_false_iff_ne.mpr hoff
  simp only [exec, execCarrierEnd, hcarrier, hoff', State.go, Bool.false_eq_true, if_true, if_false]

theorem exec_carrierEnd_off {s : State} (us : Int) (hcarrier : s.node.rx.carrier = true) (hoff : s.node.rx.state = .off) :
    exec (.carrierEnd us) s =
      .next { s with node := { s.node with rx := { s.node.rx with carrier := false } } } := by
  simp [exec, execCarrierEnd, hcarrier, hoff, State.go]

end Sys2Proof.Machine

open Sys2Proof.Machine in
/-- Settles O31: the receiver's side of the end, then the engine's. -/
theorem carrierEndReleases : Obligations.CarrierEndReleases := by
  unfold Obligations.CarrierEndReleases
  intro s us hcarrier
  refine ⟨exec_carrierEnd_off us hcarrier, fun hoff => ?_⟩
  intro n kept
  obtain ⟨r, hr⟩ : ∃ r, r = Node.carrierGone { s.node with rx := { s.node.rx with carrier := false } } := ⟨_, rfl⟩
  obtain ⟨m, hm⟩ : ∃ m : Node, m = r.carrierGoneEngine us := ⟨_, rfl⟩
  have hexec : exec (.carrierEnd us) s = .next { s with node := m.settle } := by
    rw [hm, hr]
    exact exec_carrierEnd hcarrier hoff
  obtain ⟨tx, htx⟩ := r.carrierGoneEngine_rest us
  rw [← hm] at htx
  have hf := m.settle_follows
  have hmrx : m.rx = r.rx := by rw [htx]
  have hmlink : m.link = r.link := by rw [htx]
  obtain ⟨rcarrier, rstate, rpeers, rslots, rphase, rlisten, rhunt, rlinger, rpanel, rside, rhold, rcontention, rframe,
    rengine, rsending⟩ := hr ▸ s.node.carrierGone_gone hoff
  have hmengine : m.settle.tx.engine = (r.carrierGoneEngine us).tx.engine := by
    rw [← hm]
    exact Node.settle_engine_of_quiet (by rw [htx]; exact rcarrier)
  have hmsending : n.tx.engine ≠ .sending → m.tx.engine ≠ .sending := by
    intro h
    rw [hm]
    exact Node.carrierGoneEngine_sending (rsending h)
  have hcalm : n.rx.state ≠ .assembling → r = n.carrierless := fun h => hr.trans (Node.carrierGone_calm hoff h)
  refine ⟨_, hexec, rfl, by rw [hf.rxCarrier, htx]; exact rcarrier, by rw [hf.peers, htx]; exact rpeers,
    by rw [hf.rxSlots, htx]; exact rslots, fun ha => ?_, fun ha => ?_, fun he hc => ?_, fun c he hc => ?_, fun he => ?_,
    fun he hq => ?_, fun hrun he => ?_, fun hp he => ?_, fun c he hc ha => ?_⟩
  · rw [hf.rxBadFrames, hf.link]
    obtain ⟨k, hk⟩ : ∃ k : Node, k = Node.discarding { s.node with rx := { s.node.rx with carrier := false } } .listening
      { s.node.power with frameHold := false } := ⟨_, rfl⟩
    have hrk : r = k.badFrame := by rw [hk, hr, Node.carrierGone_assembling ha]
    have hkrx : k.rx.badFrames = s.node.rx.badFrames ∧ k.rx.assembly = none ∧ k.link = s.node.link := by
      rw [hk]
      exact ⟨rfl, rfl, rfl⟩
    obtain ⟨kbad, kassembly, klink⟩ := hkrx
    refine ⟨?_, Node.settle_noAssembly ?_, ?_⟩
    · rw [hmrx, hrk, Node.badFrame_rx, kbad]
      rfl
    · rw [hmrx, hrk, Node.badFrame_rx]
      exact kassembly
    · rw [hmlink, hrk, Node.badFrame_rfc, klink]
  · rw [hf.rxBadFrames, hf.link, hf.txQueue]
    refine ⟨by rw [htx, hcalm ha]; rfl, by rw [htx, hcalm ha]; rfl, fun hw => ?_⟩
    rw [hm, hcalm ha]
    exact Node.carrierGoneEngine_queue (n := n.carrierless) hw
  · have hre : r.tx.engine = .deferred := (rengine (by rw [he]; nofun)).trans he
    rw [hmengine]
    exact Node.carrierGoneEngine_released hre (rcontention.trans hc)
  · have hre : r.tx.engine = .deferred := (rengine (by rw [he]; nofun)).trans he
    rw [hmengine]
    exact Node.carrierGoneEngine_loser hre (rcontention.trans hc)
  · have hre : r.tx.engine = .backoff := (rengine (by rw [he]; nofun)).trans he
    rw [hmengine, Node.carrierGoneEngine_other (by rw [hre]; nofun) (by rw [hre]; nofun)]
    exact hre
  · have hre : r.tx.engine = .idle := by
      by_cases ha : n.rx.state = .assembling
      · have hquiet := hq.resolve_left (fun h => h ha)
        rw [hr, Node.carrierGone_assembling ha, Node.badFrame_quiet]
        · exact he
        · exact hquiet
      · rw [hcalm ha]
        exact he
    rw [hmengine, Node.carrierGoneEngine_other (by rw [hre]; nofun) (by rw [hre]; nofun)]
    exact hre
  · have hmr : m.RunByRole := ⟨by rw [htx]; exact rphase.trans hrun.phase, by rw [htx]; exact rpanel.trans hrun.role⟩
    have hstate : m.rx.state = .listening := by rw [htx]; exact rstate
    rw [hmr.stays.rxKept (Node.rxWanted_of_run hmr.phase (hmsending he)) (by rw [hstate]; nofun), hstate]
  · have hmp : m.Patrolling := ⟨by rw [htx]; exact rphase.trans hp.phase, by rw [htx]; exact rpanel.trans hp.role,
      by rw [htx]; exact rside.trans hp.alarmSide, by rw [htx]; exact rhold.trans hp.hold⟩
    have hstate : m.rx.state = .listening := by rw [htx]; exact rstate
    have hmpower : m.power = r.power := by rw [htx]
    refine ⟨fun h => ?_, fun hk => ?_, fun hflush hk hidle => ?_⟩
    · rw [hmp.stays.frameHold, hmpower, rframe h]
      exact ite_self _
    · have hwanted : m.rxWanted = true :=
        Node.rxWanted_of_hold hmp.phase (hmsending he) (by rw [hmpower, rlisten, rhunt, rlinger]; exact hk)
      rw [hmp.stays.rxKept hwanted (by rw [hstate]; nofun), hstate]
    · have hre : r.tx.engine = .idle := by
        rw [hcalm (by rw [hflush]; nofun)]
        exact hidle
      have hme : m.tx.engine = .idle := by
        rw [hm, Node.carrierGoneEngine_other (by rw [hre]; nofun) (by rw [hre]; nofun)]
        exact hre
      have hwanted : m.rxWanted = false :=
        Node.rxWanted_of_none hmp.phase hme (by rw [hmpower, rlisten, rhunt, rlinger]; exact hk)
          (by rw [hmpower]; exact rframe (.inr hflush))
      rw [hmp.stays.rxState, hwanted]
      rfl
  · intro stoodIn lost
    have hwindow : m = if c.heard.any (fun h => c.heardBetween h us) then
          { n.carrierless with tx := n.tx.lose { c with quietFrom := some us } }
        else { n.carrierless with tx := { n.tx with contention := some { c with heard := none } } } := by
      rw [hm, hcalm ha]
      exact Node.carrierGoneEngine_window (n := n.carrierless) he hc
    have hlost : c.heard.any (fun h => c.heardBetween h us) = true ↔ lost := by
      cases hh : c.heard with
      | none => simp [lost, stoodIn, hh]
      | some h =>
        rw [Option.any_some, Contention.heardBetween_iff]
        refine exists_congr fun k => and_congr_right fun _ => and_congr_right fun _ => and_congr_right fun _ => ?_
        simp [stoodIn, hh]
    rw [hf.txQueue, hf.txLosses, hf.txContention, Node.settle_engine_of_quiet (by rw [htx]; exact rcarrier)]
    refine ⟨fun h => ?_, fun h => ?_⟩
    · rw [hwindow, if_pos (hlost.mpr h)]
      exact ⟨rfl, rfl, Transmitter.lost_queue _ _⟩
    · rw [hwindow, if_neg (fun hb => h (hlost.mp hb))]
      exact ⟨he, rfl, rfl, rfl⟩
end

section
/-! The boundaries of the contention engine (R112, R113, R119). -/

namespace Sys2Proof.Machine

/-! ## The candidate at a boundary (R112) -/

theorem foldl_max_spec {α : Type} (f : α → Nat) (xs : List α) : ∀ init : Nat,
    init ≤ xs.foldl (fun m x => max m (f x)) init ∧ (∀ x ∈ xs, f x ≤ xs.foldl (fun m x => max m (f x)) init) ∧
    (xs.foldl (fun m x => max m (f x)) init = init ∨ ∃ x ∈ xs, xs.foldl (fun m x => max m (f x)) init = f x) := by
  induction xs with
  | nil => exact fun init => ⟨Nat.le_refl _, (fun _ h => by cases h), .inl rfl⟩
  | cons x xs ih =>
    intro init
    obtain ⟨hinit, hall, hone⟩ := ih (max init (f x))
    simp only [List.foldl_cons]
    refine ⟨by omega, fun y hy => ?_, ?_⟩
    · rcases List.mem_cons.mp hy with rfl | hy
      · omega
      · exact hall y hy
    · rcases hone with h | ⟨y, hy, h⟩
      · rcases Nat.le_total init (f x) with hle | hle
        · exact .inr ⟨x, List.mem_cons_self, by rw [h]; omega⟩
        · exact .inl (by rw [h]; omega)
      · exact .inr ⟨y, List.mem_cons_of_mem _ hy, h⟩

/-- The candidate: of the highest rank waiting, OWN before RELAY, the oldest of those. -/
structure Candidate (older : List TxEntry) (e : TxEntry) (rest : List TxEntry) : Prop where
  waiting : e.state = .waiting
  highest : ∀ x ∈ older ++ e :: rest, x.state = .waiting → x.frame.cls.rank ≤ e.frame.cls.rank
  own : ∀ x ∈ older ++ e :: rest, x.state = .waiting → x.frame.cls.rank = e.frame.cls.rank → x.own = true → e.own = true
  oldest : ∀ x ∈ older, x.state = .waiting → x.frame.cls.rank = e.frame.cls.rank → x.own ≠ e.own

theorem candidateIndex_none {queue : List TxEntry} (h : ∀ e ∈ queue, e.state ≠ .waiting) : candidateIndex queue = none := by
  have hempty : queue.filter (fun e => e.state == .waiting) = [] :=
    List.filter_eq_nil_iff.mpr (fun e he hb => h e he (beq_iff_eq.mp hb))
  unfold candidateIndex
  rw [hempty]

theorem candidateIndex_found {queue : List TxEntry} (h : ∃ e ∈ queue, e.state = .waiting) :
    ∃ older e rest, queue = older ++ e :: rest ∧ candidateIndex queue = some older.length ∧ Candidate older e rest := by
  obtain ⟨w, hw, hwaiting⟩ := h
  cases hfilter : queue.filter (fun e => e.state == .waiting) with
  | nil => exact absurd (beq_iff_eq.mpr hwaiting) (List.filter_eq_nil_iff.mp hfilter w hw)
  | cons e more =>
    obtain ⟨top, htop⟩ : ∃ top, top = more.foldl (fun m x => max m x.frame.cls.rank) e.frame.cls.rank := ⟨_, rfl⟩
    obtain ⟨hinit, hall, hone⟩ := foldl_max_spec (fun x : TxEntry => x.frame.cls.rank) more e.frame.cls.rank
    rw [← htop] at hinit hall hone
    have hmem : ∀ x, x ∈ e :: more ↔ x ∈ queue ∧ x.state = .waiting := by
      intro x
      rw [← hfilter, List.mem_filter, beq_iff_eq]
    have hhighest : ∀ x ∈ queue, x.state = .waiting → x.frame.cls.rank ≤ top := by
      intro x hx hs
      rcases List.mem_cons.mp ((hmem x).mpr ⟨hx, hs⟩) with rfl | hx
      · exact hinit
      · exact hall x hx
    have hreached : ∃ x ∈ queue, x.state = .waiting ∧ x.frame.cls.rank = top := by
      rcases hone with h | ⟨x, hx, h⟩
      · obtain ⟨hq, hs⟩ := (hmem e).mp List.mem_cons_self
        exact ⟨e, hq, hs, h.symm⟩
      · obtain ⟨hq, hs⟩ := (hmem x).mp (List.mem_cons_of_mem _ hx)
        exact ⟨x, hq, hs, h.symm⟩
    unfold candidateIndex
    simp only [hfilter, ← htop]
    cases hown : indexOf (fun x : TxEntry => x.state == .waiting && x.frame.cls.rank == top && x.own) queue with
    | some i =>
      obtain ⟨a, x, b, hq, hi, hx, hbefore⟩ := indexOf_spec _ _ _ hown
      simp only [Bool.and_eq_true, beq_iff_eq] at hx
      obtain ⟨⟨hs, hr⟩, ho⟩ := hx
      refine ⟨a, x, b, hq, congrArg some hi, hs, ?_, fun _ _ _ _ _ => ho, fun y hy hys hyr hyo => ?_⟩
      · rw [← hq, hr]
        exact hhighest
      · have := hbefore y hy
        simp [hys, hyr.trans hr, hyo, ho] at this
    | none =>
      have hnone := (indexOf_eq_none _ _).mp hown
      have hrelay : ∀ x ∈ queue, x.state = .waiting → x.frame.cls.rank = top → x.own = false := by
        intro x hx hs hr
        simpa [hs, hr] using hnone x hx
      cases hany : indexOf (fun x : TxEntry => x.state == .waiting && x.frame.cls.rank == top) queue with
      | none =>
        obtain ⟨x, hx, hs, hr⟩ := hreached
        have := (indexOf_eq_none _ _).mp hany x hx
        simp [hs, hr] at this
      | some i =>
        obtain ⟨a, x, b, hq, hi, hx, hbefore⟩ := indexOf_spec _ _ _ hany
        simp only [Bool.and_eq_true, beq_iff_eq] at hx
        obtain ⟨hs, hr⟩ := hx
        refine ⟨a, x, b, hq, congrArg some hi, hs, ?_, fun y hy hys hyr hyo => ?_, fun y hy hys hyr => ?_⟩
        · rw [← hq, hr]
          exact hhighest
        · rw [← hq] at hy
          rw [hrelay y hy hys (hyr.trans hr)] at hyo
          cases hyo
        · have := hbefore y hy
          simp [hys, hyr.trans hr] at this

/-! ## A boundary (R112, R113, R119) -/

/-- A raise of RADIO, which is never framed, touches neither the transmitter nor the Relay Engine nor the link (R84). -/
theorem Node.deliver_raise_radio (n : Node) : (n.deliver [.raise .radio none]).tx = n.tx ∧
    (n.deliver [.raise .radio none]).relay = n.relay ∧ (n.deliver [.raise .radio none]).link = n.link := by
  have hrun : ∃ m : Node, Task.run n (.raise .radio none) = (m, []) ∧ m.tx = n.tx ∧ m.relay = n.relay ∧
      m.link = n.link := by
    show ∃ m : Node, n.raise .radio none = (m, []) ∧ _
    unfold Node.raise
    split
    · exact ⟨n, rfl, rfl, rfl, rfl⟩
    · refine ⟨_, rfl, ?_, ?_, ?_⟩
      · rw [Node.record_tx]
      · rw [Node.record_relay]
      · rw [Node.record_eq]
  obtain ⟨m, hm, htx, hrelay, hlink⟩ := hrun
  rw [Node.deliver_single hm]
  exact ⟨htx, hrelay, hlink⟩

section
variable {n : Node} {edge : Int} {heard : Option Int}

theorem Node.boundary_rests (h : ∀ e ∈ n.tx.queue, e.state ≠ .waiting) :
    n.boundary edge heard = { n with tx := n.tx.rest } := by
  unfold Node.boundary
  rw [candidateIndex_none h]

/-- The window of the candidate. -/
theorem Node.boundary_contends (h : ∃ e ∈ n.tx.queue, e.state = .waiting) (hlocked : n.tx.synth = .locked) :
    ∃ older e rest, n.tx.queue = older ++ e :: rest ∧ Candidate older e rest ∧
      n.boundary edge heard = { n with tx := n.tx.enterWindow older.length e edge heard } := by
  obtain ⟨older, e, rest, hq, hc, hcand⟩ := candidateIndex_found h
  have hget : n.tx.queue[older.length]? = some e := by simp [hq]
  refine ⟨older, e, rest, hq, hcand, ?_⟩
  unfold Node.boundary
  simp only [hc, hget, hlocked, beq_self_eq_true, if_true]

theorem Node.boundary_faults (h : ∃ e ∈ n.tx.queue, e.state = .waiting) (hunlocked : n.tx.synth ≠ .locked) :
    n.boundary edge heard = n.faultRadio := by
  obtain ⟨older, e, rest, hq, hc, -⟩ := candidateIndex_found h
  have hget : n.tx.queue[older.length]? = some e := by simp [hq]
  unfold Node.boundary
  simp only [hc, hget, beq_eq_false_iff_ne.mpr hunlocked, Bool.false_eq_true, if_false]

theorem Node.faultRadio_tx (n : Node) : n.faultRadio.tx = { n.tx with
    radioFault := true, engine := .backoff, synth := .stopped, backoff := some (later n.clock 1024) } := by
  obtain ⟨htx, -, -⟩ := Node.deliver_raise_radio { n with tx := { n.tx with
    radioFault := true, engine := .backoff, synth := .stopped, backoff := some (later n.clock 1024) } }
  exact htx

theorem Node.faultRadio_relay (n : Node) : n.faultRadio.relay = n.relay := by
  obtain ⟨-, hrelay, -⟩ := Node.deliver_raise_radio { n with tx := { n.tx with
    radioFault := true, engine := .backoff, synth := .stopped, backoff := some (later n.clock 1024) } }
  exact hrelay

theorem Node.faultRadio_raised (h : n.active = true) : NoticeItem.mk .radio none ∈ n.faultRadio.alarm.notices :=
  Node.deliver_raised (by decide) _ _ h (by simp) (.inr (by simp))

end

/-- The engine that no carrier can defer stays over a settling (R113). -/
theorem Node.settle_engine_kept {n : Node} (h : n.tx.engine ≠ .gap) (hw : n.tx.engine ≠ .wait) :
    n.settle.tx.engine = n.tx.engine := by
  rcases n.settle_engine_cases with he | ⟨he | he, -⟩
  · exact he
  · exact absurd he h
  · exact absurd he hw

/-- An absent grid stays absent over a settling. -/
theorem Node.settle_noGrid {n : Node} (h : n.tx.grid = none) : n.settle.tx.grid = none := by
  have hpowered : n.poweredNode.tx.grid = none := by
    unfold Node.poweredNode Node.settlePower
    simp only []
    split
    · split
      · simp [Node.enterRun, h]
      · simpa using h
    · split
      · simpa using h
      · simpa [Node.enterPatrol] using h
    · simpa using h
  have hswitched : n.poweredNode.switchRx.tx.grid = none := by
    rw [Node.switchRx_grid, hpowered]
    exact ite_self _
  rw [n.settle_tx]
  unfold Node.deferToCarrier
  split
  · rfl
  · exact hswitched

theorem Transmitter.heldByWindow_iff (t : Transmitter) : t.heldByWindow = true ↔ t.engine = .deferred ∧ t.grid = none ∧
    ∃ c q, t.contention = some c ∧ c.quietFrom = some q ∧ q + 2000 < c.edge + 3000 := by
  unfold Transmitter.heldByWindow Contention.gapInWindow
  simp [Option.any_eq_true, and_assoc]

theorem Engine.comesToBoundary_iff (e : Engine) : e.comesToBoundary = true ↔ e = .gap ∨ e = .wait ∨ e = .deferred := by
  simp [Engine.comesToBoundary, or_assoc]

/-! ## The commands -/

theorem exec_quietGap {s : State} (h : s.node.hearsQuiet = true) :
    exec .quietGap s = .next { s with node := s.node.quietGap.settle } := by
  simp [exec, execQuietGap, h, State.go]

theorem Node.quietGap_boundary {n : Node} (he : n.tx.engine = .gap ∨ n.tx.engine = .wait ∨ n.tx.engine = .deferred)
    (hheld : n.tx.heldByWindow = false) : n.quietGap = n.atBoundary := by
  have hcomes : n.tx.engine.comesToBoundary = true := (Engine.comesToBoundary_iff _).mpr he
  simp [Node.quietGap, hcomes, hheld]

/-- A quiet gap of an engine that does not come to a boundary forms the grid (R113). -/
theorem Node.quietGap_grid {n : Node} (h : n.tx.engine = .idle ∨ n.tx.heldByWindow = true) :
    n.quietGap = { n with tx := { n.tx with grid := some n.clock } } := by
  unfold Node.quietGap
  rcases h with h | h
  · rw [h]
    rfl
  · rw [h]
    exact if_neg (by simp)

theorem exec_windowBoundary {s : State} (hg : s.node.tx.grid.isSome = true) (ho : s.node.power.oscillator = .running)
    (he : s.node.tx.engine = .wait ∨ s.node.tx.engine = .deferred) :
    exec .windowBoundary s = .next { s with node := s.node.atBoundary.settle } := by
  rcases he with he | he <;> simp [exec, execWindowBoundary, hg, ho, he, State.go]

/-- What hears the quiet hears no carrier, and is on. -/
theorem Node.hearsQuiet_spec {n : Node} (h : n.hearsQuiet = true) : n.rx.state ≠ .off ∧ n.rx.carrier = false ∧
    n.tx.engine ≠ .sending := by
  simp only [Node.hearsQuiet, Bool.and_eq_true, bne_iff_ne, Bool.not_eq_true'] at h
  obtain ⟨⟨⟨⟨⟨hon, -⟩, hcarrier⟩, -⟩, -⟩, hsending⟩ := h
  exact ⟨hon, hcarrier, hsending⟩

end Sys2Proof.Machine

open Sys2Proof.Machine in
/-- Settles O25: a boundary, by its candidate; and the quiet gaps that only form the grid. -/
theorem boundariesStartWindows : Obligations.BoundariesStartWindows := by
  unfold Obligations.BoundariesStartWindows
  intro held
  refine ⟨fun s c hcase => ?_, fun s hrun hquiet he hheld => ?_, fun s hrun hquiet he => ?_⟩
  · have hexec : exec c s = .next { s with node := s.node.atBoundary.settle } := by
      rcases hcase with ⟨rfl, hquiet, he⟩ | ⟨rfl, hg, ho, he⟩
      · have hheld : s.node.tx.heldByWindow = false := by
          refine Bool.eq_false_iff.mpr (fun h => ?_)
          obtain ⟨hd, hgrid, hc⟩ := (Transmitter.heldByWindow_iff _).mp h
          rcases he with he | he | ⟨-, hnot⟩
          · rw [he] at hd; cases hd
          · rw [he] at hd; cases hd
          · exact hnot ⟨hgrid, hc⟩
        rw [exec_quietGap hquiet, Node.quietGap_boundary (he.imp id (Or.imp id And.left)) hheld]
      · exact exec_windowBoundary hg ho he
    obtain ⟨k, hk⟩ : ∃ k : Node, k = { s.node with tx := { s.node.tx with
      grid := some s.node.clock, contention := none } } := ⟨_, rfl⟩
    obtain ⟨m, hm⟩ : ∃ m, m = k.boundary 0 none := ⟨_, rfl⟩
    have hexec' : exec c s = .next { s with node := m.settle } := by
      rw [hexec, hm, hk]
      rfl
    have hkqueue : k.tx.queue = s.node.tx.queue := by rw [hk]
    have hksynth : k.tx.synth = s.node.tx.synth := by rw [hk]
    have hf := m.settle_follows
    refine ⟨_, hexec', rfl, ?_, fun hnone => ?_, fun hsome hlocked => ?_, fun hsome hunlocked => ?_⟩
    · have hrelay : m.relay = k.relay := by
        by_cases hsome : ∃ e ∈ k.tx.queue, e.state = .waiting
        · by_cases hlocked : k.tx.synth = .locked
          · obtain ⟨older, e, rest, -, -, hb⟩ := Node.boundary_contends (edge := 0) (heard := none) hsome hlocked
            rw [hm, hb]
          · rw [hm, Node.boundary_faults hsome hlocked, Node.faultRadio_relay]
        · rw [hm, Node.boundary_rests (fun e he hs => hsome ⟨e, he, hs⟩)]
      rw [hf.relay, hrelay, hk]
    · have hrest : m = { k with tx := k.tx.rest } := hm.trans (Node.boundary_rests (by rw [hkqueue]; exact hnone))
      have htx : m.tx = k.tx.rest := by rw [hrest]
      have hidle : m.tx.engine = .idle := by rw [htx]; rfl
      refine ⟨?_, ?_, ?_⟩
      · rw [hf.txQueue, htx]
        exact hkqueue
      · rw [Node.settle_engine_kept (by rw [hidle]; nofun) (by rw [hidle]; nofun), hidle]
      · rw [hf.txSynth, htx]
        rfl
    · obtain ⟨older, e, rest, hq, hcand, hb⟩ := Node.boundary_contends (n := k) (edge := 0) (heard := none)
        (by rw [hkqueue]; exact hsome) (by rw [hksynth]; exact hlocked)
      have htx : m.tx = k.tx.enterWindow older.length e 0 none := by rw [hm, hb]
      have hwindow : m.tx.engine = .window := by rw [htx]; rfl
      rw [hkqueue] at hq
      refine ⟨older, e, rest, hq, hcand.waiting, hq ▸ hcand.highest, hq ▸ hcand.own, hcand.oldest, ?_, ?_,
        Node.settle_noGrid (by rw [htx]; rfl), ?_⟩
      · rw [hf.txQueue, htx]
        show setAt k.tx.queue _ _ = _
        rw [hkqueue, hq, setAt_append]
      · rw [Node.settle_engine_kept (by rw [hwindow]; nofun) (by rw [hwindow]; nofun), hwindow]
      · rw [hf.txContention, htx]
        rfl
    · have hfault : m = k.faultRadio := hm.trans (Node.boundary_faults (by rw [hkqueue]; exact hsome)
        (by rw [hksynth]; exact hunlocked))
      have htx : m.tx = { k.tx with
          radioFault := true, engine := .backoff, synth := .stopped, backoff := some (later k.clock 1024) } := by
        rw [hfault, Node.faultRadio_tx]
      have hbackoff : m.tx.engine = .backoff := by rw [htx]
      refine ⟨?_, ?_, ?_, ?_, ?_, ?_, fun hact => ?_⟩
      · rw [hf.txQueue, htx]
        exact hkqueue
      · rw [Node.settle_engine_kept (by rw [hbackoff]; nofun) (by rw [hbackoff]; nofun), hbackoff]
      · rw [hf.txSynth, htx]
      · rw [hf.txBackoff, htx, hk]
      · rw [hf.txRadioFault, htx]
      · rw [hf.txLosses, htx, hk]
      · rw [hf.alarmNotices, hfault]
        exact Node.faultRadio_raised (by rw [hk]; exact hact)
  · obtain ⟨hon, hcarrier, -⟩ := Node.hearsQuiet_spec hquiet
    obtain ⟨m, hm⟩ : ∃ m : Node, m = { s.node with tx := { s.node.tx with grid := some s.node.clock } } := ⟨_, rfl⟩
    have hexec : exec .quietGap s = .next { s with node := m.settle } := by
      rw [exec_quietGap hquiet, Node.quietGap_grid (.inr ((Transmitter.heldByWindow_iff _).mpr ⟨he, hheld⟩)), hm]
    have hf := m.settle_follows
    have hengine : m.tx.engine = .deferred := by rw [hm]; exact he
    have hstays : m.PhaseStays ∧ m.rxWanted = true := by
      rcases hrun with hr | hp
      · have hmr : m.RunByRole := by rw [hm]; exact ⟨hr.phase, hr.role⟩
        exact ⟨hmr.stays, Node.rxWanted_of_run hmr.phase (by rw [hengine]; nofun)⟩
      · have hmp : m.Patrolling := by rw [hm]; exact ⟨hp.phase, hp.role, hp.alarmSide, hp.hold⟩
        exact ⟨hmp.stays, by simp [Node.rxWanted, hmp.phase, hengine, Engine.claims]⟩
    obtain ⟨hstays, hwanted⟩ := hstays
    refine ⟨_, hexec, rfl, ?_, ?_, ?_, ?_, ?_⟩
    · rw [hstays.grid (fun hd => by
        obtain ⟨-, hc, -⟩ := hd
        rw [hm] at hc
        exact absurd (hcarrier.symm.trans hc) (by decide)), if_pos (.inl hwanted), hm]
    · rw [Node.settle_engine_kept (by rw [hengine]; nofun) (by rw [hengine]; nofun), hengine]
    · rw [hf.txContention, hm]
    · rw [hf.txQueue, hm]
    · rw [hf.txLosses, hm]
  · obtain ⟨hon, hcarrier, -⟩ := Node.hearsQuiet_spec hquiet
    obtain ⟨m, hm⟩ : ∃ m : Node, m = { s.node with tx := { s.node.tx with grid := some s.node.clock } } := ⟨_, rfl⟩
    have hexec : exec .quietGap s = .next { s with node := m.settle } := by
      rw [exec_quietGap hquiet, Node.quietGap_grid (.inl he), hm]
    have hf := m.settle_follows
    have hengine : m.tx.engine = .idle := by rw [hm]; exact he
    have hmr : m.RunByRole := by rw [hm]; exact ⟨hrun.phase, hrun.role⟩
    have hwanted := Node.rxWanted_of_run hmr.phase (by rw [hengine]; nofun)
    refine ⟨_, hexec, ?_, ?_, ?_⟩
    · rw [hmr.stays.grid (fun hd => by
        obtain ⟨-, hc, -⟩ := hd
        rw [hm] at hc
        exact absurd (hcarrier.symm.trans hc) (by decide)), if_pos (.inl hwanted), hm]
    · rw [Node.settle_engine_kept (by rw [hengine]; nofun) (by rw [hengine]; nofun), hengine]
    · rw [hf.txQueue, hm]
end

section
/-! Carrier: its onset (R113 to R116, R124, R164). -/

namespace Sys2Proof.Machine

/-! ## The hunt hold and the receiver -/

theorem Node.beginHunt_run {n : Node} (h : n.power.phase = .run) : n.beginHunt = n :=
  if_neg (by simp [h])

theorem Node.beginHunt_patrol {n : Node} (h : n.power.phase = .patrol) (hh : n.power.hunt = none)
    (hf : n.power.frameHold = false) :
    n.beginHunt = { n with power := { n.power with hunt := some (later n.clock 307) } } :=
  if_pos (by simp [h, hh, hf])

/-- The hunt hold is the power side's alone. -/
theorem Node.beginHunt_power (n : Node) : ∃ p : Power, n.beginHunt = { n with power := p } := by
  unfold Node.beginHunt
  split
  · exact ⟨_, rfl⟩
  · exact ⟨n.power, rfl⟩

theorem Node.hearOnset_listening {n : Node} (h : n.rx.state = .listening) :
    n.hearOnset = { n with rx := { n.rx with state := .syncHunt } } :=
  if_pos (beq_iff_eq.mpr h)

/-- An onset that a LISTENING receiver in RUN reports. -/
theorem Node.onset_heard_run {n : Node} (t : Transmitter) (h : n.power.phase = .run) (hs : n.rx.state = .listening) :
    (Node.beginHunt { n with tx := t }).hearOnset = { n with rx := { n.rx with state := .syncHunt }, tx := t } := by
  rw [Node.beginHunt_run (n := { n with tx := t }) h, Node.hearOnset_listening (n := { n with tx := t }) hs]

/-- An onset that begins the hunt hold (R164). -/
theorem Node.onset_heard_patrol {n : Node} (t : Transmitter) (h : n.power.phase = .patrol) (hs : n.rx.state = .listening)
    (hh : n.power.hunt = none) (hf : n.power.frameHold = false) :
    (Node.beginHunt { n with tx := t }).hearOnset = { n with
      rx := { n.rx with state := .syncHunt }, tx := t, power := { n.power with hunt := some (later n.clock 307) } } := by
  rw [Node.beginHunt_patrol (n := { n with tx := t }) h hh hf]
  exact Node.hearOnset_listening (n := { n with
    tx := t, power := { n.power with hunt := some (later n.clock 307) } }) hs

/-! ## The onset -/

section
variable {n : Node} {us : Int}

/-- An engine outside a window that comes to no boundary loses its grid (R113). -/
theorem Node.onset_other (hw : n.tx.engine ≠ .window) (hc : n.tx.engine.comesToBoundary = false) :
    n.onset us = (Node.beginHunt { n with tx := { n.tx with grid := none } }).hearOnset := by
  unfold Node.onset
  split
  · next h _ => exact absurd h hw
  · exact if_neg (by simp [hc])

theorem Node.onset_comes (hc : n.tx.engine.comesToBoundary = true) : n.onset us = n.onsetBeforeBoundary us := by
  unfold Node.onset
  split
  · next h _ => rw [h] at hc; cases hc
  · exact if_pos hc

/-- The onset is another contender's slot-0 burst (R113). -/
def Node.nearBoundary (n : Node) (us : Int) : Prop :=
  n.power.oscillator = .running ∧ -40 ≤ us ∧ us < 0 ∧ (∃ e ∈ n.tx.queue, e.state = .waiting) ∧
    n.tx.heldByWindow = false

theorem Node.nearBoundary_iff (n : Node) (us : Int) : (n.power.oscillator == .running && -40 ≤ us && us < 0 &&
    (candidateIndex n.tx.queue).isSome && !n.tx.heldByWindow) = true ↔ n.nearBoundary us := by
  have hcand : (candidateIndex n.tx.queue).isSome = true ↔ ∃ e ∈ n.tx.queue, e.state = .waiting := by
    constructor
    · intro h
      by_contra hno
      rw [candidateIndex_none (fun e he hs => hno ⟨e, he, hs⟩)] at h
      cases h
    · intro h
      obtain ⟨older, e, rest, -, hc, -⟩ := candidateIndex_found h
      rw [hc]
      rfl
  simp only [Bool.and_eq_true, beq_iff_eq, decide_eq_true_eq, hcand, Bool.not_eq_true', and_assoc, Node.nearBoundary]

theorem Node.onsetBeforeBoundary_near (h : n.nearBoundary us) : n.onsetBeforeBoundary us =
    if (Node.boundary { n with tx := { n.tx with grid := none, contention := none } } us (some us)).beginHunt.tx.engine
        == .window then
      (Node.boundary { n with tx := { n.tx with grid := none, contention := none } } us (some us)).beginHunt
    else (Node.boundary { n with tx := { n.tx with grid := none, contention := none } } us (some us)).beginHunt.hearOnset :=
  if_pos ((n.nearBoundary_iff us).mpr h)

theorem Node.onsetBeforeBoundary_far (h : ¬n.nearBoundary us) : n.onsetBeforeBoundary us =
    (Node.beginHunt { n with tx := { n.tx with engine := .deferred, grid := none } }).hearOnset :=
  if_neg (fun hb => h ((n.nearBoundary_iff us).mp hb))

theorem Node.onset_window {c : Contention} (he : n.tx.engine = .window) (hc : n.tx.contention = some c) :
    n.onset us = n.onsetInWindow c us := by
  unfold Node.onset
  simp only [he, hc]

theorem Node.onsetInWindow_loses {c : Contention} {k : Nat} (h : c.edgeSlot us = some k) :
    n.onsetInWindow c us = Node.beginHunt { n with tx := n.tx.lose (c.realign us k) } := by
  unfold Node.onsetInWindow
  rw [h]

theorem Node.onsetInWindow_goes {c : Contention} (h : c.edgeSlot us = none) :
    n.onsetInWindow c us = { n with tx := { n.tx with contention := some { c with heard := some us } } } := by
  unfold Node.onsetInWindow
  rw [h]

end

section
variable {c : Contention} {us : Int} {k : Nat}

theorem Contention.slotOf_eq (hlow : c.edge + 250 * k ≤ us) (hhigh : us < c.edge + 250 * k + 250) : c.slotOf us = k := by
  unfold Contention.slotOf
  omega

theorem Contention.edgeSlot_listening (hlow : c.edge + 250 * k ≤ us) (hhigh : us < c.edge + 250 * k + 250)
    (h1 : 1 ≤ k) (h11 : k ≤ 11) (hbit : c.code.testBit (11 - k) = false) : c.edgeSlot us = some k := by
  unfold Contention.edgeSlot
  simp only [Contention.slotOf_eq hlow hhigh, (listens_iff c.code k).mpr ⟨h1, h11, hbit⟩, if_true]

/-- In an own burst's slot, more than 40 µs before the next, nothing is heard (R114, R115). -/
theorem Contention.edgeSlot_own (hlow : c.edge + 250 * k ≤ us) (hhigh : us < c.edge + 250 * k + 210)
    (hbit : c.code.testBit (11 - k) = true) : c.edgeSlot us = none := by
  have hlisten : listens c.code k = false := by
    refine Bool.eq_false_iff.mpr (fun h => ?_)
    obtain ⟨-, -, hb⟩ := (listens_iff _ _).mp h
    rw [hbit] at hb
    cases hb
  have hearly : decide (210 ≤ us - c.edge - 250 * k) = false := decide_eq_false (by omega)
  unfold Contention.edgeSlot
  simp only [Contention.slotOf_eq hlow (by omega : us < c.edge + 250 * k + 250), hlisten, hearly, Bool.false_and,
    Bool.false_eq_true, if_false]

end

theorem exec_carrierOnset_off {s : State} (us : Int) (hc : s.node.rx.carrier = false) (h : s.node.rx.state = .off) :
    exec (.carrierOnset us) s =
      .next { s with node := { s.node with rx := { s.node.rx with carrier := true } } } := by
  simp [exec, execCarrierOnset, hc, h, State.go]

/-- `n` is the node `m` with carrier on its channel. -/
def Node.Carries (m n : Node) : Prop :=
  n.tx = m.tx ∧ n.rx = { m.rx with carrier := true } ∧ n.power = m.power ∧ n.clock = m.clock ∧ n.onPanel = m.onPanel ∧
    n.alarmSideCause = m.alarmSideCause

theorem exec_carrierOnset {s : State} (us : Int) (hc : s.node.rx.carrier = false) (h : s.node.rx.state ≠ .off) :
    ∃ n, s.node.Carries n ∧ exec (.carrierOnset us) s = .next { s with node := (n.onset us).settle } := by
  have h' : (s.node.rx.state == .off) = false := beq_eq_false_iff_ne.mpr h
  refine ⟨{ s.node with rx := { s.node.rx with carrier := true } }, ⟨rfl, rfl, rfl, rfl, rfl, rfl⟩, ?_⟩
  simp only [exec, execCarrierOnset, hc, h', State.go, Bool.false_eq_true, if_false]

end Sys2Proof.Machine

open Sys2Proof.Machine in
/-- Settles O30: the onset by the engine's state. -/
theorem carrierOnsetIsHeard : Obligations.CarrierOnsetIsHeard := by
  unfold Obligations.CarrierOnsetIsHeard
  refine ⟨fun s us hcarrier => ⟨exec_carrierOnset_off us hcarrier, ?_, fun hp hstate he hhunt hframe => ?_⟩,
    fun s c us k hcarrier hon he hc h1 h11 hlow => ⟨fun hhigh hbit => ?_, fun hhigh hbit => ?_⟩⟩
  · intro hrun hstate hwindow hsending waits held near
    obtain ⟨n, ⟨hntx, hnrx, hnpower, hnclock, hnpanel, hnside⟩, hexec⟩ := exec_carrierOnset us hcarrier (by rw [hstate]; nofun)
    obtain ⟨m, hm⟩ : ∃ m, m = n.onset us := ⟨_, rfl⟩
    rw [← hm] at hexec
    have hnrun : n.power.phase = .run := by rw [hnpower]; exact hrun.phase
    have hnstate : n.rx.state = .listening := by rw [hnrx]; exact hstate
    have hf := m.settle_follows
    have hcomes : n.tx.engine.comesToBoundary = true ↔ waits := by rw [hntx]; exact Engine.comesToBoundary_iff _
    have hheld : n.tx.heldByWindow = true ↔ held := by rw [hntx]; exact Transmitter.heldByWindow_iff _
    have hnear : near ↔ n.tx.engine.comesToBoundary = true ∧ n.nearBoundary us := by
      rw [hcomes, Node.nearBoundary, ← Bool.not_eq_true, hheld, hnpower, hntx]
      exact ⟨fun ⟨hw, hh, ho, hl, hu, he⟩ => ⟨hw, ho, hl, hu, he, hh⟩, fun ⟨hw, ho, hl, hu, he, hh⟩ => ⟨hw, hh, ho, hl, hu, he⟩⟩
    have hrunning : ∀ k : Node, k.power.phase = .run → k.onPanel = n.onPanel → k.RunByRole := fun k hk hp =>
      ⟨hk, hp.trans (hnpanel.trans hrun.role)⟩
    by_cases hn : near
    · obtain ⟨hc, hnb⟩ := hnear.mp hn
      obtain ⟨-, -, -, hsome, -⟩ := hnb
      obtain ⟨k, hk⟩ : ∃ k : Node, k = { n with tx := { n.tx with grid := none, contention := none } } := ⟨_, rfl⟩
      have hkqueue : k.tx.queue = s.node.tx.queue := by rw [hk, ← hntx]
      have hksynth : k.tx.synth = s.node.tx.synth := by rw [hk, ← hntx]
      have hkrun : k.power.phase = .run := by rw [hk]; exact hnrun
      have hksome : ∃ e ∈ k.tx.queue, e.state = .waiting := by rw [hk]; exact hsome
      have honset : m = if (k.boundary us (some us)).beginHunt.tx.engine == .window then
          (k.boundary us (some us)).beginHunt else (k.boundary us (some us)).beginHunt.hearOnset := by
        rw [hm, Node.onset_comes hc, Node.onsetBeforeBoundary_near (hnear.mp hn).2, hk]
      by_cases hlocked : s.node.tx.synth = .locked
      · obtain ⟨older, e, rest, hq, hcand, hb⟩ := Node.boundary_contends (edge := us) (heard := some us) hksome
          (hksynth.trans hlocked)
        obtain ⟨w, hw⟩ : ∃ w : Node, w = { k with tx := k.tx.enterWindow older.length e us (some us) } := ⟨_, rfl⟩
        have hwengine : w.tx.engine = .window := by rw [hw]; rfl
        have hmw : m = w := by
          rw [honset, hb, ← hw, Node.beginHunt_run (by rw [hw]; exact hkrun)]
          exact if_pos (beq_iff_eq.mpr hwengine)
        have hmrx : m.rx = n.rx := by rw [hmw, hw, hk]
        have hmr : m.RunByRole := by
          refine hrunning m ?_ ?_
          · rw [hmw, hw]; exact hkrun
          · rw [hmw, hw, hk]; rfl
        have hmengine : m.tx.engine = .window := by rw [hmw]; exact hwengine
        rw [hkqueue] at hq
        refine ⟨_, hexec, rfl, by rw [hf.rxCarrier, hmrx, hnrx], Node.settle_noGrid (by rw [hmw, hw]; rfl),
          by rw [hf.rxBadFrames, hmrx, hnrx], fun h => absurd hn h, fun _ _ => ⟨?_, ?_, older, e, rest, hq, hcand.waiting,
          hq ▸ hcand.highest, ?_, ?_⟩, fun _ h => absurd hlocked h⟩
        · rw [hmr.stays.rxKept (Node.rxWanted_of_run hmr.phase (by rw [hmengine]; nofun)) (by rw [hmrx, hnstate]; nofun),
            hmrx, hnstate]
        · rw [Node.settle_engine_kept (by rw [hmengine]; nofun) (by rw [hmengine]; nofun), hmengine]
        · rw [hf.txQueue, hmw, hw]
          show setAt k.tx.queue _ _ = _
          rw [hkqueue, hq, setAt_append]
        · rw [hf.txContention, hmw, hw]
          rfl
      · have hb := Node.boundary_faults (edge := us) (heard := some us) hksome (by rw [hksynth]; exact hlocked)
        have hpower : k.faultRadio.power = k.power := Node.deliver_power _ _
        have hrx : k.faultRadio.rx = k.rx := Node.deliver_rx _ _
        have htx := k.faultRadio_tx
        have hmw : m = k.faultRadio.hearOnset := by
          rw [honset, hb, Node.beginHunt_run (by rw [hpower]; exact hkrun)]
          exact if_neg (by rw [htx]; nofun)
        rw [Node.hearOnset_listening (by rw [hrx, hk]; exact hnstate)] at hmw
        have hmtx : m.tx = k.faultRadio.tx := by rw [hmw]
        have hmrx : m.rx = { k.faultRadio.rx with state := .syncHunt } := by rw [hmw]
        have hmengine : m.tx.engine = .backoff := by rw [hmtx, htx]
        refine ⟨_, hexec, rfl, by rw [hf.rxCarrier, hmrx, hrx, hk, hnrx], Node.settle_noGrid (by rw [hmtx, htx, hk]),
          by rw [hf.rxBadFrames, hmrx, hrx, hk, hnrx], fun h => absurd hn h, fun _ h => absurd h hlocked,
          fun _ _ => ⟨?_, ?_, ?_⟩⟩
        · rw [hf.txQueue, hmtx, htx]
          exact hkqueue
        · rw [Node.settle_engine_kept (by rw [hmengine]; nofun) (by rw [hmengine]; nofun), hmengine]
        · rw [hf.txBackoff, hmtx, htx, hk, hnclock]
    · obtain ⟨e, htx, hwaits, hidle⟩ : ∃ e : Engine, m = { n with
          rx := { n.rx with state := .syncHunt }, tx := { n.tx with engine := e, grid := none } } ∧
          (waits → e = .deferred) ∧ (¬waits → e = n.tx.engine) := by
        by_cases hw : waits
        · refine ⟨.deferred, ?_, fun _ => rfl, fun h => absurd hw h⟩
          rw [hm, Node.onset_comes (hcomes.mpr hw),
            Node.onsetBeforeBoundary_far (fun h => hn (hnear.mpr ⟨hcomes.mpr hw, h⟩)),
            Node.onset_heard_run _ hnrun hnstate]
        · refine ⟨n.tx.engine, ?_, fun h => absurd h hw, fun _ => rfl⟩
          rw [hm, Node.onset_other (by rw [hntx]; exact hwindow) (Bool.eq_false_iff.mpr (fun h => hw (hcomes.mp h))),
            Node.onset_heard_run _ hnrun hnstate]
      have hmengine : m.tx.engine = e := by rw [htx]
      have hmstate : m.rx.state = .syncHunt := by rw [htx]
      have hmr : m.RunByRole := by
        refine hrunning m ?_ ?_
        · rw [htx]; exact hnrun
        · rw [htx]; rfl
      have hquiet : e ≠ .gap ∧ e ≠ .wait ∧ e ≠ .sending := by
        by_cases hw : waits
        · rw [hwaits hw]
          exact ⟨nofun, nofun, nofun⟩
        · rw [hidle hw, hntx]
          exact ⟨fun h => hw (.inl h), fun h => hw (.inr (.inl h)), hsending⟩
      obtain ⟨hgap, hwait, hsend⟩ := hquiet
      have hengine : m.settle.tx.engine = e := by
        rw [Node.settle_engine_kept (by rw [hmengine]; exact hgap) (by rw [hmengine]; exact hwait), hmengine]
      refine ⟨_, hexec, rfl, by rw [hf.rxCarrier, htx, hnrx], Node.settle_noGrid (by rw [htx]),
        by rw [hf.rxBadFrames, htx, hnrx], fun _ => ⟨?_, by rw [hf.txQueue, htx, hntx],
        fun hw => hengine.trans (hwaits hw), fun hw => hengine.trans ((hidle hw).trans (by rw [hntx]))⟩,
        fun h => absurd h hn, fun h => absurd h hn⟩
      rw [hmr.stays.rxKept (Node.rxWanted_of_run hmr.phase (by rw [hmengine]; exact hsend)) (by rw [hmstate]; nofun), hmstate]
  · obtain ⟨n, ⟨hntx, hnrx, hnpower, hnclock, hnpanel, hnside⟩, hexec⟩ := exec_carrierOnset us hcarrier (by rw [hstate]; nofun)
    obtain ⟨m, hm⟩ : ∃ m : Node, m = { n with
        rx := { n.rx with state := .syncHunt }
        tx := { n.tx with grid := none }
        power := { n.power with hunt := some (later n.clock 307) } } := ⟨_, rfl⟩
    rw [Node.onset_other (by rw [hntx, he]; nofun) (by rw [hntx, he]; rfl),
      Node.onset_heard_patrol _ (by rw [hnpower]; exact hp.phase) (by rw [hnrx]; exact hstate) (by rw [hnpower]; exact hhunt)
        (by rw [hnpower]; exact hframe), ← hm] at hexec
    have hmp : m.Patrolling := by
      refine ⟨?_, ?_, ?_, ?_⟩
      · rw [hm, hnpower]; exact hp.phase
      · rw [hm]; exact hnpanel.trans hp.role
      · rw [hm]; exact hnside.trans hp.alarmSide
      · rw [hm, hnpower]; exact hp.hold
    have hhunts : m.power.hunt = some (later s.node.clock 307) := by rw [hm, hnclock]
    have hmstate : m.rx.state = .syncHunt := by rw [hm]
    have hmengine : m.tx.engine = .idle := by rw [hm, hntx]; exact he
    have hwanted : m.rxWanted = true :=
      Node.rxWanted_of_hold hmp.phase (by rw [hmengine]; nofun) (.inr (.inl (by rw [hhunts]; rfl)))
    obtain ⟨-, hhold, -⟩ := hmp.stays.holds
    refine ⟨_, hexec, ?_, hhold.trans hhunts, hmp.stays.trans hmp.phase⟩
    rw [hmp.stays.rxKept hwanted (by rw [hmstate]; nofun), hmstate]
  · obtain ⟨n, ⟨hntx, hnrx, hnpower, hnclock, hnpanel, hnside⟩, hexec⟩ := exec_carrierOnset us hcarrier hon
    obtain ⟨p, hp⟩ := Node.beginHunt_power { n with tx := n.tx.lose (c.realign us k) }
    obtain ⟨m, hm⟩ : ∃ m : Node, m = { n with tx := n.tx.lose (c.realign us k), power := p } := ⟨_, rfl⟩
    rw [Node.onset_window (by rw [hntx]; exact he) (by rw [hntx]; exact hc),
      Node.onsetInWindow_loses (Contention.edgeSlot_listening hlow hhigh h1 h11 hbit), hp, ← hm] at hexec
    have hf := m.settle_follows
    have hmtx : m.tx = s.node.tx.lose (c.realign us k) := by rw [hm, hntx]
    have hdeferred : m.tx.engine = .deferred := by rw [hmtx]; rfl
    refine ⟨_, hexec, rfl, ?_, ?_, ?_, ?_⟩
    · rw [Node.settle_engine_kept (by rw [hdeferred]; nofun) (by rw [hdeferred]; nofun), hdeferred]
    · rw [hf.txLosses, hmtx]
      rfl
    · rw [hf.txDrops, hmtx]
      rfl
    · rw [hf.txQueue, hmtx]
      exact Transmitter.lost_queue _ _
  · obtain ⟨n, ⟨hntx, hnrx, hnpower, hnclock, hnpanel, hnside⟩, hexec⟩ := exec_carrierOnset us hcarrier hon
    obtain ⟨m, hm⟩ : ∃ m : Node, m = { n with
      tx := { n.tx with contention := some { c with heard := some us } } } := ⟨_, rfl⟩
    rw [Node.onset_window (by rw [hntx]; exact he) (by rw [hntx]; exact hc),
      Node.onsetInWindow_goes (Contention.edgeSlot_own hlow hhigh hbit), ← hm] at hexec
    have hf := m.settle_follows
    have hmtx : m.tx = { s.node.tx with contention := some { c with heard := some us } } := by rw [hm, hntx]
    have hengine : m.tx.engine = .window := by rw [hmtx]; exact he
    refine ⟨_, hexec, ?_, ?_, ?_⟩
    · rw [Node.settle_engine_kept (by rw [hengine]; nofun) (by rw [hengine]; nofun), hengine]
    · rw [hf.txLosses, hmtx]
    · rw [hf.txQueue, hmtx]
end

section
/-! The ends of HOLDOFF and BACKOFF, the synthesiser's lock, and the end of a window (R107, R113 to R119). -/

namespace Sys2Proof.Machine

/-! ## A woken settling -/

theorem Node.settleWoken_engine_cases (n : Node) : n.settleWoken.tx.engine = n.tx.engine ∨
    ((n.tx.engine = .gap ∨ n.tx.engine = .wait) ∧ n.settleWoken.tx.engine = .deferred) := by
  have h := n.wake.settle_engine_cases
  rwa [Node.wake_tx] at h

theorem Node.settleWoken_engine_kept {n : Node} (h : n.tx.engine ≠ .gap) (hw : n.tx.engine ≠ .wait) :
    n.settleWoken.tx.engine = n.tx.engine := by
  rcases n.settleWoken_engine_cases with he | ⟨he | he, -⟩
  · exact he
  · exact absurd he h
  · exact absurd he hw

/-! ## HOLDOFF_END and BACKOFF_END -/

/-- The queue once the oldest HOLDOFF entry whose stamp is reached waits (R107). -/
theorem exec_holdoffEnd {s : State} {older rest : List TxEntry} {e : TxEntry} (hq : s.node.tx.queue = older ++ e :: rest)
    (he : e.state = .holdoff) (hr : reached s.node.clock e.earliest = true)
    (hfirst : ∀ x ∈ older, x.state = .holdoff → reached s.node.clock x.earliest = false) :
    exec .holdoffEnd s = .next { s with node := Node.settleWoken { s.node with
      tx := Transmitter.leaveIdle { s.node.tx with queue := older ++ { e with state := .waiting } :: rest } } } := by
  obtain ⟨ends, hends⟩ : ∃ ends : TxEntry → Bool, ends = fun x => x.state == .holdoff && reached s.node.clock x.earliest :=
    ⟨_, rfl⟩
  have hend : ends e = true := by simp [hends, he, hr]
  have hnot : ∀ x ∈ older, ends x = false := by
    intro x hx
    by_cases hs : x.state = .holdoff
    · simp [hends, hfirst x hx hs]
    · simp [hends, hs]
  have hany : s.node.tx.queue.any ends = true := List.any_eq_true.mpr ⟨e, by rw [hq]; simp, hend⟩
  have hqueue : updateFirst ends (fun x => { x with state := .waiting }) s.node.tx.queue =
      older ++ { e with state := .waiting } :: rest := by
    rw [hq]
    exact updateFirst_append _ _ _ _ _ hnot hend
  show execHoldoffEnd s = _
  unfold execHoldoffEnd
  simp only [← hends, hany, hqueue, if_true, State.go]

/-- The engine leaves IDLE for a WAITING entry, and starts the synthesiser (R113, R119). -/
theorem Transmitter.leaveIdle_waiting {t : Transmitter} (h : ∃ e ∈ t.queue, e.state = .waiting) : t.leaveIdle =
    if t.engine = .idle then { t with engine := if t.grid.isSome then .wait else .gap, synth := .starting } else t := by
  obtain ⟨e, he, hs⟩ := h
  have hany : t.queue.any (fun e => e.state == .waiting) = true := List.any_eq_true.mpr ⟨e, he, beq_iff_eq.mpr hs⟩
  unfold Transmitter.leaveIdle
  by_cases hidle : t.engine = .idle
  · rw [if_pos hidle, if_pos (by simp [hidle, hany])]
  · rw [if_neg hidle, if_neg (by simp [hidle])]

theorem Transmitter.anyWaiting_iff (t : Transmitter) : t.anyWaiting = true ↔ ∃ e ∈ t.queue, e.state = .waiting := by
  simp [Transmitter.anyWaiting]

theorem exec_backoffEnd {s : State} (he : s.node.tx.engine = .backoff)
    (hdue : due s.node.clock s.node.tx.backoff = true) :
    exec .backoffEnd s = .next { s with node := Node.settleWoken { s.node with
      tx := if Transmitter.anyWaiting { s.node.tx with backoff := none } then
          { s.node.tx with backoff := none, engine := .gap, synth := .starting }
        else Transmitter.rest { s.node.tx with backoff := none } } } := by
  show execBackoffEnd s = _
  simp [execBackoffEnd, he, hdue, State.go]

theorem exec_synthesiserLock (s : State) (locked : Bool) : exec (.synthesiserLock locked) s = .next { s with
    node := if s.node.tx.synth = .stopped then s.node
      else { s.node with tx := { s.node.tx with synth := if locked then .locked else .starting } } } := by
  show execSynthesiserLock locked s = _
  by_cases h : s.node.tx.synth = .stopped <;> simp [execSynthesiserLock, h, State.go]

/-! ## The bits on the air (R94, R95) -/

theorem bitsOf_length {w : Nat} (v : BitVec w) : (bitsOf v).length = w := by simp [bitsOf]

theorem bitsOf_getElem? {w : Nat} (v : BitVec w) {i : Nat} (h : i < w) : (bitsOf v)[i]? = some (v.getLsbD (w - 1 - i)) := by
  simp [bitsOf, h]

theorem flatMap_bitsOf_length (bytes : List Byte) : (bytes.flatMap bitsOf).length = 8 * bytes.length := by
  induction bytes with
  | nil => rfl
  | cons b bytes ih =>
    rw [List.flatMap_cons, List.length_append, bitsOf_length, ih, List.length_cons]
    omega

/-- Bit `i` of byte `j`, the most significant first. -/
theorem flatMap_bitsOf_getElem? (bytes : List Byte) : ∀ {j : Nat} {b : Byte}, bytes[j]? = some b → ∀ {i : Nat}, i < 8 →
    (bytes.flatMap bitsOf)[8 * j + i]? = some (b.getLsbD (7 - i)) := by
  induction bytes with
  | nil => exact fun h => by simp at h
  | cons x bytes ih =>
    intro j b h i hi
    rw [List.flatMap_cons]
    cases j with
    | zero =>
      obtain rfl : x = b := by simpa using h
      rw [List.getElem?_append_left (by rw [bitsOf_length]; omega), Nat.mul_zero, Nat.zero_add]
      exact bitsOf_getElem? x hi
    | succ j =>
      have hindex : 8 * (j + 1) + i = (bitsOf x).length + (8 * j + i) := by
        rw [bitsOf_length]
        omega
      rw [hindex, List.getElem?_append_right (Nat.le_add_right _ _), Nat.add_sub_cancel_left]
      exact ih (by simpa using h) hi

section
variable (o : OnAir)

theorem OnAir.bits_length : o.bits.length = o.preamble.length + 16 + 8 * o.bytes.length := by
  unfold OnAir.bits
  rw [List.length_append, List.length_append, flatMap_bitsOf_length, bitsOf_length]
  simp [alternating]

theorem OnAir.bits_preamble {i : Nat} (h : i < o.preamble.length) : o.bits[i]? = some (decide (i % 2 = 0)) := by
  unfold OnAir.bits
  rw [List.append_assoc, List.getElem?_append_left (by simpa [alternating] using h)]
  simp [alternating, h, beq_eq_decide]

theorem OnAir.bits_sync {i : Nat} (h : i < 16) : o.bits[o.preamble.length + i]? = some (o.sync.getLsbD (15 - i)) := by
  have hlen : (alternating o.preamble.length).length = o.preamble.length := by simp [alternating]
  unfold OnAir.bits
  rw [List.append_assoc, List.getElem?_append_right (by omega), hlen, Nat.add_sub_cancel_left,
    List.getElem?_append_left (by rw [bitsOf_length]; exact h)]
  exact bitsOf_getElem? o.sync h

theorem OnAir.bits_byte {j : Nat} {b : Byte} (hb : o.bytes[j]? = some b) {i : Nat} (h : i < 8) :
    o.bits[o.preamble.length + 16 + 8 * j + i]? = some (b.getLsbD (7 - i)) := by
  have hlen : (alternating o.preamble.length ++ bitsOf o.sync).length = o.preamble.length + 16 := by
    rw [List.length_append, bitsOf_length]
    simp [alternating]
  unfold OnAir.bits
  rw [Nat.add_assoc (o.preamble.length + 16), List.getElem?_append_right (by omega), hlen, Nat.add_sub_cancel_left]
  exact flatMap_bitsOf_getElem? o.bytes hb h

end

/-! ## The end of a window (R114, R117) -/

/-- The entry is SENDING and its frame on the air. -/
theorem Node.win_eq {n : Node} {older rest : List TxEntry} {e : TxEntry} (hq : n.tx.queue = older ++ e :: rest)
    (he : e.state = .contending) (hfirst : ∀ x ∈ older, x.state ≠ .contending) : n.win =
      { n with tx := { n.tx with
          queue := older ++ { e with state := .sending } :: rest
          engine := .sending
          contention := none
          grid := none
          onAir := some ⟨preambleFor e.frame.cls n.power.phase, syncPattern, e.frame.wire⟩ } } := by
  have hindex : indexOf (fun x : TxEntry => x.state == .contending) n.tx.queue = some older.length := by
    rw [hq]
    exact indexOf_append _ _ _ _ (fun y hy => by simpa using hfirst y hy) (by simp [he])
  have hget : n.tx.queue[older.length]? = some e := by rw [hq]; simp
  have hset : setAt n.tx.queue older.length { e with state := .sending } =
      older ++ { e with state := .sending } :: rest := by rw [hq, setAt_append]
  unfold Node.win
  simp only [hindex, hget, hset]

theorem exec_windowWon {s : State} {c : Contention} (he : s.node.tx.engine = .window)
    (hc : s.node.tx.contention = some c) : exec .windowWon s = .next { s with
      node := if c.heard.any (fun h => c.heardBetween h (c.edge + 2999)) then
          Node.settle { s.node with tx := s.node.tx.lose c }
        else s.node.win.settle } := by
  show execWindowWon s = _
  unfold execWindowWon
  simp only [he, hc, State.go]

/-- A listening slot that carrier still stands in at the window's end (R114, R116). -/
theorem Contention.heardAtEnd_iff (c : Contention) : c.heard.any (fun h => c.heardBetween h (c.edge + 2999)) = true ↔
    ∃ (k : Nat) (h : Int), 1 ≤ k ∧ k ≤ 11 ∧ c.code.testBit (11 - k) = false ∧
      c.heard = some h ∧ h < c.edge + 250 * k + 250 := by
  cases hh : c.heard with
  | none => simp
  | some h =>
    rw [Option.any_some, Contention.heardBetween_iff]
    constructor
    · rintro ⟨k, h1, h11, hbit, hstart, -⟩
      exact ⟨k, h, h1, h11, hbit, rfl, hstart⟩
    · rintro ⟨k, h', h1, h11, hbit, hsome, hstart⟩
      obtain rfl : h = h' := Option.some.inj hsome
      exact ⟨k, h1, h11, hbit, hstart, by omega⟩

theorem preambleFor_eq (c : FrameClass) (phase : Phase) :
    preambleFor c phase = if c = .evidence ∧ phase = .run then .short else .long := by
  unfold preambleFor
  by_cases h : c = .evidence ∧ phase = .run
  · rw [if_pos h, if_pos (by simpa using h)]
  · rw [if_neg h, if_neg (by simpa using h)]

/-- While SENDING the receiver is OFF (R117). -/
theorem Node.settle_sending_off {n : Node} (h : n.tx.engine = .sending) : n.settle.rx.state = .off := by
  have hwanted : n.poweredNode.rxWanted = false := by
    have he : n.poweredNode.tx.engine = .sending := n.poweredNode_engine.trans h
    unfold Node.rxWanted
    rw [he]
    split <;> rfl
  rw [n.settle_rx, Node.switchRx_state, hwanted]
  rfl

end Sys2Proof.Machine

open Sys2Proof.Machine in
/-- Settles O26: the three ends. -/
theorem holdoffBackoffAndSynthesiserEnd : Obligations.HoldoffBackoffAndSynthesiserEnd := by
  unfold Obligations.HoldoffBackoffAndSynthesiserEnd
  refine ⟨fun s older rest e hq he hr hfirst => ?_, fun s he hdue => ?_, fun s locked => ⟨fun h => ?_, fun h => ?_⟩⟩
  · obtain ⟨t, ht⟩ : ∃ t : Transmitter, t = Transmitter.leaveIdle { s.node.tx with
      queue := older ++ { e with state := .waiting } :: rest } := ⟨_, rfl⟩
    have hexec := exec_holdoffEnd hq he hr hfirst
    rw [← ht] at hexec
    rw [Transmitter.leaveIdle_waiting ⟨{ e with state := .waiting }, by simp, rfl⟩] at ht
    have hf := Node.settleWoken_follows { s.node with tx := t }
    refine ⟨_, hexec, rfl, ?_, fun hidle => ?_, fun hidle => ?_, hf.relay, hf.link, hf.evidence, ?_, ?_⟩
    · rw [hf.txQueue, ht]
      split <;> rfl
    · have ht := ht.trans (if_pos hidle)
      rw [hf.txSynth, ht]
    · have ht := ht.trans (if_neg hidle)
      rw [hf.txSynth, ht]
    · rw [hf.txDrops, ht]
      split <;> rfl
    · rw [hf.txLosses, ht]
      split <;> rfl
  · obtain ⟨t, ht⟩ : ∃ t : Transmitter, t = if Transmitter.anyWaiting { s.node.tx with backoff := none } then
        { s.node.tx with backoff := none, engine := .gap, synth := .starting }
      else Transmitter.rest { s.node.tx with backoff := none } := ⟨_, rfl⟩
    have hexec := exec_backoffEnd he hdue
    rw [← ht] at hexec
    obtain ⟨m, hm⟩ : ∃ m : Node, m = { s.node with tx := t } := ⟨_, rfl⟩
    rw [← hm] at hexec
    have hmtx : m.tx = t := by rw [hm]
    have hf := m.settleWoken_follows
    have hwaits := Transmitter.anyWaiting_iff { s.node.tx with backoff := none }
    refine ⟨_, hexec, rfl, ?_, ?_, ?_, fun hsome => ?_, fun hnone => ?_⟩
    · rw [hf.txQueue, hmtx, ht]
      split <;> rfl
    · rw [hf.txBackoff, hmtx, ht]
      split <;> rfl
    · rw [hf.txRadioFault, hmtx, ht]
      split <;> rfl
    · have ht := ht.trans (if_pos (hwaits.mpr hsome))
      have hgap : m.tx.engine = .gap := by rw [hmtx, ht]
      refine ⟨by rw [hf.txSynth, hmtx, ht], fun hcarrier => ?_, ?_⟩
      · rw [Node.settleWoken, Node.settle_engine_of_quiet (by rw [Node.wake_rx, hm]; exact hcarrier), Node.wake_tx, hgap]
      · exact m.settleWoken_engine_cases.imp (fun h => h.trans hgap) And.right
    · have ht := ht.trans (if_neg (fun h => by
        obtain ⟨e, hmem, hs⟩ := hwaits.mp h
        exact hnone e hmem hs))
      have hidle : m.tx.engine = .idle := by rw [hmtx, ht]; rfl
      refine ⟨?_, by rw [hf.txSynth, hmtx, ht]; rfl⟩
      rw [Node.settleWoken_engine_kept (by rw [hidle]; nofun) (by rw [hidle]; nofun), hidle]
  · rw [exec_synthesiserLock, if_neg h]
  · rw [exec_synthesiserLock, if_pos h]

open Sys2Proof.Machine in
/-- Settles O28: the window won, with its bits on the air, and the window lost at its end. -/
theorem windowWonSends : Obligations.WindowWonSends := by
  unfold Obligations.WindowWonSends
  intro lost
  refine ⟨fun s c older rest e he hc hlost hq hs hfirst => ?_, fun s c he hc hlost => ?_⟩
  · obtain ⟨m, hm⟩ : ∃ m, m = s.node.win := ⟨_, rfl⟩
    have hexec := exec_windowWon he hc
    rw [if_neg (fun h => hlost (c.heardAtEnd_iff.mp h)), ← hm] at hexec
    rw [Node.win_eq hq hs hfirst] at hm
    have hf := m.settle_follows
    have hengine : m.tx.engine = .sending := by rw [hm]
    obtain ⟨o, ho⟩ : ∃ o : OnAir, o = ⟨preambleFor e.frame.cls s.node.power.phase, syncPattern, e.frame.wire⟩ := ⟨_, rfl⟩
    have hlength : o.preamble.length = if e.frame.cls = .evidence ∧ s.node.power.phase = .run then 80 else 4320 := by
      rw [ho, preambleFor_eq]
      split <;> rfl
    have hbytes : o.bytes = e.frame.wire := by rw [ho]
    have hsync : o.sync = 0xD391 := by rw [ho]; rfl
    refine ⟨_, hexec, rfl, ?_, ?_, ?_, Node.settle_noGrid (by rw [hm]), Node.settle_sending_off hengine, ⟨o, ?_, ?_⟩, ?_, ?_⟩
    · rw [hf.txQueue, hm]
    · rw [Node.settle_engine_kept (by rw [hengine]; nofun) (by rw [hengine]; nofun), hengine]
    · rw [hf.txContention, hm]
    · rw [hf.txOnAir, hm, ho]
    · intro bytes k
      have hk : o.preamble.length = k := hlength
      rw [← hk]
      refine ⟨by rw [ho]; exact preambleFor_eq _ _, hsync, hbytes, ?_, fun i hi => o.bits_preamble hi, fun i hi => ?_,
        fun j b hb i hi => o.bits_byte (hbytes ▸ hb) hi⟩
      · rw [o.bits_length, hbytes]
        rfl
      · rw [o.bits_sync hi, hsync]
    · rw [hf.relay, hm]
    · rw [hf.link, hm]
  · obtain ⟨m, hm⟩ : ∃ m : Node, m = { s.node with tx := s.node.tx.lose c } := ⟨_, rfl⟩
    have hexec := exec_windowWon he hc
    rw [if_pos (c.heardAtEnd_iff.mpr hlost), ← hm] at hexec
    have hf := m.settle_follows
    have hmtx : m.tx = s.node.tx.lose c := by rw [hm]
    have hdeferred : m.tx.engine = .deferred := by rw [hmtx]; rfl
    refine ⟨_, hexec, rfl, ?_, ?_, ?_, ?_, ?_, ?_, ?_⟩
    · rw [Node.settle_engine_kept (by rw [hdeferred]; nofun) (by rw [hdeferred]; nofun), hdeferred]
    · rw [hf.txLosses, hmtx]
      rfl
    · rw [hf.txOnAir, hmtx]
      rfl
    · rw [hf.txDrops, hmtx]
      rfl
    · rw [hf.relay, hm]
    · rw [hf.link, hm]
    · rw [hf.txQueue, hmtx]
      exact Transmitter.lost_queue _ _
end

section
/-! Channel checks, the holds' expiries, and the oscillator after a settling (R162 to R169). -/

namespace Sys2Proof.Machine

/-! ## The oscillator after a settling (R162) -/

/-- The node whose claims a settling reads. -/
def Node.clockless (n : Node) : Node := n.poweredNode.switchRx.deferToCarrier.settleOutputs

theorem Node.settle_oscillator (n : Node) : n.settle.power.oscillator =
    oscillatorAfter n.settle.power.phase n.clockless.claimsNow.any n.clockless.loader.read.isSome
      n.clockless.power.oscillator := by
  have hphase : n.settle.power.phase = n.clockless.power.phase := by
    unfold Node.settle
    rw [Node.settleSerial_power]
    rfl
  rw [hphase]
  unfold Node.settle
  rw [Node.settleSerial_power]
  rfl

theorem Node.settle_claims (n : Node) : n.settle.power.claims = n.clockless.claimsNow := by
  unfold Node.settle
  rw [Node.settleSerial_power]
  rfl

theorem Node.settle_clockless_phase (n : Node) : n.clockless.power.phase = n.settle.power.phase := by
  unfold Node.settle
  rw [Node.settleSerial_power]
  rfl

theorem Node.switchRx_clock (n : Node) : n.switchRx.power.oscillator = n.power.oscillator ∧
    n.switchRx.power.claims = n.power.claims := by
  unfold Node.switchRx
  split
  · split <;> exact ⟨rfl, rfl⟩
  · split <;> exact ⟨rfl, rfl⟩

/-- Up to the claims themselves, a settling leaves the oscillator and the event claim. -/
theorem Node.clockless_clock (n : Node) : n.clockless.power.oscillator = n.power.oscillator ∧
    n.clockless.power.claims = n.power.claims := by
  have hpowered : n.poweredNode.power.oscillator = n.power.oscillator ∧ n.poweredNode.power.claims = n.power.claims := by
    unfold Node.poweredNode Node.settlePower
    simp only []
    split
    · split <;> simp [Node.enterRun]
    · split <;> simp [Node.enterPatrol]
    · simp
  have hdefer : ∀ m : Node, m.deferToCarrier.settleOutputs.power = m.power := by
    intro m
    unfold Node.deferToCarrier
    split <;> rfl
  obtain ⟨hosc, hclaims⟩ := n.poweredNode.switchRx_clock
  unfold Node.clockless
  rw [hdefer, hosc, hclaims]
  exact hpowered

theorem Node.clockless_rx (n : Node) : n.clockless.rx = n.settle.rx := by
  rw [n.settle_rx]
  simp [Node.clockless]

theorem Node.clockless_tx (n : Node) : n.clockless.tx = n.settle.tx := by
  rw [n.settle_tx]
  rfl

/-- The oscillator does not stop while the receiver is on or the engine claims it (R162). -/
theorem Node.settle_not_stopped {n : Node} (h : n.settle.rx.state ≠ .off ∨ n.settle.tx.engine.claims = true) :
    n.settle.power.oscillator ≠ .stopped := by
  have hany : n.clockless.claimsNow.any = true := by
    rw [← n.clockless_rx, ← n.clockless_tx] at h
    unfold Node.claimsNow Claims.any
    rcases h with h | h
    · simp [h]
    · simp [h]
  rw [n.settle_oscillator, hany]
  unfold oscillatorAfter
  split
  · nofun
  · simp only [Bool.true_or, if_true]
    split
    · nofun
    · next ho => exact fun hs => ho (beq_iff_eq.mpr hs)

/-! ## Woken nodes -/

theorem Node.Patrolling.wake {n : Node} (h : n.Patrolling) : n.wake.Patrolling :=
  ⟨by simpa using h.phase, by simpa [Node.onPanel] using h.role, by simpa [Node.alarmSideCause] using h.alarmSide,
    by simpa using h.hold⟩

theorem Node.wake_rxWanted (n : Node) : n.wake.rxWanted = n.rxWanted := by
  simp [Node.rxWanted]

/-! ## The commands -/

theorem exec_channelCheck {s : State} (h : s.node.checkDue = true) : exec .channelCheck s = .next { s with
    node := Node.settleWoken (if s.node.rx.carrier && s.node.tx.engine != .sending then
        Node.beginHunt { s.node with power := { s.node.power with listen := some (later s.node.clock 2) } }
      else { s.node with power := { s.node.power with listen := some (later s.node.clock 2) } }) } := by
  show execChannelCheck s = _
  unfold execChannelCheck
  simp only [h, if_true, State.go]

theorem Node.beginHunt_eq {n : Node} (h : n.power.phase = .patrol) : n.beginHunt = { n with power := { n.power with
    hunt := if n.power.hunt = none ∧ n.power.frameHold = false then some (later n.clock 307) else n.power.hunt } } := by
  by_cases hh : n.power.hunt = none ∧ n.power.frameHold = false
  · rw [if_pos hh, Node.beginHunt_patrol h hh.1 hh.2]
  · rw [if_neg hh]
    exact if_neg (by simpa [h] using hh)

/-- What the handing on and the RADIO clear of a completed send leave (R118). -/
theorem Node.completeSend_side {n : Node} (h : ∃ e ∈ n.tx.queue, e.state = .sending) :
    n.completeSend.rx = n.rx ∧ n.completeSend.power = n.power ∧ n.completeSend.clock = n.clock ∧
    n.completeSend.onPanel = n.onPanel ∧ n.completeSend.alarmSideCause = n.alarmSideCause ∧
    n.completeSend.tx.engine ≠ .sending := by
  obtain ⟨x, hx, hs⟩ := h
  cases hindex : indexOf (fun e : TxEntry => e.state == .sending) n.tx.queue with
  | none =>
    have := (indexOf_eq_none _ _).mp hindex x hx
    simp [hs] at this
  | some i =>
    obtain ⟨a, e, b, hq, hi, -, -⟩ := indexOf_spec _ _ _ hindex
    have hget : n.tx.queue[i]? = some e := by rw [hq, hi]; simp
    obtain ⟨m, hm⟩ : ∃ m : Node, m = Node.handOn { n with tx := n.tx.sent i } e := ⟨_, rfl⟩
    have hcomplete : n.completeSend = m.deliver (if n.tx.radioFault then [.clear .radio none] else []) := by
      unfold Node.completeSend
      simp only [hindex, hget]
      rw [hm]
      rfl
    have hside : m.rx = n.rx ∧ m.power = n.power ∧ m.clock = n.clock ∧ m.onPanel = n.onPanel ∧
        m.alarmSideCause = n.alarmSideCause := by
      rw [hm]
      unfold Node.handOn
      split
      · split <;> exact ⟨rfl, rfl, rfl, rfl, rfl⟩
      · exact ⟨rfl, rfl, rfl, rfl, rfl⟩
    have hmtx : m.tx = n.tx.sent i := by
      obtain ⟨htx, -⟩ := Node.handOn_blocks { n with tx := n.tx.sent i } e
      rw [hm, htx]
    have htx : n.completeSend.tx = n.tx.sent i := by
      rw [hcomplete, ← hmtx]
      split
      · exact m.deliver_clear_radio.1
      · rfl
    obtain ⟨srx, spower, sclock, spanel, sside⟩ := hside
    obtain ⟨-, -, -, hengine⟩ := n.tx.sent_kept i
    refine ⟨?_, ?_, ?_, ?_, ?_, ?_⟩
    · rw [hcomplete, Node.deliver_rx, srx]
    · rw [hcomplete, Node.deliver_power, spower]
    · rw [hcomplete, Node.deliver_clock, sclock]
    · rw [hcomplete, ← spanel, Node.onPanel, Node.deliver_loader, Node.onPanel]
    · rw [hcomplete, ← sside]
      simp [Node.alarmSideCause]
    · rw [htx]
      rcases hengine with h | h <;> rw [h] <;> nofun

theorem Node.settlePower_exit {n : Node} (h : n.power.phase = .run) (hpanel : n.onPanel = false)
    (hside : n.alarmSideCause = false) (hhold : n.power.runHold = none) :
    n.settlePower.power.linger = some (later n.clock 1024) := by
  obtain ⟨k, hk⟩ : ∃ k : Node, k = { n with power := { n.power with alarmCause := n.alarmSideCause } } := ⟨_, rfl⟩
  have hcaused : k.runCaused = false := by
    have hcause : k.runCaused = (n.onPanel || n.alarmSideCause || n.power.runHold.isSome) := by rw [hk]; rfl
    rw [hcause, hpanel, hside, hhold]
    rfl
  have hclock : k.clock = n.clock := by rw [hk]
  have hsettled : n.settlePower = if k.runCaused then k else k.enterPatrol := by
    rw [hk]
    unfold Node.settlePower
    simp only [h]
  rw [hsettled, hcaused, ← hclock]
  rfl

/-- RUN ends when the last of its causes does (R165, R166). -/
theorem Node.settle_exit {n : Node} (h : n.power.phase = .run) (hpanel : n.onPanel = false)
    (hside : n.alarmSideCause = false) (hhold : n.power.runHold = none) :
    n.settle.power.phase = .patrol ∧ n.settle.power.linger = some (later n.clock 1024) := by
  have hphase : n.settle.power.phase = .patrol := by
    rw [n.settle_phase]
    simp [Node.active, h, hpanel, hside, hhold]
  refine ⟨hphase, ?_⟩
  have hf := n.settleInterval_follows
  have hpower' : n.settleInterval.power = n.power := by simp
  have hpowered : n.poweredNode.power.linger = some (later n.clock 1024) := by
    rw [← hf.clock]
    refine Node.settlePower_exit (by rw [hpower', h]) ?_ ?_ (by rw [hpower', hhold])
    · rw [Node.onPanel, hf.loader]
      exact hpanel
    · rw [Node.alarmSideCause, hf.alarmState, hf.alarmWalkTest]
      exact hside
  obtain ⟨-, -, hlinger⟩ := Node.switchRx_powerHolds n.poweredNode
  have hpower : n.settle.power.linger = n.poweredNode.switchRx.power.linger := by
    unfold Node.settle
    rw [Node.settleSerial_power]
    simp [Node.settleOscillator, Node.poweredNode]
  rw [hpower, hlinger, hpowered]

end Sys2Proof.Machine

open Sys2Proof.Machine in
/-- Settles O44: the check, the listen after a send, and the expiries of the holds. -/
theorem checksListenAndHoldsEnd : Obligations.ChecksListenAndHoldsEnd := by
  unfold Obligations.ChecksListenAndHoldsEnd
  refine ⟨fun s hp hoff hdiv => ?_, fun s hp he hoff hsome hlisten hcarrier => ?_, fun s hp c p hcase => ?_,
    fun s hdue hrun => ?_⟩
  · have hdue : s.node.checkDue = true := by
      have hinterval : s.node.power.battery.checkInterval = if s.node.power.battery = .critical then 1024 else 256 := by
        cases s.node.power.battery <;> rfl
      simp [Node.checkDue, hp.phase, hoff, hinterval, hdiv]
    obtain ⟨hunt, hhunt⟩ : ∃ hunt : Option Sys2Proof.Stamp, hunt =
        if (s.node.rx.carrier && s.node.tx.engine != .sending) = true ∧ s.node.power.hunt = none ∧
          s.node.power.frameHold = false then some (later s.node.clock 307) else s.node.power.hunt := ⟨_, rfl⟩
    obtain ⟨m, hm⟩ : ∃ m : Node, m = { s.node with
      power := { s.node.power with listen := some (later s.node.clock 2), hunt := hunt } } := ⟨_, rfl⟩
    have hexec := exec_channelCheck hdue
    have hnode : (if s.node.rx.carrier && s.node.tx.engine != .sending then
        Node.beginHunt { s.node with power := { s.node.power with listen := some (later s.node.clock 2) } }
        else { s.node with power := { s.node.power with listen := some (later s.node.clock 2) } }) = m := by
      rw [hm, hhunt]
      by_cases hc : (s.node.rx.carrier && s.node.tx.engine != .sending) = true
      · simp only [hc, if_true, true_and]
        exact Node.beginHunt_eq (n := { s.node with power := { s.node.power with
          listen := some (later s.node.clock 2) } }) hp.phase
      · rw [if_neg hc, if_neg (fun h => hc h.1)]
    rw [hnode] at hexec
    have hmp : m.Patrolling := by rw [hm]; exact ⟨hp.phase, hp.role, hp.alarmSide, hp.hold⟩
    have hw := hmp.wake
    have hf := m.settleWoken_follows
    obtain ⟨hl, hh, -⟩ := hw.stays.holds
    have hlisten : m.settleWoken.power.listen = some (later s.node.clock 2) := by
      rw [Node.settleWoken, hl, Node.wake_powerListen, hm]
    have hhunts : m.settleWoken.power.hunt = hunt := by
      rw [Node.settleWoken, hh, Node.wake_powerHunt, hm]
    have hmrx : m.rx = s.node.rx := by rw [hm]
    have hmtx : m.tx = s.node.tx := by rw [hm]
    have hwrx : m.wake.rx.state = .off := by rw [Node.wake_rx, hmrx, hoff]
    have hstate : s.node.tx.engine ≠ .sending →
        m.settleWoken.rx.state = if s.node.rx.carrier then .syncHunt else .listening := by
      intro he
      have hwanted : m.wake.rxWanted = true := by
        rw [Node.wake_rxWanted]
        exact Node.rxWanted_of_hold hmp.phase (by rw [hmtx]; exact he) (.inl (by rw [hm]; rfl))
      rw [Node.settleWoken, hw.stays.rxState, if_pos hwanted, if_pos hwrx, Node.wake_rx, hmrx]
    refine ⟨_, hexec, rfl, hw.stays.trans hw.phase, hlisten, fun he => ⟨hstate he, ?_⟩, fun he => ⟨?_, ?_⟩, ?_, ?_, ?_⟩
    · rw [hhunts, hhunt]
      simp [he]
    · exact Node.settle_sending_off (by rw [Node.wake_tx, hmtx, he])
    · rw [hhunts, hhunt]
      simp [he]
    · refine Node.settle_not_stopped ?_
      by_cases he : s.node.tx.engine = .sending
      · refine .inr ?_
        have hkept : m.settleWoken.tx.engine = .sending := by
          rw [Node.settleWoken_engine_kept (by rw [hmtx, he]; nofun) (by rw [hmtx, he]; nofun), hmtx, he]
        have hkept' : m.wake.settle.tx.engine = .sending := hkept
        rw [hkept']
        rfl
      · refine .inl ?_
        have hon : m.wake.settle.rx.state = _ := hstate he
        rw [hon]
        split <;> nofun
    · rw [hf.txQueue, hmtx]
    · unfold Node.statistics
      rw [hf.sensing, hf.peers, hf.txDrops, hf.txLosses, hf.rxBadFrames, hf.rxForeign, hf.rxOverruns, hm]
  · obtain ⟨crx, cpower, cclock, cpanel, cside, cengine⟩ := s.node.completeSend_side hsome
    obtain ⟨k, hk⟩ : ∃ k, k = s.node.completeSend := ⟨_, rfl⟩
    rw [← hk] at crx cpower cclock cpanel cside cengine
    obtain ⟨m, hm⟩ : ∃ m : Node, m = { k with power := { k.power with
      hunt := if k.power.hunt = none ∧ k.power.frameHold = false then some (later k.clock 307) else k.power.hunt } } :=
      ⟨_, rfl⟩
    have hresume : k.resumeListen = m := by
      rw [hm, ← Node.beginHunt_eq (by rw [cpower]; exact hp.phase)]
      exact if_pos (by rw [cpower, crx, hlisten, hcarrier]; rfl)
    have hexec : exec .sendComplete s = .next { s with node := m.settle } := by
      rw [← hresume, hk]
      show execSendComplete s = _
      simp [execSendComplete, he, State.go]
    have hmp : m.Patrolling := by
      refine ⟨?_, ?_, ?_, ?_⟩
      · rw [hm, cpower]; exact hp.phase
      · rw [hm]; exact cpanel.trans hp.role
      · rw [hm]; exact cside.trans hp.alarmSide
      · rw [hm, cpower]; exact hp.hold
    obtain ⟨hl, hh, -⟩ := hmp.stays.holds
    have hmlisten : m.power.listen = s.node.power.listen := by rw [hm, cpower]
    have hwanted : m.rxWanted = true :=
      Node.rxWanted_of_hold hmp.phase (by rw [hm]; exact cengine) (.inl (by rw [hmlisten]; exact hlisten))
    refine ⟨_, hexec, ?_, hmp.stays.trans hmp.phase, hl.trans hmlisten, ?_⟩
    · rw [hmp.stays.rxState, if_pos hwanted, hm, crx, if_pos hoff, hcarrier]
      rfl
    · rw [hh, hm, cpower, cclock]
  · obtain ⟨k, hexec, hk⟩ : ∃ k : Node, exec c s = .next { s with node := k.settle } ∧
        (k = { s.node with power := p } ∨ k = Node.wake { s.node with power := p }) := by
      rcases hcase with ⟨rfl, hdue, rfl⟩ | ⟨rfl, hdue, rfl⟩ | ⟨rfl, hdue, rfl⟩
      · exact ⟨_, by simp [exec, execListenEnd, hdue, State.go], .inl rfl⟩
      · exact ⟨_, by simp only [exec, execHuntExpiry, hdue, State.go, if_true]; rfl, .inr rfl⟩
      · exact ⟨_, by simp only [exec, execLingerExpiry, hdue, State.go, if_true]; rfl, .inr rfl⟩
    have hpower : p.phase = .patrol ∧ p.runHold = none := by
      rcases hcase with ⟨-, -, rfl⟩ | ⟨-, -, rfl⟩ | ⟨-, -, rfl⟩ <;> exact ⟨hp.phase, hp.hold⟩
    obtain ⟨pphase, phold⟩ := hpower
    have hm : Node.Patrolling { s.node with power := p } := ⟨pphase, hp.role, hp.alarmSide, phold⟩
    obtain ⟨hkp, krx, ktx, klisten, khunt, klinger, kframe, kstat⟩ : k.Patrolling ∧ k.rx = s.node.rx ∧
        k.tx = s.node.tx ∧ k.power.listen = p.listen ∧ k.power.hunt = p.hunt ∧ k.power.linger = p.linger ∧
        k.power.frameHold = p.frameHold ∧ k.sensing = s.node.sensing ∧ k.peers = s.node.peers ∧ k.link = s.node.link := by
      rcases hk with rfl | rfl
      · exact ⟨hm, rfl, rfl, rfl, rfl, rfl, rfl, rfl, rfl, rfl⟩
      · exact ⟨hm.wake, by simp, by simp, by simp, by simp, by simp, by simp, by simp, by simp, by simp⟩
    obtain ⟨ksensing, kpeers, klink⟩ := kstat
    have hf := k.settle_follows
    obtain ⟨hl, hh, hg⟩ := hkp.stays.holds
    refine ⟨_, hexec, rfl, hkp.stays.trans hkp.phase, hl.trans klisten, hh.trans khunt, hg.trans klinger, ?_, ?_, ?_,
      fun h1 h2 h3 h4 he hon => ?_⟩
    · rw [hf.rxSlots, krx]
    · unfold Node.statistics
      rw [hf.sensing, hf.peers, hf.txDrops, hf.txLosses, hf.rxBadFrames, hf.rxForeign, hf.rxOverruns, ksensing, kpeers,
        ktx, krx]
    · rw [hf.link, klink]
    · have hwanted : k.rxWanted = false :=
        Node.rxWanted_of_none hkp.phase (by rw [ktx, he]) (by rw [klisten, khunt, klinger, h1, h2, h3]; nofun)
          (by rw [kframe, h4])
      have hno : ¬(k.rxWanted = true ∨ k.rx.state = .off) := by
        rw [hwanted, krx]
        exact not_or.mpr ⟨nofun, hon⟩
      have hdefers : ¬k.defers := by
        rintro ⟨h | h, -, -⟩
        · rw [ktx, he] at h; cases h
        · rw [ktx, he] at h; cases h
      refine ⟨?_, ?_, ?_⟩
      · rw [hkp.stays.rxState, hwanted]; rfl
      · rw [hkp.stays.assembly, if_neg hno]
      · rw [hkp.stays.grid hdefers, if_neg hno]
  · obtain ⟨m, hm⟩ : ∃ m : Node, m = { s.node with power := { s.node.power with runHold := none } } := ⟨_, rfl⟩
    have hwake : m.wake = m := if_neg (by rw [hm]; simp [Phase.sleeps, hrun])
    have hexec : exec .runHoldExpiry s = .next { s with node := m.settle } := by
      have hwoken : m.settleWoken = m.settle := by rw [Node.settleWoken, hwake]
      rw [← hwoken, hm]
      simp [exec, execRunHoldExpiry, hdue, State.go]
    have hf := m.settle_follows
    have hmrun : m.power.phase = .run := by rw [hm]; exact hrun
    have hmhold : m.power.runHold = none := by rw [hm]
    refine ⟨_, hexec, rfl, hf.powerRunHold.trans hmhold, by rw [hf.txQueue, hm], by rw [hf.alarmState, hm],
      fun hpanel hside => ?_, fun hcause => ?_⟩
    · obtain ⟨hphase, hlinger⟩ := Node.settle_exit hmrun (by rw [hm]; exact hpanel) (by rw [hm]; exact hside) hmhold
      exact ⟨hphase, by rw [hlinger, hm]⟩
    · have hcaused : (m.onPanel || m.alarmSideCause || m.power.runHold.isSome) = true := by
        have hsame : m.onPanel = s.node.onPanel ∧ m.alarmSideCause = s.node.alarmSideCause := by
          rw [hm]
          exact ⟨rfl, rfl⟩
        rw [hsame.1, hsame.2]
        rcases hcause with h | h <;> simp [h]
      exact (Node.phaseStays_of_run hmrun hcaused).trans hmrun
end

section
/-! The oscillator: its wake sources, its start, and the work that waits for it (R162, R169). -/

namespace Sys2Proof.Machine

/-! ## A wake source -/

/-- The oscillator after a wake source: running in RUN, else starting with the event claim standing (R169). -/
def Node.Woke (t : Node) : Prop :=
  (t.power.phase = .run → t.power.oscillator = .running) ∧
  (t.power.phase ≠ .run → t.power.oscillator = .starting ∧ t.power.claims.event = true)

section
variable {m : Node} (hs : m.power.phase.sleeps = true) (ho : m.power.oscillator = .stopped)
include hs ho

theorem Node.woke_woken : m.woken.Woke := by
  have hphase : m.woken.power.phase = m.power.phase := by rw [m.woken_eq]
  refine ⟨fun h => ?_, fun _ => m.woken_starts hs ho⟩
  rw [hphase] at h
  rw [h] at hs
  cases hs

theorem Node.woke_settleWoken : m.settleWoken.Woke := by
  obtain ⟨w, hw⟩ : ∃ w, w = m.wake := ⟨_, rfl⟩
  have hwake : w.power.claims.event = true ∧ w.power.oscillator = .stopped ∧ w.power.phase = m.power.phase := by
    have hwoken : w = { m with power := { m.power with claims := { m.power.claims with event := true } } } :=
      hw.trans (if_pos (by simp [hs, ho]))
    rw [hwoken]
    exact ⟨rfl, ho, rfl⟩
  obtain ⟨hevent, hstopped, hphase⟩ := hwake
  have hsettled : m.settleWoken = w.settle := by rw [hw]; rfl
  obtain ⟨cosc, cclaims⟩ := w.clockless_clock
  have hosc := w.settle_oscillator
  rw [cosc, hstopped] at hosc
  rw [hsettled]
  refine ⟨fun hrun => ?_, fun hrun => ?_⟩
  · rw [hosc, hrun]
    rfl
  · have hsleeps : w.settle.power.phase.sleeps = true := by
      have hsettle := w.settle_phase
      split at hsettle
      · split at hsettle
        · exact absurd hsettle hrun
        · rw [hsettle]; rfl
      · rw [hsettle, hphase]
        exact hs
    have hclaim : w.clockless.claimsNow.event = true := by
      unfold Node.claimsNow
      simp only [cclaims, cosc, w.settle_clockless_phase, hevent, hsleeps, hstopped]
      rfl
    refine ⟨?_, by rw [w.settle_claims, hclaim]⟩
    have hany : w.clockless.claimsNow.any = true := by
      unfold Claims.any
      rw [hclaim, Bool.or_true]
    have hnot : w.settle.power.phase ≠ .startUp := by
      intro h
      rw [h] at hsleeps
      cases hsleeps
    rw [hosc, hany]
    simp [oscillatorAfter, hrun, hnot]

end

/-- The command is a wake source: it leaves the power state and the oscillator, and takes the event claim. -/
def Wakes (c : Instr) (s : State) : Prop :=
  ∃ k : Node, k.power.phase = s.node.power.phase ∧ k.power.oscillator = s.node.power.oscillator ∧
    (exec c s = .next { s with node := k.settleWoken } ∨ exec c s = .next { s with node := k.woken })

theorem Wakes.woke {c : Instr} {s : State} (h : Wakes c s) (hs : s.node.power.phase.sleeps = true)
    (ho : s.node.power.oscillator = .stopped) :
    ∃ t, exec c s = .next t ∧ t.pending = s.pending ∧ t.node.Woke := by
  obtain ⟨k, hphase, hosc, hexec | hexec⟩ := h
  · exact ⟨_, hexec, rfl, Node.woke_settleWoken (hphase ▸ hs) (hosc.trans ho)⟩
  · exact ⟨_, hexec, rfl, Node.woke_woken (hphase ▸ hs) (hosc.trans ho)⟩

theorem Wakes.of_clock {c : Instr} {s : State} {k : Node} (h : exec c s = .next { s with node := k.settleWoken })
    (hp : k.power.phase = s.node.power.phase) (ho : k.power.oscillator = s.node.power.oscillator) : Wakes c s :=
  ⟨k, hp, ho, .inl h⟩

theorem Wakes.of_settleWoken {c : Instr} {s : State} {k : Node}
    (h : exec c s = .next { s with node := k.settleWoken }) (hp : k.power = s.node.power) : Wakes c s :=
  ⟨k, by rw [hp], by rw [hp], .inl h⟩

theorem Wakes.of_woken {c : Instr} {s : State} {k : Node}
    (h : exec c s = .next { s with node := k.woken }) (hp : k.power = s.node.power) : Wakes c s :=
  ⟨k, by rw [hp], by rw [hp], .inr h⟩

/-! ## The power side of what the timers set off -/

theorem Node.recordLost_power (n : Node) (a : Byte) : (n.recordLost a).power = n.power := by
  unfold Node.recordLost
  split <;> simp

theorem Node.lossesRecorded_power (n : Node) : n.lossesRecorded.power = n.power := by
  have hfold : ∀ (xs : List (Nat × Peer)) (m : Node), (xs.foldl (fun m x => m.recordLost x.2.address) m).power = m.power := by
    intro xs
    induction xs with
    | nil => exact fun _ => rfl
    | cons x xs ih => exact fun m => (ih _).trans (Node.recordLost_power _ _)
  exact (hfold _ _).trans rfl

theorem Node.endPeriod_power (n : Node) : n.endPeriod.power = n.power := by
  have hconflict : ∀ m : Node, m.conflictPeriod.power = m.power := by
    intro m
    unfold Node.conflictPeriod
    simp only []
    split
    · split
      · rw [Node.deliver_power]
      · rfl
    · rfl
  have hstart : ∀ m : Node, m.startPeriod.power = m.power := fun m => rfl
  rw [n.endPeriod_eq, hstart, Node.deliver_power]
  exact (hconflict _).trans n.lossesRecorded_power

theorem Node.debounceTamper_power (n : Node) : n.debounceTamper.power = n.power := by
  unfold Node.debounceTamper
  simp only []
  split
  · rfl
  · unfold Node.tamperChanged
    split
    · rfl
    · split <;> rfl
    · rw [Node.deliver_power]

theorem Node.heldTwo_power (n : Node) : n.heldTwo.power = n.power := by
  unfold Node.heldTwo
  split
  · rfl
  · split
    · exact n.forcedSample_acts.power
    · rfl

theorem Node.abandonRecord_power (n : Node) (bs : List Byte) : (n.abandonRecord bs).power = n.power := by
  unfold Node.abandonRecord
  simp

/-! ## The wake sources -/

section
variable {s : State}

theorem wakes_configRetryGap (h : s.node.loader.read.any (fun r => due s.node.clock r.gap) = true) :
    Wakes .configRetryGap s := by
  obtain ⟨r, hr, hdue⟩ := (Option.any_eq_true _ _).mp h
  have hexec : exec .configRetryGap s = execConfigRetryGap s := rfl
  unfold execConfigRetryGap at hexec
  simp only [hr, hdue, if_true, State.go] at hexec
  exact .of_woken hexec rfl

theorem wakes_confirmingLimit (h : due s.node.clock s.node.alarm.limit = true) : Wakes .confirmingLimit s := by
  have hexec : exec .confirmingLimit s = execConfirmingLimit s := rfl
  unfold execConfirmingLimit at hexec
  simp only [h, if_true, State.go] at hexec
  by_cases hc : s.node.alarm.state = .confirming
  · rw [if_pos (beq_iff_eq.mpr hc)] at hexec
    exact .of_settleWoken hexec (Node.deliver_power _ _)
  · rw [if_neg (fun hb => hc (beq_iff_eq.mp hb))] at hexec
    exact .of_woken hexec rfl

theorem wakes_walkTestExpiry (h : due s.node.clock s.node.alarm.walkTest = true) : Wakes .walkTestExpiry s := by
  have hexec : exec .walkTestExpiry s = execWalkTestExpiry s := rfl
  unfold execWalkTestExpiry at hexec
  simp only [h, if_true, State.go] at hexec
  exact .of_settleWoken hexec rfl

theorem wakes_testSoundSpanEnd (h : due s.node.clock s.node.alarm.testSound = true) : Wakes .testSoundSpanEnd s := by
  have hexec : exec .testSoundSpanEnd s = execTestSoundSpanEnd s := rfl
  unfold execTestSoundSpanEnd at hexec
  simp only [h, if_true, State.go] at hexec
  exact .of_settleWoken hexec rfl

theorem wakes_amberEventSpanEnd (h : due s.node.clock s.node.alarm.eventSpanEnd = true) :
    Wakes .amberEventSpanEnd s := by
  have hexec : exec .amberEventSpanEnd s = execAmberEventSpanEnd s := rfl
  unfold execAmberEventSpanEnd at hexec
  simp only [h, if_true, State.go] at hexec
  exact .of_settleWoken hexec rfl

theorem wakes_supervisionPeriodEnd (h : due s.node.clock s.node.peers.periodEnd = true) :
    Wakes .supervisionPeriodEnd s := by
  have hexec : exec .supervisionPeriodEnd s = execSupervisionPeriodEnd s := rfl
  unfold execSupervisionPeriodEnd at hexec
  simp only [h, if_true, State.go] at hexec
  exact .of_settleWoken hexec s.node.endPeriod_power

theorem wakes_beaconDue (h : (due s.node.clock s.node.tx.beaconDue || due s.node.clock s.node.tx.halfDue) = true) :
    Wakes .beaconDue s := by
  have hexec : exec .beaconDue s = execBeaconDue s := rfl
  unfold execBeaconDue at hexec
  simp only [State.go] at hexec
  by_cases hfull : due s.node.clock s.node.tx.beaconDue = true
  · rw [if_pos hfull] at hexec
    exact .of_settleWoken hexec (Node.deliver_power _ _)
  · have hhalf := (Bool.or_eq_true_iff.mp h).resolve_left hfull
    rw [if_neg hfull, if_pos hhalf] at hexec
    exact .of_settleWoken hexec (Node.deliver_power _ _)

theorem wakes_holdoffEnd
    (h : s.node.tx.queue.any (fun e => e.state == .holdoff && reached s.node.clock e.earliest) = true) :
    Wakes .holdoffEnd s := by
  have hexec : exec .holdoffEnd s = execHoldoffEnd s := rfl
  unfold execHoldoffEnd at hexec
  simp only [h, if_true, State.go] at hexec
  exact .of_settleWoken hexec rfl

theorem wakes_backoffEnd (h : (s.node.tx.engine == .backoff && due s.node.clock s.node.tx.backoff) = true) :
    Wakes .backoffEnd s := by
  obtain ⟨he, hdue⟩ := Bool.and_eq_true_iff.mp h
  exact .of_settleWoken (exec_backoffEnd (beq_iff_eq.mp he) hdue) rfl

theorem wakes_echoWindowExpiry (h : s.node.relay.watch.any (fun e => due s.node.clock e.windowEnd) = true) :
    Wakes .echoWindowExpiry s := by
  have hexec : exec .echoWindowExpiry s = execEchoWindowExpiry s := rfl
  unfold execEchoWindowExpiry at hexec
  cases hfind : s.node.relay.watch.find? (fun e => due s.node.clock e.windowEnd) with
  | none =>
    obtain ⟨e, he, hd⟩ := List.any_eq_true.mp h
    exact absurd hd (by simpa using List.find?_eq_none.mp hfind e he)
  | some e =>
    simp only [hfind, State.go] at hexec
    exact .of_settleWoken hexec (s.node.missEcho_acts _ _).power

theorem wakes_resendTime (h : s.node.relay.watch.any (fun e => due s.node.clock e.resendAt) = true) :
    Wakes .resendTime s := by
  have hexec : exec .resendTime s = execResendTime s := rfl
  unfold execResendTime at hexec
  cases hfind : s.node.relay.watch.find? (fun e => due s.node.clock e.resendAt) with
  | none =>
    obtain ⟨e, he, hd⟩ := List.any_eq_true.mp h
    exact absurd hd (by simpa using List.find?_eq_none.mp hfind e he)
  | some e =>
    simp only [hfind, State.go] at hexec
    exact .of_settleWoken hexec (s.node.retry_acts _ _).power

theorem wakes_huntExpiry (h : due s.node.clock s.node.power.hunt = true) : Wakes .huntExpiry s := by
  have hexec : exec .huntExpiry s = execHuntExpiry s := rfl
  unfold execHuntExpiry at hexec
  simp only [h, if_true, State.go] at hexec
  exact .of_clock hexec rfl rfl

theorem wakes_lingerExpiry (h : due s.node.clock s.node.power.linger = true) : Wakes .lingerExpiry s := by
  have hexec : exec .lingerExpiry s = execLingerExpiry s := rfl
  unfold execLingerExpiry at hexec
  simp only [h, if_true, State.go] at hexec
  exact .of_clock hexec rfl rfl

theorem wakes_runHoldExpiry (h : due s.node.clock s.node.power.runHold = true) : Wakes .runHoldExpiry s := by
  have hexec : exec .runHoldExpiry s = execRunHoldExpiry s := rfl
  unfold execRunHoldExpiry at hexec
  simp only [h, if_true, State.go] at hexec
  exact .of_clock hexec rfl rfl

theorem wakes_tamperDebounceEnd (h : due s.node.clock s.node.out.tamperDebounce = true) : Wakes .tamperDebounceEnd s := by
  have hexec : exec .tamperDebounceEnd s = execTamperDebounceEnd s := rfl
  unfold execTamperDebounceEnd at hexec
  simp only [h, if_true, State.go] at hexec
  exact .of_settleWoken hexec s.node.debounceTamper_power

theorem wakes_testDebounceEnd (h : due s.node.clock s.node.out.testDebounce = true) : Wakes .testDebounceEnd s := by
  have hexec : exec .testDebounceEnd s = execTestDebounceEnd s := rfl
  unfold execTestDebounceEnd at hexec
  simp only [h, if_true, State.go] at hexec
  exact .of_woken hexec rfl

theorem wakes_testHold2s (h : due s.node.clock s.node.out.hold.twoAt = true) : Wakes .testHold2s s := by
  have hexec : exec .testHold2s s = execTestHold2s s := rfl
  unfold execTestHold2s at hexec
  simp only [h, if_true, State.go] at hexec
  exact .of_settleWoken hexec (Node.heldTwo_power _)

theorem wakes_testHold5s (h : due s.node.clock s.node.out.hold.fiveAt = true) : Wakes .testHold5s s := by
  obtain ⟨m, hm⟩ : ∃ m : Node, m = { s.node with out := { s.node.out with hold := s.node.out.hold.actedFive } } := ⟨_, rfl⟩
  have hpower : m.power = s.node.power := by rw [hm]
  have hexec : exec .testHold5s s = .next { s with
      node := if s.node.power.phase == .dormant then m.requestExit.settleWoken else m.woken } := by
    rw [hm]
    show execTestHold5s s = _
    unfold execTestHold5s
    simp only [h, if_true, State.go]
  by_cases hd : s.node.power.phase = .dormant
  · rw [if_pos (beq_iff_eq.mpr hd)] at hexec
    have hexit : m.requestExit.power = m.power := by
      unfold Node.requestExit
      split <;> rfl
    exact .of_settleWoken hexec (hexit.trans hpower)
  · rw [if_neg (fun hb => hd (beq_iff_eq.mp hb))] at hexec
    exact .of_woken hexec hpower

theorem wakes_sounderStep (h : s.node.out.sounder.any (fun pl => due s.node.clock pl.ends) = true) :
    Wakes .sounderStep s := by
  obtain ⟨pl, hpl, hdue⟩ := (Option.any_eq_true _ _).mp h
  have hexec : exec .sounderStep s = execSounderStep s := rfl
  unfold execSounderStep at hexec
  simp only [hpl, hdue, if_true, State.go] at hexec
  exact .of_settleWoken hexec rfl

theorem wakes_redStep (h : due s.node.clock s.node.out.red.ends = true) : Wakes (.indicatorStep .red) s := by
  have hexec : exec (.indicatorStep .red) s = execIndicatorStep .red s := rfl
  unfold execIndicatorStep at hexec
  simp only [h, if_true, State.go] at hexec
  exact .of_woken hexec rfl

theorem wakes_amberStep (h : due s.node.clock s.node.out.amber.ends = true) : Wakes (.indicatorStep .amber) s := by
  have hexec : exec (.indicatorStep .amber) s = execIndicatorStep .amber s := rfl
  unfold execIndicatorStep at hexec
  simp only [h, if_true, State.go] at hexec
  exact .of_woken hexec rfl

theorem wakes_overlayEnd (h : s.node.out.overlay.any (fun v => reached s.node.clock v.ends) = true) :
    Wakes .overlayEnd s := by
  obtain ⟨v, hv, hr⟩ := (Option.any_eq_true _ _).mp h
  have hexec : exec .overlayEnd s = execOverlayEnd s := rfl
  unfold execOverlayEnd at hexec
  simp only [hv, hr, if_true, State.go] at hexec
  exact .of_woken hexec rfl

theorem wakes_serialRecordTimeout (h : due s.node.clock s.node.serial.timeout = true)
    (hrx : s.node.serial.rx.isSome = true) : Wakes .serialRecordTimeout s := by
  obtain ⟨bs, hbs⟩ := Option.isSome_iff_exists.mp hrx
  have hexec : exec .serialRecordTimeout s = execSerialRecordTimeout s := rfl
  unfold execSerialRecordTimeout at hexec
  simp only [hbs, h, if_true, State.go] at hexec
  exact .of_settleWoken hexec (s.node.abandonRecord_power bs)

/-- A command that is a wake source, unless it is one of the four, or a timeout of no record (Table 10-1). -/
def DueWakes (s : State) (c : Instr) : Prop :=
  c ∉ [.listenEnd, .halfPeriodMark, .seenEntryExpiry, .selfCheckChirpEnd] →
    (c = .serialRecordTimeout → s.node.serial.rx.isSome = true) → Wakes c s

theorem forall_mem_due {P : Instr → Prop} {cs : List Instr} {b : Bool} {d : Instr} (hcs : ∀ c ∈ cs, P c)
    (h : b = true → P d) : ∀ c ∈ cs ++ dueIf b d, P c := by
  intro c hc
  rcases List.mem_append.mp hc with hc | hc
  · exact hcs c hc
  · obtain ⟨hb, rfl⟩ := mem_dueIf.mp hc
    exact h hb

/-- The expiries of the timers, in the table's order. -/
theorem wakes_of_due : ∀ c ∈ s.node.dueNow, DueWakes s c := by
  unfold Node.dueNow
  refine forall_mem_due ?_ (fun _ hnot => absurd (by simp) hnot)
  refine forall_mem_due ?_ (fun h _ hrx => wakes_serialRecordTimeout h (hrx rfl))
  refine forall_mem_due ?_ (fun h _ _ => wakes_overlayEnd h)
  refine forall_mem_due ?_ (fun h _ _ => wakes_amberStep h)
  refine forall_mem_due ?_ (fun h _ _ => wakes_redStep h)
  refine forall_mem_due ?_ (fun h _ _ => wakes_sounderStep h)
  refine forall_mem_due ?_ (fun h _ _ => wakes_testHold5s h)
  refine forall_mem_due ?_ (fun h _ _ => wakes_testHold2s h)
  refine forall_mem_due ?_ (fun h _ _ => wakes_testDebounceEnd h)
  refine forall_mem_due ?_ (fun h _ _ => wakes_tamperDebounceEnd h)
  refine forall_mem_due ?_ (fun h _ _ => wakes_runHoldExpiry h)
  refine forall_mem_due ?_ (fun h _ _ => wakes_lingerExpiry h)
  refine forall_mem_due ?_ (fun h _ _ => wakes_huntExpiry h)
  refine forall_mem_due ?_ (fun _ hnot => absurd (by simp) hnot)
  refine forall_mem_due ?_ (fun h _ _ => wakes_resendTime h)
  refine forall_mem_due ?_ (fun h _ _ => wakes_echoWindowExpiry h)
  refine forall_mem_due ?_ (fun _ hnot => absurd (by simp) hnot)
  refine forall_mem_due ?_ (fun h _ _ => wakes_backoffEnd h)
  refine forall_mem_due ?_ (fun h _ _ => wakes_holdoffEnd h)
  refine forall_mem_due ?_ (fun h _ _ => wakes_beaconDue h)
  refine forall_mem_due ?_ (fun _ hnot => absurd (by simp) hnot)
  refine forall_mem_due ?_ (fun h _ _ => wakes_supervisionPeriodEnd h)
  refine forall_mem_due ?_ (fun h _ _ => wakes_amberEventSpanEnd h)
  refine forall_mem_due ?_ (fun h _ _ => wakes_testSoundSpanEnd h)
  refine forall_mem_due ?_ (fun h _ _ => wakes_walkTestExpiry h)
  refine forall_mem_due ?_ (fun h _ _ => wakes_confirmingLimit h)
  intro c hc
  obtain ⟨h, rfl⟩ := mem_dueIf.mp hc
  exact fun _ _ => wakes_configRetryGap h

theorem wakes_countStageUnderflow (hrun : s.node.timer.running = true) (hcount : s.node.timer.count ≤ 1) :
    Wakes .countStageUnderflow s := by
  have hexec : exec .countStageUnderflow s = execCountStageUnderflow s := rfl
  unfold execCountStageUnderflow at hexec
  rw [if_pos (by simp [hrun, hcount])] at hexec
  exact .of_settleWoken hexec rfl

theorem wakes_channelCheck (hp : s.node.power.phase = .patrol) (hoff : s.node.rx.state = .off)
    (hdiv : s.node.clock.toNat % (if s.node.power.battery = .critical then 1024 else 256) = 0) :
    Wakes .channelCheck s := by
  have hdue : s.node.checkDue = true := by
    have hinterval : s.node.power.battery.checkInterval = if s.node.power.battery = .critical then 1024 else 256 := by
      cases s.node.power.battery <;> rfl
    simp [Node.checkDue, hp, hoff, hinterval, hdiv]
  have hexec := exec_channelCheck hdue
  obtain ⟨m, hm⟩ : ∃ m : Node, m = { s.node with
    power := { s.node.power with listen := some (later s.node.clock 2) } } := ⟨_, rfl⟩
  rw [← hm] at hexec
  obtain ⟨p, hp', hphase, hosc⟩ : ∃ p : Power, m.beginHunt = { m with power := p } ∧ p.phase = m.power.phase ∧
      p.oscillator = m.power.oscillator := by
    unfold Node.beginHunt
    split
    · exact ⟨_, rfl, rfl, rfl⟩
    · exact ⟨m.power, rfl, rfl, rfl⟩
  refine ⟨_, ?_, ?_, .inl hexec⟩
  · split
    · rw [hp', hm] at *
      exact hphase
    · rw [hm]
  · split
    · rw [hp', hm] at *
      exact hosc
    · rw [hm]

theorem wakes_tamperLineChange : Wakes (.tamperLineChange (!s.node.out.tamperLine)) s := by
  have hexec : exec (.tamperLineChange (!s.node.out.tamperLine)) s =
      execTamperLineChange (!s.node.out.tamperLine) s := rfl
  unfold execTamperLineChange at hexec
  simp only [State.go] at hexec
  rw [if_neg (by cases s.node.out.tamperLine <;> nofun)] at hexec
  exact .of_woken hexec rfl

theorem wakes_testInputChange : Wakes (.testInputChange (!s.node.out.testLine)) s := by
  have hexec : exec (.testInputChange (!s.node.out.testLine)) s = execTestInputChange (!s.node.out.testLine) s := rfl
  unfold execTestInputChange at hexec
  simp only [State.go] at hexec
  rw [if_neg (by cases s.node.out.testLine <;> nofun)] at hexec
  exact .of_woken hexec rfl

theorem wakes_serialByte (b : Byte) (h : s.node.serial.rx = none) : Wakes (.serialByte b) s := by
  have hexec : exec (.serialByte b) s = .next { s with node := s.node.takeByte b } := rfl
  unfold Node.takeByte at hexec
  simp only [h] at hexec
  by_cases hb : b = 0x7E
  · rw [if_pos (beq_iff_eq.mpr hb)] at hexec
    exact .of_settleWoken hexec rfl
  · rw [if_neg (fun hc => hb (beq_iff_eq.mp hc))] at hexec
    exact .of_woken hexec rfl

end

/-! ## The start of the oscillator -/

theorem exec_oscillatorStart {s : State} (h : s.node.power.oscillator = .starting) : exec .oscillatorStart s = .next { s with
    node := (Node.settleOscillator { s.node with power := { s.node.power with oscillator := .running } }).settleSerial } := by
  have hexec : exec .oscillatorStart s = execOscillatorStart s := rfl
  unfold execOscillatorStart at hexec
  simp only [h, beq_self_eq_true, if_true, State.go] at hexec
  exact hexec

theorem Engine.claims_iff (e : Engine) : e.claims = true ↔ e ≠ .idle ∧ e ≠ .backoff := by
  simp [Engine.claims]

/-- A claim of work stands (R162). -/
def Node.Claimed (n : Node) : Prop :=
  n.rx.state ≠ .off ∨ n.sensing.stage ≠ .idle ∨ n.sensing.buffer0.state ≠ .free ∨ n.sensing.buffer1.state ≠ .free ∨
    (n.tx.engine ≠ .idle ∧ n.tx.engine ≠ .backoff) ∨ n.serial.rx.isSome = true ∨ n.serial.answers ≠ [] ∨
    n.out.tone = true ∨ n.loader.read.isSome = true

theorem Node.claimed_iff {n : Node} (h : n.power.oscillator = .running) :
    (n.claimsNow.any || n.loader.read.isSome) = true ↔ n.Claimed := by
  simp only [Node.claimsNow, Claims.any, h, Bool.or_eq_true, bne_iff_ne, Engine.claims_iff, Bool.and_eq_true,
    Bool.not_eq_true', List.isEmpty_eq_false_iff, Node.Claimed, ne_eq, not_true_eq_false, and_false, or_false, or_assoc]

end Sys2Proof.Machine

open Sys2Proof.Machine in
/-- Settles O27: the wake sources one by one, the start, and the work that waits. -/
theorem wakeSourcesStartTheOscillator : Obligations.WakeSourcesStartTheOscillator := by
  unfold Obligations.WakeSourcesStartTheOscillator
  refine ⟨fun s c hphase hosc hcase => ?_, fun s hphase hosc => ?_, fun s hosc => ?_, fun s hosc => ?_⟩
  · have hsleeps : s.node.power.phase.sleeps = true := by rcases hphase with h | h <;> rw [h] <;> rfl
    have hwakes : Wakes c s := by
      rcases hcase with ⟨hdue, hnot, hrx⟩ | ⟨rfl, hrun, hcount⟩ | ⟨rfl, hp, hoff, hdiv⟩ | rfl | rfl | ⟨⟨b, rfl⟩, hrx⟩
      · exact wakes_of_due c hdue hnot hrx
      · exact wakes_countStageUnderflow hrun hcount
      · exact wakes_channelCheck hp hoff hdiv
      · exact wakes_tamperLineChange
      · exact wakes_testInputChange
      · exact wakes_serialByte b hrx
    exact hwakes.woke hsleeps hosc
  · obtain ⟨k, hk⟩ : ∃ k : Node, k = { s.node with power := { s.node.power with oscillator := .running } } := ⟨_, rfl⟩
    have hexec := exec_oscillatorStart hosc
    rw [← hk] at hexec
    have hkosc : k.power.oscillator = .running := by rw [hk]
    have hkphase : k.power.phase = s.node.power.phase := by rw [hk]
    have hnot : (k.power.phase == .run || k.power.phase == .startUp) = false := by
      rw [hkphase]
      rcases hphase with h | h <;> rw [h] <;> rfl
    obtain ⟨osc, hoscAfter⟩ : ∃ osc, osc = oscillatorAfter k.power.phase k.claimsNow.any k.loader.read.isSome
      k.power.oscillator := ⟨_, rfl⟩
    obtain ⟨line, hline⟩ : ∃ line : Serial, line = if osc = .running then s.node.serial.kick else s.node.serial := ⟨_, rfl⟩
    have hoscillator : osc = if k.claimsNow.any || k.loader.read.isSome then .running else .stopped := by
      rw [hoscAfter]
      unfold oscillatorAfter
      simp only [hnot, hkosc]
      rfl
    have hclaimed : (k.claimsNow.any || k.loader.read.isSome) = true ↔ k.Claimed := Node.claimed_iff hkosc
    refine ⟨k.claimsNow, osc, line, ?_, ?_, fun hrun hidle hanswers => ?_, fun hquiet => ?_, ?_⟩
    · rw [hexec]
      have hsettled : k.settleOscillator.settleSerial = { s.node with
          power := { s.node.power with claims := k.claimsNow, oscillator := osc }, serial := line } := by
        have hsame : k.settleOscillator = { s.node with
            power := { s.node.power with claims := k.claimsNow, oscillator := osc } } := by
          rw [hoscAfter, hk]
          rfl
        have hstart : (s.node.power.phase == .startUp) = false := by
          rcases hphase with h | h <;> rw [h] <;> rfl
        rw [hsame, hline]
        unfold Node.settleSerial
        by_cases hrun : osc = .running
        · simp only [hstart, hrun, if_true]
          rfl
        · simp only [hstart, hrun, if_false]
          exact if_pos (by simpa using hrun)
      rw [hsettled]
    · unfold Node.claimsNow
      simp [hkosc]
    · rw [hline, if_pos hrun, Serial.kick_answer hidle hanswers]
    · rw [hline]
      rcases hquiet with h | h | ⟨hanswers, hpanel⟩
      · rw [if_neg (by rw [h]; nofun)]
      · rw [Serial.kick_of_busy h]
        exact ite_self _
      · by_cases hidle : s.node.serial.tx = .idle
        · rw [Serial.kick_none hidle hanswers hpanel]
          exact ite_self _
        · rw [Serial.kick_of_busy hidle]
          exact ite_self _
    · intro claimed
      have hsame : k.Claimed ↔ claimed := by rw [hk]; exact Iff.rfl
      rw [← hsame, ← hclaimed]
      refine ⟨fun h => ?_, fun h => ?_⟩
      · rw [hoscillator, if_pos h]
      · rw [hoscillator, if_neg h]
  · have hexec : exec .oscillatorStart s = execOscillatorStart s := rfl
    unfold execOscillatorStart at hexec
    rw [hexec]
    simp only [beq_eq_false_iff_ne.mpr hosc, Bool.false_eq_true, if_false]
    rfl
  · have hnot : (s.node.power.oscillator == .running) = false := beq_eq_false_iff_ne.mpr hosc
    have hnot' : (s.node.power.oscillator != .running) = true := bne_iff_ne.mpr hosc
    refine ⟨?_, ?_, ?_, fun level => ?_, fun read noise => ?_⟩
    · simp only [exec, execStageStart, hnot, Bool.false_eq_true, if_false]
      rfl
    · simp only [exec, execQuietGap, Node.hearsQuiet, hnot, Bool.and_false, Bool.false_and, Bool.false_eq_true, if_false]
      rfl
    · simp only [exec, execWindowBoundary, hnot, Bool.and_false, Bool.false_eq_true, if_false]
      rfl
    · simp only [exec, execSyncFound, hnot, Bool.and_false, Bool.false_eq_true, if_false]
      rfl
    · simp only [exec, execConfigAttempt, hnot', Bool.or_true, if_true]
      split <;> rfl
end

section
/-! The end of a supervision period (sections 3.5, 3.6 and 6.4): what it changes, part by part. -/

namespace Sys2Proof.Machine

/-! ## What the work of a period end leaves -/

/-- `t` comes of `n` by requests, reports and changes of the Peer Table. -/
structure Node.Supervises (n t : Node) : Prop where
  clock : t.clock = n.clock
  sensing : t.sensing = n.sensing
  evidence : t.evidence = n.evidence
  rx : t.rx = n.rx
  power : t.power = n.power
  loader : t.loader = n.loader
  rng : t.tx.rng = n.tx.rng
  seen : t.relay.seen.map SeenEntry.plain = n.relay.seen.map SeenEntry.plain

theorem Node.Supervises.refl (n : Node) : n.Supervises n := ⟨rfl, rfl, rfl, rfl, rfl, rfl, rfl, rfl⟩

theorem Node.Supervises.trans {a b c : Node} (h : a.Supervises b) (k : b.Supervises c) : a.Supervises c where
  clock := k.clock.trans h.clock
  sensing := k.sensing.trans h.sensing
  evidence := k.evidence.trans h.evidence
  rx := k.rx.trans h.rx
  power := k.power.trans h.power
  loader := k.loader.trans h.loader
  rng := k.rng.trans h.rng
  seen := k.seen.trans h.seen

theorem Node.Supervises.active {n t : Node} (h : n.Supervises t) : t.active = n.active := by
  unfold Node.active
  rw [h.power]

theorem Node.Supervises.cfg {n t : Node} (h : n.Supervises t) : t.cfg = n.cfg := by
  unfold Node.cfg
  rw [h.loader]

theorem Node.Supervises.peers (n : Node) (p : PeerTable) : n.Supervises { n with peers := p } :=
  ⟨rfl, rfl, rfl, rfl, rfl, rfl, rfl, rfl⟩

theorem Node.Supervises.deliver (n : Node) (ts : List Task) : n.Supervises (n.deliver ts) where
  clock := (n.deliver_acts ts).clock
  sensing := (n.deliver_acts ts).sensing
  evidence := (n.deliver_acts ts).evidence
  rx := (n.deliver_acts ts).rx
  power := (n.deliver_acts ts).power
  loader := (n.deliver_acts ts).loader
  rng := (n.deliver_reported ts).txRng
  seen := (n.deliver_keepsBounds ts).seen

/-! ## The lost-subject list (R59) -/

/-- The lost-subject list with a subject in it: a full list first gives up its oldest (R59). -/
def withSubject (held : List Byte) (x : Byte) : List Byte :=
  if x ∈ held then held else (if 16 ≤ held.length then held.drop 1 else held) ++ [x]

/-- What a full lost-subject list gives up (R59). -/
def givenUp (held : List Byte) : List Byte := if 16 ≤ held.length then held.take 1 else []

theorem Node.recordLost_listed {n : Node} {a : Byte} (h : a ∈ n.peers.lostSubjects) : n.recordLost a = n := by
  unfold Node.recordLost
  exact if_pos (by simpa using h)

theorem Node.recordLost_new {n : Node} {a : Byte} (h : a ∉ n.peers.lostSubjects) :
    n.recordLost a =
      ({ n with peers := { n.peers with lostSubjects := withSubject n.peers.lostSubjects a } } : Node).deliver
        ((givenUp n.peers.lostSubjects).map (fun b => Task.clear .peerLost (some b)) ++ [.raise .peerLost (some a)]) := by
  unfold Node.recordLost withSubject givenUp
  rw [if_neg (by simpa using h), if_neg h]
  by_cases hfull : 16 ≤ n.peers.lostSubjects.length
  · simp only [hfull, decide_true, if_true]
  · simp only [hfull, decide_false, Bool.false_eq_true, if_false]

theorem Node.recordLost_peers (n : Node) (a : Byte) :
    (n.recordLost a).peers = { n.peers with lostSubjects := withSubject n.peers.lostSubjects a } := by
  by_cases h : a ∈ n.peers.lostSubjects
  · rw [Node.recordLost_listed h, withSubject, if_pos h]
  · rw [Node.recordLost_new h, (Node.deliver_acts _ _).peers]

theorem Node.recordLost_supervises (n : Node) (a : Byte) : n.Supervises (n.recordLost a) := by
  by_cases h : a ∈ n.peers.lostSubjects
  · rw [Node.recordLost_listed h]; exact .refl n
  · rw [Node.recordLost_new h]; exact (Node.Supervises.peers n _).trans (.deliver _ _)

/-- A recorded loss requests PEER_LOST items only. -/
theorem Node.recordLost_other (n : Node) (a : Byte) {x : NoticeItem} (hx : x.kind ≠ .linkStrained)
    (hlost : x.kind ≠ .peerLost) : x ∈ (n.recordLost a).alarm.notices ↔ x ∈ n.alarm.notices := by
  by_cases h : a ∈ n.peers.lostSubjects
  · rw [Node.recordLost_listed h]
  · rw [Node.recordLost_new h]
    refine Node.deliver_mem_iff hx _ _ fun t ht => ?_
    have hne : ∀ s, NoticeItem.mk .peerLost s ≠ x := fun s hs => hlost (hs ▸ rfl)
    rcases List.mem_append.mp ht with ht | ht
    · obtain ⟨b, -, rfl⟩ := List.mem_map.mp ht
      simpa [Task.concerns] using hne (some b)
    · rw [List.mem_singleton.mp ht]
      simpa [Task.concerns] using hne (some a)

/-! ## PEER_LOST follows the lost-subject list -/

/-- The item that reports a lost subject. -/
def lostItem (x : Byte) : NoticeItem := NoticeItem.mk .peerLost (some x)

/-- From `n` to `t` PEER_LOST comes to stand for the subjects that came to the list, and ends for those that left it. -/
def Node.ReportsLosses (n t : Node) : Prop :=
  ∀ x, (x ∈ t.peers.lostSubjects → (x ∉ n.peers.lostSubjects ∨ lostItem x ∈ n.alarm.notices) →
      lostItem x ∈ t.alarm.notices) ∧
    (x ∉ t.peers.lostSubjects → (x ∈ n.peers.lostSubjects ∨ lostItem x ∉ n.alarm.notices) →
      lostItem x ∉ t.alarm.notices)

theorem Node.ReportsLosses.of_same {n t : Node} (hlist : t.peers.lostSubjects = n.peers.lostSubjects)
    (hitems : ∀ x, lostItem x ∈ t.alarm.notices ↔ lostItem x ∈ n.alarm.notices) : n.ReportsLosses t := by
  intro x
  rw [hlist, hitems]
  exact ⟨fun hm h => h.resolve_left (fun hn => hn hm), fun hn h => h.resolve_left hn⟩

theorem Node.ReportsLosses.trans {a b c : Node} (h : a.ReportsLosses b) (k : b.ReportsLosses c) :
    a.ReportsLosses c := by
  intro x
  obtain ⟨hstands, hends⟩ := h x
  obtain ⟨kstands, kends⟩ := k x
  refine ⟨fun hc ha => kstands hc ?_, fun hc ha => kends hc ?_⟩
  · by_cases hb : x ∈ b.peers.lostSubjects
    · exact .inr (hstands hb ha)
    · exact .inl hb
  · by_cases hb : x ∈ b.peers.lostSubjects
    · exact .inl hb
    · exact .inr (hends hb ha)

/-- The subject given up is in the list no more, since the list holds no one twice. -/
theorem mem_withSubject {held : List Byte} (hnodup : held.Nodup) {a : Byte} (ha : a ∉ held) (x : Byte) :
    x ∈ withSubject held a ↔ x = a ∨ x ∈ held ∧ x ∉ givenUp held := by
  unfold withSubject givenUp
  rw [if_neg ha]
  by_cases hfull : 16 ≤ held.length
  · simp only [hfull, if_true, List.mem_append, List.mem_singleton]
    cases held with
    | nil => simp
    | cons y ys =>
      have hy : y ∉ ys := (List.nodup_cons.mp hnodup).1
      simp only [List.drop_succ_cons, List.drop_zero, List.take_succ_cons, List.take_zero, List.mem_cons,
        List.mem_singleton, List.not_mem_nil, or_false]
      constructor
      · rintro (h | h)
        · exact .inr ⟨.inr h, fun he => hy (he ▸ h)⟩
        · exact .inl h
      · rintro (h | ⟨h, hne⟩)
        · exact .inr h
        · exact .inl (h.resolve_left hne)
  · simp only [hfull, if_false, List.mem_append, List.mem_singleton, List.not_mem_nil, not_false_eq_true, and_true]
    exact or_comm

theorem givenUp_subset (held : List Byte) : ∀ x ∈ givenUp held, x ∈ held := by
  unfold givenUp
  split
  · exact fun x hx => List.mem_of_mem_take hx
  · exact fun x hx => nomatch hx

theorem Node.recordLost_reports {n : Node} (hact : n.active = true) (hnodup : n.peers.lostSubjects.Nodup) (a : Byte) :
    n.ReportsLosses (n.recordLost a) := by
  by_cases ha : a ∈ n.peers.lostSubjects
  · rw [Node.recordLost_listed ha]
    exact .of_same rfl fun _ => Iff.rfl
  · intro x
    rw [Node.recordLost_peers, Node.recordLost_new ha]
    simp only [mem_withSubject hnodup ha]
    refine ⟨fun hx hbefore => Node.deliver_raised (by decide) _ _ hact (fun hclear => ?_) ?_,
      fun hx hbefore => Node.deliver_cleared (by decide) _ _ hact (fun hraise => ?_) ?_⟩
    · have hgiven : x ∈ givenUp n.peers.lostSubjects := by simpa using hclear
      rcases hx with rfl | ⟨-, hkept⟩
      · exact ha (givenUp_subset _ _ hgiven)
      · exact hkept hgiven
    · rcases hx with rfl | ⟨hx, -⟩
      · exact .inr (by simp)
      · exact .inl (hbefore.resolve_left (fun h => h hx))
    · exact hx (.inl (by simpa using hraise))
    · refine hbefore.symm.imp id fun hmem => ?_
      have hgiven : x ∈ givenUp n.peers.lostSubjects := by
        by_contra hg
        exact hx (.inr ⟨hmem, hg⟩)
      simpa using hgiven

/-! ## All the losses of a period -/

section
variable (xs : List (Nat × Peer))

/-- The losses of the list recorded, one after another. -/
def Node.recordAll (n : Node) : Node := xs.foldl (fun m x => m.recordLost x.2.address) n

theorem Node.recordAll_peers : ∀ n : Node, (n.recordAll xs).peers = { n.peers with
    lostSubjects := (xs.map (fun x => x.2.address)).foldl withSubject n.peers.lostSubjects } := by
  induction xs with
  | nil => exact fun n => rfl
  | cons x xs ih =>
    intro n
    show ((n.recordLost x.2.address).recordAll xs).peers = _
    rw [ih, Node.recordLost_peers]
    rfl

theorem Node.recordAll_supervises : ∀ n : Node, n.Supervises (n.recordAll xs) := by
  induction xs with
  | nil => exact fun n => .refl n
  | cons x xs ih => exact fun n => (n.recordLost_supervises _).trans (ih _)

theorem Node.recordAll_other {y : NoticeItem} (hy : y.kind ≠ .linkStrained) (hlost : y.kind ≠ .peerLost) :
    ∀ n : Node, y ∈ (n.recordAll xs).alarm.notices ↔ y ∈ n.alarm.notices := by
  induction xs with
  | nil => exact fun n => Iff.rfl
  | cons x xs ih => exact fun n => (ih _).trans (n.recordLost_other _ hy hlost)

theorem withSubject_nodup {held : List Byte} (h : held.Nodup) (a : Byte) : (withSubject held a).Nodup := by
  unfold withSubject
  split
  · exact h
  · next ha =>
    refine List.Nodup.append ?_ (List.nodup_singleton a) ?_
    · split
      · exact h.sublist (List.drop_sublist 1 _)
      · exact h
    · refine List.disjoint_singleton.mpr fun hm => ha ?_
      split at hm
      · exact List.mem_of_mem_drop hm
      · exact hm

theorem Node.recordAll_reports : ∀ n : Node, n.active = true → n.peers.lostSubjects.Nodup →
    n.ReportsLosses (n.recordAll xs) := by
  induction xs with
  | nil => exact fun n _ _ => .of_same rfl fun _ => Iff.rfl
  | cons x xs ih =>
    intro n hact hnodup
    refine (Node.recordLost_reports hact hnodup x.2.address).trans (ih _ ?_ ?_)
    · exact (n.recordLost_supervises _).active.trans hact
    · rw [Node.recordLost_peers]
      exact withSubject_nodup hnodup _

end

theorem Node.lossesRecorded_eq (n : Node) : n.lossesRecorded =
    n.supervised.recordAll ((n.peers.falling n.clock).filter (fun x => x.2.twoWay)) := rfl

theorem Node.lossesRecorded_supervises (n : Node) : n.Supervises n.lossesRecorded :=
  (Node.Supervises.peers n _).trans (Node.recordAll_supervises _ _)

/-! ## The conflict state (R47) -/

theorem Node.conflictPeriod_supervises (n : Node) : n.Supervises n.conflictPeriod := by
  unfold Node.conflictPeriod
  simp only []
  split
  · split
    · exact (Node.Supervises.peers n _).trans (.deliver _ _)
    · exact .peers n _
  · exact .peers n _

/-- The quiet count comes to its third period. -/
theorem Node.conflictPeriod_ends {n : Node} (hr : n.peers.conflictRaised = true) (hh : n.peers.conflictHeard = false)
    (hq : 2 ≤ n.peers.quietCount) : n.conflictPeriod =
      ({ n with peers := { n.peers with conflictRaised := false, quietCount := 0 } } : Node).deliver
        [.clear .addressConflict (some n.cfg.address)] := by
  have h3 : 3 ≤ n.peers.quietCount + 1 := by omega
  simp [Node.conflictPeriod, hr, hh, h3]

theorem Node.conflictPeriod_counts {n : Node} (hr : n.peers.conflictRaised = true) (hh : n.peers.conflictHeard = false)
    (hq : ¬2 ≤ n.peers.quietCount) :
    n.conflictPeriod = { n with peers := { n.peers with quietCount := n.peers.quietCount + 1 } } := by
  have h3 : ¬3 ≤ n.peers.quietCount + 1 := by omega
  simp [Node.conflictPeriod, hr, hh, h3]

theorem Node.conflictPeriod_rests {n : Node}
    (h : ¬(n.peers.conflictRaised = true ∧ n.peers.conflictHeard = false)) :
    n.conflictPeriod = { n with peers := { n.peers with conflictHeard := false } } := by
  unfold Node.conflictPeriod
  exact if_neg (by simpa using h)

/-- What the conflict state's period leaves of the Peer Table. -/
theorem Node.conflictPeriod_table (n : Node) : n.conflictPeriod.peers.entries = n.peers.entries ∧
    n.conflictPeriod.peers.lossOrder = n.peers.lossOrder ∧
    n.conflictPeriod.peers.lostSubjects = n.peers.lostSubjects ∧
    n.conflictPeriod.peers.listed = n.peers.listed ∧ n.conflictPeriod.peers.conflictHeard = false := by
  by_cases h : n.peers.conflictRaised = true ∧ n.peers.conflictHeard = false
  · by_cases hq : 2 ≤ n.peers.quietCount
    · rw [Node.conflictPeriod_ends h.1 h.2 hq, (Node.deliver_acts _ _).peers]
      exact ⟨rfl, rfl, rfl, rfl, h.2⟩
    · rw [Node.conflictPeriod_counts h.1 h.2 hq]
      exact ⟨rfl, rfl, rfl, rfl, h.2⟩
  · rw [Node.conflictPeriod_rests h]
    exact ⟨rfl, rfl, rfl, rfl, rfl⟩

theorem Node.conflictPeriod_other (n : Node) {x : NoticeItem} (hx : x.kind ≠ .linkStrained)
    (hconflict : x.kind ≠ .addressConflict) : x ∈ n.conflictPeriod.alarm.notices ↔ x ∈ n.alarm.notices := by
  by_cases h : n.peers.conflictRaised = true ∧ n.peers.conflictHeard = false
  · by_cases hq : 2 ≤ n.peers.quietCount
    · rw [Node.conflictPeriod_ends h.1 h.2 hq]
      refine Node.deliver_mem_iff hx _ _ fun t ht => ?_
      rw [List.mem_singleton.mp ht]
      have hne : ∀ s, NoticeItem.mk .addressConflict s ≠ x := fun s hs => hconflict (hs ▸ rfl)
      simpa [Task.concerns] using hne (some n.cfg.address)
    · rw [Node.conflictPeriod_counts h.1 h.2 hq]
  · rw [Node.conflictPeriod_rests h]

/-! ## The period end as a whole -/

/-- The losses recorded and the conflict state judged. -/
def Node.judgedPeriod (n : Node) : Node := n.lossesRecorded.conflictPeriod

theorem Node.judgedPeriod_supervises (n : Node) : n.Supervises n.judgedPeriod :=
  n.lossesRecorded_supervises.trans (Node.conflictPeriod_supervises _)

/-- The beacon-listing report, before the next period starts. -/
def Node.reportedPeriod (n : Node) : Node := n.judgedPeriod.unlisted.deliver [.echo n.judgedPeriod.peers.listed]

theorem Node.endPeriod_started (n : Node) : n.endPeriod = n.reportedPeriod.startPeriod := n.endPeriod_eq

theorem Node.reportedPeriod_supervises (n : Node) : n.Supervises n.reportedPeriod :=
  n.judgedPeriod_supervises.trans ((Node.Supervises.peers _ _).trans (.deliver _ _))

theorem Node.endPeriod_peers (n : Node) : n.endPeriod.peers = { n.judgedPeriod.peers with
    listed := false, periodEnd := some (later n.clock n.cfg.period) } := by
  have hs := n.reportedPeriod_supervises
  have hpeers : n.reportedPeriod.peers = n.judgedPeriod.unlisted.peers := (Node.deliver_acts _ _).peers
  rw [n.endPeriod_started]
  show ({ n.reportedPeriod.peers with periodEnd := some (later n.reportedPeriod.clock n.reportedPeriod.cfg.period) } :
    PeerTable) = _
  rw [hpeers, hs.clock, hs.cfg]
  rfl

theorem Node.startPeriod_alarm (n : Node) : n.startPeriod.alarm = n.alarm := rfl
theorem Node.startPeriod_link (n : Node) : n.startPeriod.link = n.link := rfl
theorem Node.startPeriod_relay (n : Node) : n.startPeriod.relay = n.relay := rfl
theorem Node.startPeriod_rx (n : Node) : n.startPeriod.rx = n.rx := rfl
theorem Node.startPeriod_sensing (n : Node) : n.startPeriod.sensing = n.sensing := rfl
theorem Node.startPeriod_evidence (n : Node) : n.startPeriod.evidence = n.evidence := rfl
theorem Node.startPeriod_rng (n : Node) : n.startPeriod.tx.rng = rngDraw n.tx.rng := rfl
theorem Node.startPeriod_beaconDue (n : Node) :
    n.startPeriod.tx.beaconDue = some (later n.clock ((rngDraw n.tx.rng).toNat % 2048)) := rfl
theorem Node.startPeriod_halfMark (n : Node) :
    n.startPeriod.tx.halfMark = some (later n.clock (n.cfg.period / 2)) := rfl

theorem Node.endPeriod_alarm (n : Node) : n.endPeriod.alarm = n.reportedPeriod.alarm := by
  rw [n.endPeriod_started, Node.startPeriod_alarm]

theorem Node.endPeriod_link (n : Node) : n.endPeriod.link = n.reportedPeriod.link := by
  rw [n.endPeriod_started, Node.startPeriod_link]

theorem Node.reportedPeriod_items (n : Node) {x : NoticeItem} (hx : x.kind ≠ .linkStrained) :
    x ∈ n.reportedPeriod.alarm.notices ↔ x ∈ n.judgedPeriod.alarm.notices := by
  refine (Node.deliver_mem_iff hx _ _ fun t ht => ?_).trans Iff.rfl
  rw [List.mem_singleton.mp ht]
  rfl

theorem exec_supervisionPeriodEnd {s : State} (h : due s.node.clock s.node.peers.periodEnd = true) :
    exec .supervisionPeriodEnd s = .next { s with node := s.node.endPeriod.settleWoken } := by
  have hexec : exec .supervisionPeriodEnd s = execSupervisionPeriodEnd s := rfl
  unfold execSupervisionPeriodEnd at hexec
  simpa only [h, if_true, State.go] using hexec

/-! ## The newly LOST (R57) -/

theorem Peer.falls_iff (p : Peer) : p.falls = true ↔ p.state ≠ .lost ∧ p.heard = false ∧ 2 ≤ p.missed := by
  simp only [Peer.falls, Bool.and_eq_true, bne_iff_ne, ne_eq, Bool.not_eq_true', decide_eq_true_eq, and_assoc]
  refine and_congr_right fun _ => and_congr_right fun _ => ?_
  omega

theorem fallingFrom_some (i : Nat) (p : Peer) (rest : List (Option Peer)) : fallingFrom i (some p :: rest) =
    if p.falls then (i, p) :: fallingFrom (i + 1) rest else fallingFrom (i + 1) rest := rfl

theorem mem_fallingFrom (es : List (Option Peer)) : ∀ (i j : Nat) (p : Peer), (j, p) ∈ fallingFrom i es ↔
    ∃ k, j = i + k ∧ es[k]? = some (some p) ∧ p.falls = true := by
  induction es with
  | nil => intro i j p; simp [fallingFrom]
  | cons e es ih =>
    intro i j p
    have hrest : ((j, p) ∈ fallingFrom (i + 1) es) ↔
        ∃ k, j = i + (k + 1) ∧ (e :: es)[k + 1]? = some (some p) ∧ p.falls = true := by
      rw [ih]
      refine exists_congr fun k => ?_
      rw [List.getElem?_cons_succ, show i + 1 + k = i + (k + 1) by omega]
    have hhead : (∃ k, j = i + k ∧ (e :: es)[k]? = some (some p) ∧ p.falls = true) ↔
        (j = i ∧ e = some p ∧ p.falls = true) ∨ (j, p) ∈ fallingFrom (i + 1) es := by
      rw [hrest]
      constructor
      · rintro ⟨k, hk, he, hf⟩
        cases k with
        | zero => exact .inl ⟨hk, by simpa using he, hf⟩
        | succ k => exact .inr ⟨k, hk, he, hf⟩
      · rintro (⟨hj, he, hf⟩ | ⟨k, hk, he, hf⟩)
        · exact ⟨0, hj, by simp [he], hf⟩
        · exact ⟨k + 1, hk, he, hf⟩
    rw [hhead]
    cases e with
    | none => simp [fallingFrom]
    | some q =>
      rw [fallingFrom_some]
      split
      · next hq =>
        rw [List.mem_cons, Prod.mk.injEq]
        refine or_congr ⟨?_, ?_⟩ Iff.rfl
        · rintro ⟨hj, rfl⟩; exact ⟨hj, rfl, hq⟩
        · rintro ⟨hj, he, -⟩; exact ⟨hj, (Option.some.inj he).symm⟩
      · next hq =>
        refine ⟨.inr, fun h => h.resolve_left ?_⟩
        rintro ⟨-, he, hf⟩
        exact hq (Option.some.inj he ▸ hf)

theorem fallingFrom_ordered (es : List (Option Peer)) : ∀ i,
    (fallingFrom i es).Pairwise (fun x y => x.1 < y.1) := by
  induction es with
  | nil => exact fun i => .nil
  | cons e es ih =>
    intro i
    cases e with
    | none => exact ih (i + 1)
    | some p =>
      rw [fallingFrom_some]
      split
      · refine List.pairwise_cons.mpr ⟨fun x hx => ?_, ih (i + 1)⟩
        obtain ⟨k, hk, -⟩ := (mem_fallingFrom es (i + 1) x.1 x.2).mp hx
        omega
      · exact ih (i + 1)

theorem PeerTable.mem_falling (t : PeerTable) (now : Stamp) (i : Nat) (p : Peer) : (i, p) ∈ t.falling now ↔
    t.entries[i]? = some (some p) ∧ p.state ≠ .lost ∧ p.heard = false ∧ 2 ≤ p.missed := by
  unfold PeerTable.falling
  rw [(sortBy_perm _ _).mem_iff, mem_fallingFrom]
  simp only [Nat.zero_add, Peer.falls_iff]
  exact ⟨fun ⟨k, hk, he, hf⟩ => ⟨hk ▸ he, hf⟩, fun ⟨he, hf⟩ => ⟨i, rfl, he, hf⟩⟩

theorem PeerTable.falling_nodup (t : PeerTable) (now : Stamp) : ((t.falling now).map (fun x => x.1)).Nodup := by
  have hsame : ((t.falling now).map (fun x => x.1)).Perm ((fallingFrom 0 t.entries).map (fun x => x.1)) :=
    (sortBy_perm _ _).map _
  refine hsame.nodup_iff.mpr (List.pairwise_map.mpr ?_)
  exact (fallingFrom_ordered t.entries 0).imp Nat.ne_of_lt

theorem elapsed_injective {now a b : Stamp} (h : elapsed now a = elapsed now b) : a = b := by
  have hsub : now - a = now - b := BitVec.eq_of_toNat_eq h
  bv_omega

/-- Older before newer, equal stamps by the lower index (R57). -/
theorem PeerTable.falling_ordered (t : PeerTable) (now : Stamp) : (t.falling now).Pairwise (fun x y =>
    elapsed now y.2.heardAt < elapsed now x.2.heardAt ∨ (x.2.heardAt = y.2.heardAt ∧ x.1 < y.1)) := by
  have hsorted : (t.falling now).Pairwise _ := sortBy_sorted
    (before := fun x y : Nat × Peer => decide (elapsed now y.2.heardAt < elapsed now x.2.heardAt))
    (came := fun x y => x.1 < y.1)
    (fun x y h => by simp only [decide_eq_true_eq, decide_eq_false_iff_not] at h ⊢; omega)
    (fun x y z h h' => by simp only [decide_eq_true_eq, decide_eq_false_iff_not] at h h' ⊢; omega)
    _ (fallingFrom_ordered t.entries 0)
  refine List.Pairwise.imp (fun {x y} h => ?_) hsorted
  rcases h with h | ⟨h, hcame⟩
  · exact .inl (of_decide_eq_true h)
  · have hle := of_decide_eq_false h
    rcases Nat.lt_or_ge (elapsed now y.2.heardAt) (elapsed now x.2.heardAt) with hlt | hge
    · exact .inl hlt
    · exact .inr ⟨elapsed_injective (now := now) (by omega), hcame⟩

/-- The addresses of the two-way ones, in their order. -/
theorem PeerTable.falling_addresses (t : PeerTable) (now : Stamp) :
    ((t.falling now).map (fun x => x.1)).filterMap (fun i =>
        ((t.entries[i]?).join.filter (fun p => p.twoWay)).map (fun p => p.address)) =
      ((t.falling now).filter (fun x => x.2.twoWay)).map (fun x => x.2.address) := by
  rw [List.filterMap_map, ← List.filterMap_eq_map, List.filterMap_filter]
  refine List.filterMap_congr fun x hx => ?_
  obtain ⟨he, -⟩ := (t.mem_falling now x.1 x.2).mp hx
  simp only [Function.comp_apply, he, Option.join_some]
  cases htwo : x.2.twoWay <;> simp [htwo]

/-! ## An entry's period -/

theorem Peer.supervise_lost {p : Peer} (h : p.state = .lost) : p.supervise = p := by
  simp [Peer.supervise, h]

theorem Peer.supervise_heard {p : Peer} (h : p.state ≠ .lost) (hh : p.heard = true) :
    p.supervise = { p with heard := false } := by
  simp [Peer.supervise, h, hh]

theorem Peer.supervise_unheard {p : Peer} (h : p.state ≠ .lost) (hh : p.heard = false) : p.supervise =
    { p with missed := p.missed + 1, state := if 3 ≤ p.missed + 1 then .lost else .stale } := by
  simp [Peer.supervise, h, hh]

theorem Peer.agePv_lost {p : Peer} {now : Stamp} (h : p.state = .lost) : p.agePv now = { p with pv := none } := by
  simp [Peer.agePv, h]

theorem Peer.agePv_held {p : Peer} {now : Stamp} (h : p.state ≠ .lost) : p.agePv now = { p with
    pv := p.pv.filter (fun v => decide (elapsed now v.stamp ≤ 20480)) } := by
  simp only [Peer.agePv, beq_iff_eq, h, if_false]
  rfl

/-- An entry after a period end (R57, R62). -/
def Peer.periodEnded (p : Peer) (now : Stamp) : Peer := p.supervise.agePv now

theorem Peer.periodEnded_heard {p : Peer} {now : Stamp} (h : p.state ≠ .lost) (hh : p.heard = true) :
    p.periodEnded now = { p with
      heard := false
      pv := p.pv.filter (fun v => decide (elapsed now v.stamp ≤ 20480)) } := by
  have hstate : p.supervise.state ≠ .lost := by rw [Peer.supervise_heard h hh]; exact h
  rw [Peer.periodEnded, Peer.agePv_held hstate, Peer.supervise_heard h hh]

theorem Peer.periodEnded_stale {p : Peer} {now : Stamp} (h : p.state ≠ .lost) (hh : p.heard = false)
    (hm : p.missed < 2) : p.periodEnded now = { p with
      missed := p.missed + 1, state := .stale
      pv := p.pv.filter (fun v => decide (elapsed now v.stamp ≤ 20480)) } := by
  have hs : p.supervise = { p with missed := p.missed + 1, state := .stale } := by
    rw [Peer.supervise_unheard h hh, if_neg (by omega)]
  have hstate : p.supervise.state ≠ .lost := by rw [hs]; nofun
  rw [Peer.periodEnded, Peer.agePv_held hstate, hs]

theorem Peer.periodEnded_falls {p : Peer} {now : Stamp} (h : p.state ≠ .lost) (hh : p.heard = false)
    (hm : 2 ≤ p.missed) : p.periodEnded now = { p with missed := p.missed + 1, state := .lost, pv := none } := by
  have hs : p.supervise = { p with missed := p.missed + 1, state := .lost } := by
    rw [Peer.supervise_unheard h hh, if_pos (by omega)]
  rw [Peer.periodEnded, Peer.agePv_lost (by rw [hs]), hs]

theorem Peer.periodEnded_lost {p : Peer} {now : Stamp} (h : p.state = .lost) :
    p.periodEnded now = { p with pv := none } := by
  rw [Peer.periodEnded, Peer.supervise_lost h, Peer.agePv_lost h]

/-- The fields that supervision leaves (R57, R62). -/
theorem Peer.periodEnded_same (p : Peer) (now : Stamp) : (p.periodEnded now).address = p.address ∧
    (p.periodEnded now).zone = p.zone ∧ (p.periodEnded now).role = p.role ∧ (p.periodEnded now).level = p.level ∧
    (p.periodEnded now).heardAt = p.heardAt ∧ (p.periodEnded now).twoWay = p.twoWay ∧
    (p.periodEnded now).alarm = p.alarm := by
  by_cases h : p.state = .lost
  · rw [Peer.periodEnded_lost h]
    exact ⟨rfl, rfl, rfl, rfl, rfl, rfl, rfl⟩
  · cases hh : p.heard with
    | true =>
      rw [Peer.periodEnded_heard h hh]
      exact ⟨rfl, rfl, rfl, rfl, rfl, rfl, rfl⟩
    | false =>
      rcases Nat.lt_or_ge p.missed 2 with hm | hm
      · rw [Peer.periodEnded_stale h hh hm]
        exact ⟨rfl, rfl, rfl, rfl, rfl, rfl, rfl⟩
      · rw [Peer.periodEnded_falls h hh hm]
        exact ⟨rfl, rfl, rfl, rfl, rfl, rfl, rfl⟩

/-! ## The Peer Table after a period end -/

theorem Node.lossesRecorded_peers (n : Node) : n.lossesRecorded.peers = { n.supervised.peers with
    lostSubjects := (((n.peers.falling n.clock).filter (fun x => x.2.twoWay)).map (fun x => x.2.address)).foldl
      withSubject n.peers.lostSubjects } := by
  rw [n.lossesRecorded_eq, Node.recordAll_peers]
  rfl

theorem Node.endPeriod_entries (n : Node) :
    n.endPeriod.peers.entries = n.peers.entries.map (fun e => e.map (fun p => p.periodEnded n.clock)) := by
  obtain ⟨hentries, -⟩ := n.lossesRecorded.conflictPeriod_table
  rw [n.endPeriod_peers]
  exact hentries.trans (by rw [n.lossesRecorded_peers]; rfl)

theorem Node.endPeriod_lossOrder (n : Node) :
    n.endPeriod.peers.lossOrder = n.peers.lossOrder ++ (n.peers.falling n.clock).map (fun x => x.1) := by
  obtain ⟨-, horder, -⟩ := n.lossesRecorded.conflictPeriod_table
  rw [n.endPeriod_peers]
  exact horder.trans (by rw [n.lossesRecorded_peers]; rfl)

theorem Node.judgedPeriod_lostSubjects (n : Node) : n.judgedPeriod.peers.lostSubjects =
    (((n.peers.falling n.clock).filter (fun x => x.2.twoWay)).map (fun x => x.2.address)).foldl
      withSubject n.peers.lostSubjects := by
  obtain ⟨-, -, hlost, -⟩ := n.lossesRecorded.conflictPeriod_table
  exact hlost.trans (by rw [n.lossesRecorded_peers])

theorem Node.endPeriod_lostSubjects (n : Node) :
    n.endPeriod.peers.lostSubjects = n.judgedPeriod.peers.lostSubjects := by
  rw [n.endPeriod_peers]

/-- PEER_LOST follows the list over a whole period end (R59). -/
theorem Node.endPeriod_reports {n : Node} (hact : n.active = true) (hnodup : n.peers.lostSubjects.Nodup) :
    n.ReportsLosses n.endPeriod := by
  have hrecorded : n.ReportsLosses n.lossesRecorded :=
    (Node.ReportsLosses.of_same (t := n.supervised) rfl (fun _ => Iff.rfl)).trans
      (Node.recordAll_reports _ n.supervised hact hnodup)
  have hjudged : n.lossesRecorded.ReportsLosses n.judgedPeriod := by
    obtain ⟨-, -, hlost, -⟩ := n.lossesRecorded.conflictPeriod_table
    exact .of_same hlost fun x => n.lossesRecorded.conflictPeriod_other (x := lostItem x) (by nofun) (by nofun)
  refine (hrecorded.trans hjudged).trans (.of_same n.endPeriod_lostSubjects fun x => ?_)
  rw [n.endPeriod_alarm]
  exact n.reportedPeriod_items (x := lostItem x) (by nofun)

/-- The conflict state that the losses leave. -/
theorem Node.lossesRecorded_conflict (n : Node) :
    n.lossesRecorded.peers.conflictRaised = n.peers.conflictRaised ∧
    n.lossesRecorded.peers.conflictHeard = n.peers.conflictHeard ∧
    n.lossesRecorded.peers.quietCount = n.peers.quietCount := by
  rw [n.lossesRecorded_peers]
  exact ⟨rfl, rfl, rfl⟩

theorem Node.lossesRecorded_conflictItem (n : Node) (s : Option Byte) :
    NoticeItem.mk .addressConflict s ∈ n.lossesRecorded.alarm.notices ↔
      NoticeItem.mk .addressConflict s ∈ n.alarm.notices :=
  Node.recordAll_other _ (y := NoticeItem.mk .addressConflict s) (by nofun) (by nofun) n.supervised

theorem Node.endPeriod_conflictItem (n : Node) (s : Option Byte) :
    NoticeItem.mk .addressConflict s ∈ n.endPeriod.alarm.notices ↔
      NoticeItem.mk .addressConflict s ∈ n.lossesRecorded.conflictPeriod.alarm.notices := by
  rw [n.endPeriod_alarm]
  exact n.reportedPeriod_items (x := NoticeItem.mk .addressConflict s) (by nofun)

/-- The third quiet period ends the conflict (R47). -/
theorem Node.endPeriod_conflict_ends {n : Node} (hr : n.peers.conflictRaised = true)
    (hh : n.peers.conflictHeard = false) (hq : 2 ≤ n.peers.quietCount) :
    n.endPeriod.peers.conflictRaised = false ∧ n.endPeriod.peers.quietCount = 0 ∧
      (n.active = true → NoticeItem.mk .addressConflict (some n.cfg.address) ∉ n.endPeriod.alarm.notices) := by
  obtain ⟨hraised, hheard, hcount⟩ := n.lossesRecorded_conflict
  have hends := Node.conflictPeriod_ends (hraised.trans hr) (hheard.trans hh) (hcount ▸ hq)
  have hpeers : n.judgedPeriod.peers = { n.lossesRecorded.peers with conflictRaised := false, quietCount := 0 } := by
    unfold Node.judgedPeriod
    rw [hends, (Node.deliver_acts _ _).peers]
  rw [n.endPeriod_peers, hpeers, n.endPeriod_conflictItem, hends]
  refine ⟨rfl, rfl, fun hact => Node.deliver_cleared (by decide) _ _ ?_ (by simp) (.inr ?_)⟩
  · exact n.lossesRecorded_supervises.active.trans hact
  · rw [n.lossesRecorded_supervises.cfg]
    exact List.mem_singleton.mpr rfl

/-- Short of that, the conflict stands as it stood (R47). -/
theorem Node.endPeriod_conflict_stays {n : Node}
    (h : ¬((n.peers.conflictRaised = true ∧ n.peers.conflictHeard = false) ∧ 2 ≤ n.peers.quietCount)) (s : Option Byte) :
    n.endPeriod.peers.conflictRaised = n.peers.conflictRaised ∧
      n.endPeriod.peers.quietCount = (if n.peers.conflictRaised = true ∧ n.peers.conflictHeard = false then
        n.peers.quietCount + 1 else n.peers.quietCount) ∧
      (NoticeItem.mk .addressConflict s ∈ n.endPeriod.alarm.notices ↔
        NoticeItem.mk .addressConflict s ∈ n.alarm.notices) := by
  obtain ⟨hraised, hheard, hcount⟩ := n.lossesRecorded_conflict
  rw [n.endPeriod_conflictItem, n.endPeriod_peers, ← n.lossesRecorded_conflictItem s]
  unfold Node.judgedPeriod
  by_cases hquiet : n.peers.conflictRaised = true ∧ n.peers.conflictHeard = false
  · have hq : ¬2 ≤ n.lossesRecorded.peers.quietCount := fun hq => h ⟨hquiet, hcount ▸ hq⟩
    rw [Node.conflictPeriod_counts (hraised.trans hquiet.1) (hheard.trans hquiet.2) hq, if_pos hquiet]
    exact ⟨hraised, congrArg (· + 1) hcount, Iff.rfl⟩
  · have hrests : ¬(n.lossesRecorded.peers.conflictRaised = true ∧ n.lossesRecorded.peers.conflictHeard = false) := by
      rwa [hraised, hheard]
    rw [Node.conflictPeriod_rests hrests, if_neg hquiet]
    exact ⟨hraised, hcount, Iff.rfl⟩

/-! ## The beacon-listing report on an empty queue (R61, R152) -/

/-- What a request brings on an empty queue leaves the link counts. -/
theorem deliver_request_link {n : Node} (hq : n.tx.queue = []) (k : NoticeKind) (s : Option Byte) (d : Nat) :
    (deliver (d + 2) (.raise k s) n).link = n.link ∧ (deliver (d + 2) (.clear k s) n).link = n.link := by
  cases hact : n.active with
  | false =>
    have hraise : n.raise k s = (n, []) := by simp [Node.raise, hact]
    have hclear : n.clear k s = (n, []) := by simp [Node.clear, hact]
    constructor
    · show ((n.raise k s).2.foldl _ (n.raise k s).1 : Node).link = _
      rw [hraise]; rfl
    · show ((n.clear k s).2.foldl _ (n.clear k s).1 : Node).link = _
      rw [hclear]; rfl
  | true =>
    have hlined : ∀ m : Node, m.active = n.active → m.tx = n.tx → m.link = n.link → ∀ set,
        ((m.noticeTasks k set s).2.foldl (fun m u => deliver (d + 1) u m) (m.noticeTasks k set s).1).link = n.link := by
      intro m hma hmtx hml set
      have hmq : m.tx.queue = [] := by rw [hmtx]; exact hq
      rw [(Node.lined_of_empty (hma.trans hact) hmq).deliver_noticeTasks (by rw [hmq]; decide)]
      unfold Node.framed
      split <;> exact hml
    constructor
    · show ((n.raise k s).2.foldl (fun m u => deliver (d + 1) u m) (n.raise k s).1).link = _
      unfold Node.raise
      split
      · rfl
      · refine hlined (n.withNotice k s) (Node.record_active _ _) ?_ ?_ true
        · unfold Node.withNotice
          rw [Node.record_tx]
        · unfold Node.withNotice
          rw [Node.record_eq]
    · show ((n.clear k s).2.foldl (fun m u => deliver (d + 1) u m) (n.clear k s).1).link = _
      unfold Node.clear
      split
      · rfl
      · exact hlined (n.dropNotice k s) (by simp) (by simp) (Node.dropNotice_link _ _ _) false

/-- A report of an echo check moves the counts as R152 says, and no more, where the queue is empty. -/
theorem Node.deliver_echo_link {n : Node} (hq : n.tx.queue = []) (b : Bool) :
    (n.deliver [.echo b]).link = n.link.afterEcho b := by
  obtain ⟨m, hm⟩ : ∃ m : Node, m = (n.setLink (n.link.afterEcho b)).1 := ⟨_, rfl⟩
  have hlink : m.link = n.link.afterEcho b := by rw [hm, Node.setLink_link]
  have hmq : m.tx.queue = [] := by
    rw [hm]
    unfold Node.setLink
    simp only []
    split
    · simp [Node.isolate, Transmitter.withdrawRelays, hq]
    · exact hq
  show ((n.setLink (n.link.afterEcho b)).2.foldl (fun k u => Machine.deliver 11 u k)
    (n.setLink (n.link.afterEcho b)).1).link = _
  rw [← hm, ← hlink]
  unfold Node.setLink
  simp only []
  split
  · exact (deliver_request_link hmq .linkStrained none 9).1
  · split
    · exact (deliver_request_link hmq .linkStrained none 9).2
    · rfl

/-- An empty table loses no one. -/
theorem fallingFrom_empty (k : Nat) : ∀ i, fallingFrom i (List.replicate k none) = [] := by
  induction k with
  | zero => exact fun i => rfl
  | succ k ih => exact fun i => ih (i + 1)

theorem Node.judgedPeriod_quiet {n : Node} (he : n.peers.entries = List.replicate 16 none)
    (hr : n.peers.conflictRaised = false) :
    n.judgedPeriod = { n.supervised with peers := { n.supervised.peers with conflictHeard := false } } := by
  have hfalling : n.peers.falling n.clock = [] := by
    unfold PeerTable.falling
    rw [he, fallingFrom_empty]
    rfl
  have hrecorded : n.lossesRecorded = n.supervised := by
    rw [n.lossesRecorded_eq, hfalling]; rfl
  have hraised : n.supervised.peers.conflictRaised = false := hr
  unfold Node.judgedPeriod
  rw [hrecorded, Node.conflictPeriod_rests (by rw [hraised]; nofun)]

end Sys2Proof.Machine

open Sys2Proof.Machine in
/-- Settles O21: the period end's parts in their order; on an empty table and queue only the beacon-listing report moves
the link counts. -/
theorem periodEndSupervisesPeers : Obligations.PeriodEndSupervisesPeers := by
  unfold Obligations.PeriodEndSupervisesPeers
  constructor
  · intro s hdue
    obtain ⟨m, hm⟩ : ∃ m : Node, m = s.node.endPeriod := ⟨_, rfl⟩
    have hexec := exec_supervisionPeriodEnd hdue
    rw [← hm] at hexec
    have hf := m.settleWoken_follows
    have hs := s.node.reportedPeriod_supervises
    have hentries := s.node.endPeriod_entries
    refine ⟨_, hexec, rfl, ?_, fun i p hp => ⟨p.periodEnded s.node.clock, ?_, ?_⟩, ?_, ?_, ?_, ?_, ?_, ?_, ?_, ?_, ?_⟩
    · rw [hf.peers, hm, hentries, List.length_map]
    · rw [hf.peers, hm, hentries, List.getElem?_map, hp]
      rfl
    · obtain ⟨h1, h2, h3, h4, h5, h6, h7⟩ := p.periodEnded_same s.node.clock
      refine ⟨h1, h2, h3, h4, h5, h6, h7, fun h hh => ?_, fun h hh hmiss => ?_, fun h hh hmiss => ?_, fun h => ?_⟩
      · rw [Peer.periodEnded_heard h hh]; exact ⟨rfl, rfl, rfl, rfl⟩
      · rw [Peer.periodEnded_stale h hh hmiss]; exact ⟨rfl, rfl, rfl⟩
      · rw [Peer.periodEnded_falls h hh hmiss]; exact ⟨rfl, rfl, rfl⟩
      · rw [Peer.periodEnded_lost h]; exact ⟨h, rfl, rfl⟩
    · rw [hf.peers, hm, Node.endPeriod_peers]
    · rw [hf.peers, hm, Node.endPeriod_peers]
    · rw [hf.txRng, hm, Node.endPeriod_started, Node.startPeriod_rng, hs.rng]
    · rw [hf.txBeaconDue, hm, Node.endPeriod_started, Node.startPeriod_beaconDue, hs.rng, hs.clock]
    · rw [hf.txHalfMark, hm, Node.endPeriod_started, Node.startPeriod_halfMark, hs.clock, hs.cfg]
    · rw [hf.sensing, hm, Node.endPeriod_started, Node.startPeriod_sensing, hs.sensing]
    · rw [hf.evidence, hm, Node.endPeriod_started, Node.startPeriod_evidence, hs.evidence]
    · rw [hf.rxSlots, hm, Node.endPeriod_started, Node.startPeriod_rx, hs.rx]
    · rw [hf.relay, hm, Node.endPeriod_started, Node.startPeriod_relay]
      have hseen := congrArg (List.map (fun e : SeenEntry => (e.origin, e.seq, e.copies))) hs.seen
      rw [List.map_map, List.map_map] at hseen
      exact hseen
  · intro s hdue he hr hq
    obtain ⟨m, hm⟩ : ∃ m : Node, m = s.node.endPeriod := ⟨_, rfl⟩
    have hexec := exec_supervisionPeriodEnd hdue
    rw [← hm] at hexec
    have hjudged := Node.judgedPeriod_quiet he hr
    have hlink : m.settleWoken.link = s.node.link.afterEcho s.node.peers.listed := by
      rw [m.settleWoken_follows.link, hm, Node.endPeriod_link]
      unfold Node.reportedPeriod
      rw [Node.deliver_echo_link (by rw [hjudged]; exact hq), hjudged]
      rfl
    refine ⟨_, hexec, ?_, fun hl => ?_, fun hl => ?_⟩
    · rw [hlink]
      cases s.node.peers.listed <;> rfl
    · rw [hlink, hl]; rfl
    · rw [hlink, hl]; rfl

open Sys2Proof.Machine in
/-- Settles O22: the newly LOST come from the ordered list of the falling entries, and PEER_LOST follows the
lost-subject list through each of them. -/
theorem periodEndReportsLostPeersAndTheConflict : Obligations.PeriodEndReportsLostPeersAndTheConflict := by
  unfold Obligations.PeriodEndReportsLostPeersAndTheConflict
  intro s hdue a falls age lost conflictItem
  obtain ⟨m, hm⟩ : ∃ m : Node, m = s.node.endPeriod := ⟨_, rfl⟩
  have hexec := exec_supervisionPeriodEnd hdue
  rw [← hm] at hexec
  have hf := m.settleWoken_follows
  have hmem := s.node.peers.mem_falling s.node.clock
  have hlist : m.settleWoken.peers.lostSubjects = s.node.endPeriod.peers.lostSubjects := by rw [hf.peers, hm]
  refine ⟨_, (s.node.peers.falling s.node.clock).map (fun x => x.1), hexec, rfl, ?_, ?_, ?_, ?_, ?_, ?_, ?_, ?_, ?_⟩
  · show m.settleWoken.peers.lossOrder = _
    rw [hf.peers, hm, Node.endPeriod_lossOrder]
  · exact s.node.peers.falling_nodup _
  · intro i
    constructor
    · intro hi
      obtain ⟨x, hx, rfl⟩ := List.mem_map.mp hi
      exact ⟨x.2, (hmem x.1 x.2).mp hx⟩
    · rintro ⟨p, hp⟩
      exact List.mem_map.mpr ⟨(i, p), (hmem i p).mpr hp, rfl⟩
  · refine List.pairwise_map.mpr ((s.node.peers.falling_ordered s.node.clock).imp_of_mem fun {x y} hx hy h => ?_)
    rintro p q ⟨hp, -⟩ ⟨hq, -⟩
    obtain ⟨hx, -⟩ := (hmem x.1 x.2).mp hx
    obtain ⟨hy, -⟩ := (hmem y.1 y.2).mp hy
    obtain rfl : x.2 = p := Option.some.inj (Option.some.inj (hx.symm.trans hp))
    obtain rfl : y.2 = q := Option.some.inj (Option.some.inj (hy.symm.trans hq))
    exact h
  · show m.settleWoken.peers.lostSubjects = _
    rw [hlist, Node.endPeriod_lostSubjects, Node.judgedPeriod_lostSubjects, PeerTable.falling_addresses]
    rfl
  · intro hact hnodup x
    show (x ∈ m.settleWoken.peers.lostSubjects → _ → lostItem x ∈ m.settleWoken.alarm.notices) ∧
      (x ∉ m.settleWoken.peers.lostSubjects → _ → lostItem x ∉ m.settleWoken.alarm.notices)
    rw [hlist, hf.alarmNotices, hm]
    exact Node.endPeriod_reports hact hnodup x
  · show m.settleWoken.peers.conflictHeard = false
    obtain ⟨-, -, -, -, hheard⟩ := s.node.lossesRecorded.conflictPeriod_table
    rw [hf.peers, hm, Node.endPeriod_peers]
    exact hheard
  · rintro ⟨⟨hr, hh⟩, hq⟩
    show m.settleWoken.peers.conflictRaised = false ∧ m.settleWoken.peers.quietCount = 0 ∧
      (_ → conflictItem ∉ m.settleWoken.alarm.notices)
    rw [hf.peers, hf.alarmNotices, hm]
    exact Node.endPeriod_conflict_ends hr hh hq
  · intro h
    show m.settleWoken.peers.conflictRaised = _ ∧ m.settleWoken.peers.quietCount = _ ∧
      (conflictItem ∈ m.settleWoken.alarm.notices ↔ _)
    rw [hf.peers, hf.alarmNotices, hm]
    exact Node.endPeriod_conflict_stays h _
end

section
/-! The head's lines and the test input (section 11.3), and the start off the base (section 11.5). -/

namespace Sys2Proof.Machine

/-! ## The debounce (R175, R176) -/

theorem debounceFrom_eq (level state : Bool) (now : Stamp) :
    debounceFrom level state now = if level = state then none else some (later now 51) := by
  unfold debounceFrom
  simp only [beq_iff_eq]
  rfl

theorem exec_tamperLineChange_same {s : State} {b : Bool} (h : s.node.out.tamperLine = b) :
    exec (.tamperLineChange b) s = .next s := by
  have hexec : exec (.tamperLineChange b) s = execTamperLineChange b s := rfl
  unfold execTamperLineChange at hexec
  simpa only [h, beq_self_eq_true, if_true, State.go] using hexec

theorem exec_testInputChange_same {s : State} {b : Bool} (h : s.node.out.testLine = b) :
    exec (.testInputChange b) s = .next s := by
  have hexec : exec (.testInputChange b) s = execTestInputChange b s := rfl
  unfold execTestInputChange at hexec
  simpa only [h, beq_self_eq_true, if_true, State.go] using hexec

/-- The node with a new tamper level (R175). -/
def Node.tamperLevel (n : Node) (b : Bool) : Node :=
  { n with out := { n.out with
    tamperLine := b
    tamperDebounce := if b = n.out.offBase then none else some (later n.clock 51) } }

/-- The node with a new level of the test input (R176). -/
def Node.testLevel (n : Node) (b : Bool) : Node :=
  { n with out := { n.out with
    testLine := b
    testDebounce := if b = n.out.testPressed then none else some (later n.clock 51) } }

theorem exec_tamperLineChange_other {s : State} {b : Bool} (h : s.node.out.tamperLine ≠ b) :
    exec (.tamperLineChange b) s = s.go (s.node.tamperLevel b).woken := by
  have hexec : exec (.tamperLineChange b) s = execTamperLineChange b s := rfl
  unfold execTamperLineChange at hexec
  simp only [beq_iff_eq, h, if_false, debounceFrom_eq] at hexec
  exact hexec

theorem exec_testInputChange_other {s : State} {b : Bool} (h : s.node.out.testLine ≠ b) :
    exec (.testInputChange b) s = s.go (s.node.testLevel b).woken := by
  have hexec : exec (.testInputChange b) s = execTestInputChange b s := rfl
  unfold execTestInputChange at hexec
  simp only [beq_iff_eq, h, if_false, debounceFrom_eq] at hexec
  exact hexec

/-! ## A debounced tamper change (R175) -/

/-- The node whose debounced tamper state is its level. -/
def Node.tamperHeld (n : Node) : Node :=
  { n with out := { n.out with offBase := n.out.tamperLine, tamperDebounce := none } }

theorem Node.tamperChanged_startUp {n : Node} (h : n.power.phase = .startUp) : n.tamperChanged = n := by
  unfold Node.tamperChanged
  simp [h]

theorem Node.tamperChanged_dormant {n : Node} (h : n.power.phase = .dormant) : n.tamperChanged =
    if n.out.offBase then { n with out := { n.out with overlay := some ⟨.tamper, later n.clock 2048⟩ } } else n := by
  unfold Node.tamperChanged
  simp [h]

theorem Node.phase_of_active {n : Node} (h : n.active = true) : n.power.phase = .patrol ∨ n.power.phase = .run := by
  simpa [Node.active] using h

theorem Node.tamperChanged_active {n : Node} (h : n.active = true) :
    n.tamperChanged = n.deliver [if n.out.offBase then .raise .tamper none else .clear .tamper none] := by
  unfold Node.tamperChanged
  rcases Node.phase_of_active h with hp | hp <;> simp [hp]

theorem exec_tamperDebounceEnd {s : State} (h : due s.node.clock s.node.out.tamperDebounce = true)
    (hne : s.node.out.offBase ≠ s.node.out.tamperLine) :
    exec .tamperDebounceEnd s = .next { s with node := s.node.tamperHeld.tamperChanged.settleWoken } := by
  have hexec : exec .tamperDebounceEnd s = execTamperDebounceEnd s := rfl
  unfold execTamperDebounceEnd at hexec
  simp only [h, if_true, State.go] at hexec
  have hheld : s.node.debounceTamper = s.node.tamperHeld.tamperChanged := by
    unfold Node.debounceTamper
    exact if_neg (by simpa using hne)
  rw [hexec, hheld]

/-- What a debounced tamper change leaves of the debounced state and the sensors' side. -/
theorem Node.tamperChanged_held (n : Node) : n.tamperChanged.out.offBase = n.out.offBase ∧
    n.tamperChanged.out.tamperDebounce = n.out.tamperDebounce ∧ n.tamperChanged.evidence = n.evidence := by
  cases hp : n.power.phase with
  | startUp => rw [Node.tamperChanged_startUp hp]; exact ⟨rfl, rfl, rfl⟩
  | dormant =>
    rw [Node.tamperChanged_dormant hp]
    split <;> exact ⟨rfl, rfl, rfl⟩
  | patrol | run =>
    rw [Node.tamperChanged_active (by simp [Node.active, hp]), (Node.deliver_acts _ _).out,
      (Node.deliver_acts _ _).evidence]
    exact ⟨rfl, rfl, rfl⟩

/-- Settling leaves a node outside PATROL and RUN in its phase (R165). -/
theorem Node.settleWoken_phase_inactive {n : Node} (h : n.active = false) :
    n.settleWoken.power.phase = n.power.phase := by
  unfold Node.settleWoken
  have hact : n.wake.active = false := by simpa [Node.active] using h
  rw [Node.settle_phase, hact]
  simp

/-! ## The start off the base (R177, R179) -/

/-- The started node before it reports that it is off its base. -/
def Node.timed (n : Node) (img : Image) (clamps : List Nat) (noise : Byte) : Node :=
  Node.startPeriod (Node.seed
    { n with
      loader := ⟨some img, clamps, none, none⟩
      timer := .started
      power := n.power.started img.role n.clock
      out := { n.out with hold := n.out.hold.started n.clock } } img.address noise)

theorem Node.timed_started (n : Node) (img : Image) (clamps : List Nat) (noise : Byte) :
    n.Started img clamps noise (n.timed img clamps noise) := by
  constructor <;> rfl

theorem Node.timed_offBase (n : Node) (img : Image) (clamps : List Nat) (noise : Byte) :
    (n.timed img clamps noise).out.offBase = n.out.offBase := rfl

theorem Node.start_timed (n : Node) (img : Image) (clamps : List Nat) (noise : Byte) :
    n.start img clamps noise = (n.timed img clamps noise).deliver
      (if (n.timed img clamps noise).out.offBase then [.raise .tamper none] else []) := rfl

theorem Node.Started.active {n t : Node} {img : Image} {clamps : List Nat} {noise : Byte}
    (h : n.Started img clamps noise t) : t.active = true := by
  unfold Node.active
  rw [h.power]
  by_cases hrole : img.role = .panelAttached <;> simp [Power.started, hrole]

/-- An item that did not stand, raised on an empty queue: the item and its frame (R84). -/
theorem Node.deliver_raise_empty {n : Node} (hact : n.active = true) (hq : n.tx.queue = []) (k : NoticeKind)
    (hk : k ≠ .radio) (hn : n.alarm.notices = []) :
    (n.deliver [.raise k none]).alarm.notices = [⟨k, none⟩] ∧
    (n.deliver [.raise k none]).relay.originSeq = n.relay.originSeq + 1 ∧
    ∃ e, (n.deliver [.raise k none]).tx.queue = [e] ∧ e.frame.body = .notice k true none ∧ e.own = true ∧
      e.attempt = some 1 ∧ e.state = .waiting ∧ e.frame.hdr.seq = n.relay.originSeq := by
  have hlined := Node.lined_of_empty hact hq
  rw [hlined.deliver_raise (by rw [hq]; decide) k none (by rw [hn]; nofun)]
  unfold Node.framed
  rw [if_neg hk]
  rw [Node.pushOwn_alarm, Node.pushOwn_originSeq, Node.pushOwn_queue _ _ _ rfl]
  unfold Node.withNotice
  rw [Node.record_alarm, Node.record_relay, Node.record_tx, hq]
  refine ⟨by rw [hn]; rfl, rfl, _, rfl, rfl, rfl, rfl, rfl, ?_⟩
  show (Node.record _ _).relay.originSeq = _
  rw [Node.record_relay]

/-! ## The test input (R176) -/

/-- The node whose debounced test input is its level, timed from now or no more. -/
def Node.pressJudged (n : Node) : Node :=
  { n with out := { n.out with
    testPressed := n.out.testLine
    testDebounce := none
    hold :=
      if n.out.testLine = false then .none
      else if n.power.phase = .startUp then .startUpPress
      else .since n.clock false false } }

theorem holdAfter_eq (pressed : Bool) (phase : Phase) (now : Stamp) : holdAfter pressed phase now =
    if pressed = false then .none else if phase = .startUp then .startUpPress else .since now false false := by
  unfold holdAfter
  cases pressed <;> simp

theorem exec_testDebounceEnd {s : State} (h : due s.node.clock s.node.out.testDebounce = true)
    (hne : s.node.out.testPressed ≠ s.node.out.testLine) :
    exec .testDebounceEnd s = s.go s.node.pressJudged.woken := by
  have hexec : exec .testDebounceEnd s = execTestDebounceEnd s := rfl
  unfold execTestDebounceEnd Node.debounceTest at hexec
  simp only [h, if_true, beq_iff_eq, hne, if_false, holdAfter_eq] at hexec
  exact hexec

/-- The press has acted at 2 s. -/
def Node.pressedTwo (n : Node) (start : Stamp) (b : Bool) : Node :=
  { n with out := { n.out with hold := .since start true b } }

/-- The press has acted at 5 s. -/
def Node.pressedFive (n : Node) (start : Stamp) (a : Bool) : Node :=
  { n with out := { n.out with hold := .since start a true } }

theorem exec_testHold2s {s : State} {start : Stamp} {b : Bool} (hh : s.node.out.hold = .since start false b)
    (hr : reached s.node.clock (later start 2048) = true) :
    exec .testHold2s s = .next { s with node := (s.node.pressedTwo start b).heldTwo.settleWoken } := by
  have hexec : exec .testHold2s s = execTestHold2s s := rfl
  unfold execTestHold2s at hexec
  simp only [hh, Hold.twoAt, Hold.actedTwo, due, hr, if_true, State.go] at hexec
  exact hexec

theorem exec_testHold5s_dormant {s : State} {start : Stamp} {a : Bool} (hh : s.node.out.hold = .since start a false)
    (hr : reached s.node.clock (later start 5120) = true) (hp : s.node.power.phase = .dormant) :
    exec .testHold5s s = .next { s with node := (s.node.pressedFive start a).requestExit.settleWoken } := by
  have hexec : exec .testHold5s s = execTestHold5s s := rfl
  unfold execTestHold5s at hexec
  simp only [hh, Hold.fiveAt, Hold.actedFive, due, hr, if_true, hp, beq_self_eq_true, State.go] at hexec
  exact hexec

theorem exec_testHold5s_other {s : State} {start : Stamp} {a : Bool} (hh : s.node.out.hold = .since start a false)
    (hr : reached s.node.clock (later start 5120) = true) (hp : s.node.power.phase ≠ .dormant) :
    exec .testHold5s s = .next { s with node := (s.node.pressedFive start a).woken } := by
  have hexec : exec .testHold5s s = execTestHold5s s := rfl
  unfold execTestHold5s at hexec
  simp only [hh, Hold.fiveAt, Hold.actedFive, due, hr, if_true, beq_iff_eq, hp, if_false, State.go] at hexec
  exact hexec

/-! ## The action at 2 s -/

theorem Node.heldTwo_inactive {n : Node} (h : n.active = false) : n.heldTwo = n := by
  unfold Node.heldTwo
  simp [h]

theorem Node.heldTwo_selfCheck {n : Node} (h : n.active = true) (hw : n.alarm.walkTest = none)
    (he : n.alarm.testEnded ≠ some n.clock) : n.heldTwo = n.selfCheck := by
  unfold Node.heldTwo
  simp [h, hw, he]

theorem Node.heldTwo_forced {n : Node} (h : n.active = true) (hw : n.alarm.walkTest.isSome = true)
    (hrole : n.cfg.role ≠ .repeater) : n.heldTwo = n.testConfirm 255 := by
  unfold Node.heldTwo Node.forcedSample
  simp [h, hw, hrole]

theorem Node.heldTwo_discarded {n : Node} (h : n.active = true)
    (hd : (n.alarm.walkTest.isSome = true ∧ n.cfg.role = .repeater) ∨
      (n.alarm.walkTest = none ∧ n.alarm.testEnded = some n.clock)) : n.heldTwo = n := by
  unfold Node.heldTwo Node.forcedSample
  rcases hd with ⟨hw, hrole⟩ | ⟨hw, he⟩
  · simp [h, hw, hrole]
  · simp [h, hw, he]

/-- What the action at 2 s leaves of the press and the evidence. -/
theorem Node.heldTwo_kept (n : Node) : n.heldTwo.out.hold = n.out.hold ∧ n.heldTwo.evidence = n.evidence := by
  unfold Node.heldTwo
  split
  · exact ⟨rfl, rfl⟩
  · split
    · exact ⟨by rw [n.forcedSample_acts.out], n.forcedSample_acts.evidence⟩
    · exact ⟨rfl, rfl⟩

theorem Outputs.allowsChirp_of {o : Outputs} (h : ∀ p, o.sounder = some p → p.pattern = .faultChirp) :
    o.allowsChirp = true := by
  unfold Outputs.allowsChirp
  cases hs : o.sounder with
  | none => rfl
  | some p => simpa using h p hs

theorem Node.settleWoken_chirp {n : Node} (h : n.active = true) : n.settleWoken.out.chirp = n.out.chirp := by
  unfold Node.settleWoken
  have hact : n.wake.active = true := by simpa [Node.active] using h
  rw [Node.settle_chirp, hact, if_pos rfl, Node.wake_out]

/-- The cause that the tests give (R72). -/
theorem Node.causeNow_eq (n : Node) : n.causeNow =
    if n.evidence.hx / 2 ≤ n.evidence.q ∧ n.evidence.hx < n.cfg.heatCorr then .smoke
    else if n.evidence.q < 16 then .heat else .combined := by
  unfold Node.causeNow alarmCauseOf
  simp

end Sys2Proof.Machine

open Sys2Proof.Machine in
/-- Settles O45: the levels and their debounces, the debounced change by the phase, and the start off the base. -/
theorem linesAreDebouncedAndTamperIsReported : Obligations.LinesAreDebouncedAndTamperIsReported := by
  unfold Obligations.LinesAreDebouncedAndTamperIsReported
  refine ⟨fun s b => ⟨exec_tamperLineChange_same, exec_testInputChange_same, fun h => ?_, fun h => ?_⟩,
    fun s hdue hq hne => ?_, fun s r bs noise img clamps hread hgap hosc hjudge halarm hq hbase => ?_⟩
  · rw [exec_tamperLineChange_other h]
    exact s.go_woken (s.node.tamperLevel b)
  · rw [exec_testInputChange_other h]
    exact s.go_woken (s.node.testLevel b)
  · obtain ⟨m, hm⟩ : ∃ m : Node, m = s.node.tamperHeld.tamperChanged := ⟨_, rfl⟩
    have hexec := exec_tamperDebounceEnd hdue hne
    rw [← hm] at hexec
    have hf := m.settleWoken_follows
    obtain ⟨hoff, hdebounce, hevidence⟩ := s.node.tamperHeld.tamperChanged_held
    refine ⟨_, hexec, rfl, ?_, ?_, ?_, fun hact hline => ?_, fun hact hline => ?_, fun hp hline => ?_, fun hp => ?_⟩
    · rw [hf.outOffBase, hm, hoff]; rfl
    · rw [hf.outTamperDebounce, hm, hdebounce]; rfl
    · rw [hf.evidence, hm, hevidence]; rfl
    · have hoffBase : s.node.tamperHeld.out.offBase = true := hline
      have hchanged := Node.tamperChanged_active (n := s.node.tamperHeld) hact
      rw [hoffBase, if_pos rfl] at hchanged
      rw [hf.alarmNotices, hf.outOverlay, hm, hchanged, (Node.deliver_acts _ _).out]
      exact ⟨Node.deliver_raised (by decide) _ _ hact (by simp) (.inr (by simp)), rfl⟩
    · have honBase : s.node.tamperHeld.out.offBase = false := hline
      have hchanged := Node.tamperChanged_active (n := s.node.tamperHeld) hact
      rw [honBase, if_neg Bool.false_ne_true] at hchanged
      rw [hf.alarmNotices, hf.outOverlay, hm, hchanged, (Node.deliver_acts _ _).out]
      exact ⟨Node.deliver_cleared (by decide) _ _ hact (by simp) (.inr (by simp)), rfl⟩
    · have hoffBase : s.node.tamperHeld.out.offBase = true := hline
      have hchanged := Node.tamperChanged_dormant (n := s.node.tamperHeld) hp
      rw [hoffBase, if_pos rfl] at hchanged
      have hmphase : m.power.phase = .dormant := by rw [hm, hchanged]; exact hp
      have hphase := Node.settleWoken_phase_inactive (n := m) (by simp [Node.active, hmphase])
      refine ⟨?_, ?_, ?_, hphase.trans hmphase⟩
      · rw [hf.outOverlay, hm, hchanged]; rfl
      · rw [hf.txQueue, hm, hchanged]; exact hq
      · rw [hf.alarmNotices, hm, hchanged]; rfl
    · rw [hf.alarmNotices, hf.outOverlay, hm, Node.tamperChanged_startUp (n := s.node.tamperHeld) hp]
      exact ⟨rfl, rfl⟩
  · have hready : (s.node.readEnds r.exit).out.offBase = true ∧ (s.node.readEnds r.exit).alarm = .atReset ∧
        (s.node.readEnds r.exit).tx.queue = [] := by
      cases r.exit <;> exact ⟨hbase, halarm, hq⟩
    obtain ⟨hoff, hrest, hempty⟩ := hready
    have h := (s.node.readEnds r.exit).timed_started img clamps noise
    have hstart := (s.node.readEnds r.exit).start_timed img clamps noise
    rw [Node.timed_offBase, hoff, if_pos rfl] at hstart
    have hexec : exec (.configAttempt (some bs) noise) s =
        .next { s with node := ((s.node.readEnds r.exit).start img clamps noise).settle } := by
      rw [exec_configAttempt hread hgap hosc, ← Node.acceptImage_eq]
      simp [Node.attemptEnds, hjudge]
    obtain ⟨hnotices, hseq, e, hqueue, hbody, hown, hattempt, hstate, heseq⟩ :=
      Node.deliver_raise_empty h.active (h.queue.trans hempty) .tamper (by decide) (by rw [h.alarm, hrest]; rfl)
    rw [← hstart] at hnotices hseq hqueue
    rw [h.relay] at hseq heseq
    refine ⟨_, e, hexec, ?_, ?_, hbody, hown, hattempt, hstate, heseq, ?_⟩
    · rw [Node.settle_alarmNotices, hnotices]
    · rw [Node.settle_txQueue, hqueue]
    · rw [Node.settle_relay, hseq]

open Sys2Proof.Machine in
/-- Settles O46: the timed press, what it does at 2 s case by case, and the exit request at 5 s. -/
theorem testInputIsTimed : Obligations.TestInputIsTimed := by
  unfold Obligations.TestInputIsTimed
  refine ⟨fun s hdue hne => ?_, fun s start b => ⟨fun hh hr => ?_, fun hh hr => ?_⟩⟩
  · rw [exec_testDebounceEnd hdue hne]
    exact s.go_woken s.node.pressJudged
  · obtain ⟨n, hn⟩ : ∃ n : Node, n = s.node.pressedTwo start b := ⟨_, rfl⟩
    obtain ⟨m, hm⟩ : ∃ m : Node, m = n.heldTwo := ⟨_, rfl⟩
    have hexec := exec_testHold2s hh hr
    rw [← hn, ← hm] at hexec
    have hf := m.settleWoken_follows
    obtain ⟨hhold, hevidence⟩ := n.heldTwo_kept
    have hclock : n.clock = s.node.clock := by rw [hn]; rfl
    have halarm : n.alarm = s.node.alarm := by rw [hn]; rfl
    have htx : n.tx = s.node.tx := by rw [hn]; rfl
    have hpower : n.power = s.node.power := by rw [hn]; rfl
    have hcfg : n.cfg = s.node.cfg := by rw [hn]; rfl
    have hev : n.evidence = s.node.evidence := by rw [hn]; rfl
    have hoverlay : n.out.overlay = s.node.out.overlay := by rw [hn]; rfl
    have hsounder : n.out.sounder = s.node.out.sounder := by rw [hn]; rfl
    have hactive : n.active = s.node.active := by unfold Node.active; rw [hpower]
    refine ⟨_, hexec, rfl, ?_, ?_, fun hact hw he => ?_, fun hact hw hrole => ?_, fun hact hd => ?_, fun hp => ?_⟩
    · rw [hf.outHold, hm, hhold, hn]; rfl
    · rw [hf.evidence, hm, hevidence, hev]
    · have hself := Node.heldTwo_selfCheck (n := n) (hactive.trans hact) (by rw [halarm]; exact hw)
        (by rw [halarm, hclock]; exact he)
      refine ⟨?_, ?_, ?_, fun hchirp => ?_⟩
      · rw [hf.outOverlay, hm, hself, ← hclock]; rfl
      · rw [hf.alarmNotices, hm, hself, ← halarm]; rfl
      · rw [hf.txQueue, hm, hself, ← htx]; rfl
      · have hallowed : n.out.allowsChirp = true := Outputs.allowsChirp_of (by rw [hsounder]; exact hchirp)
        have hmact : m.active = true := by rw [hm, hself]; exact hactive.trans hact
        rw [Node.settleWoken_chirp hmact, hm, hself, ← hclock]
        unfold Node.selfCheck
        simp only [hallowed, if_true]
        rfl
    · have hforced := Node.heldTwo_forced (n := n) (hactive.trans hact) (by rw [halarm]; exact hw)
        (by rw [hcfg]; exact hrole)
      obtain ⟨hstate, hcount, -, -, hsound, horigins, hsilenced, -⟩ := n.testConfirm_alarm 255
      refine ⟨?_, ?_, ?_, ?_, ?_, fun hq => ?_⟩
      · rw [hf.alarmState, hm, hforced, hstate]
      · rw [hf.alarmConfirmCount, hm, hforced, hcount]
      · rw [hf.alarmTestSound, hm, hforced, hsound, hclock]
      · rw [hf.alarmOrigins, hm, hforced, horigins, halarm]
      · rw [hf.alarmSilenced, hm, hforced, hsilenced, halarm]
      · have hempty : n.tx.queue = [] := by rw [htx]; exact hq
        obtain ⟨es, hes, -⟩ := Node.testConfirm_queue 255 (Node.lined_of_empty (hactive.trans hact) hempty)
          (by rw [hempty]; decide)
        refine ⟨n.ownEntry true (n.alarmBody 255), ?_, rfl, rfl, rfl, rfl, ?_, ?_, ?_, ?_⟩
        · rw [hf.txQueue, hm, hforced, hes]; simp
        · rw [← hcfg]; rfl
        · rw [← hcfg]; rfl
        · rw [← hcfg]; rfl
        · rw [← hcfg, ← hev, ← n.causeNow_eq]; rfl
    · have hdiscarded := Node.heldTwo_discarded (n := n) (hactive.trans hact) (by rw [halarm, hcfg, hclock]; exact hd)
      rw [hf.outOverlay, hf.alarmState, hf.alarmTestSound, hf.alarmNotices, hf.txQueue, hm, hdiscarded, hoverlay, halarm,
        htx]
      exact ⟨rfl, rfl, rfl, rfl, rfl⟩
    · have hkept := Node.heldTwo_inactive (n := n) (by simp [Node.active, hpower, hp])
      rw [hf.outOverlay, hf.alarmState, hf.txQueue, hm, hkept, hoverlay, halarm, htx]
      exact ⟨rfl, rfl, rfl⟩
  · by_cases hp : s.node.power.phase = .dormant
    · obtain ⟨m, hm⟩ : ∃ m : Node, m = (s.node.pressedFive start b).requestExit := ⟨_, rfl⟩
      have hexec := exec_testHold5s_dormant hh hr hp
      rw [← hm] at hexec
      have hf := m.settleWoken_follows
      have hsame : m.out.hold = .since start b true ∧ m.power = s.node.power := by
        rw [hm]; unfold Node.requestExit; split <;> exact ⟨rfl, rfl⟩
      obtain ⟨hhold, hpower⟩ := hsame
      refine ⟨_, hexec, rfl, hf.outHold.trans hhold, fun _ hread => ⟨?_, ?_⟩, fun h => absurd hp h⟩
      · rw [hf.loader, hm]
        unfold Node.requestExit
        rw [if_neg (by simp [Node.pressedFive, hread])]
        rfl
      · rw [Node.settleWoken_phase_inactive (by simp [Node.active, hpower, hp]), hpower, hp]
    · obtain ⟨claims, osc, hwoken⟩ := s.go_woken (s.node.pressedFive start b)
      refine ⟨_, (exec_testHold5s_other hh hr hp).trans hwoken, rfl, rfl, fun h => absurd h hp, fun _ => ⟨rfl, rfl⟩⟩
end

section
/-! The patterns step through their cadences (sections 11.1 and 11.2). -/

namespace Sys2Proof.Machine

/-! ## A pattern's next step -/

section
variable {π : Type} {steps : Steps} {pl : Playing π} {k len : Nat} {on : Bool} {now : Stamp}

/-- The step after the one that ends (R173, R174). -/
theorem Playing.next_eq (hk : k = if pl.step + 1 < steps.length then pl.step + 1 else 0)
    (h : steps[k]? = some (on, len)) : pl.next steps now = ⟨pl.pattern, k, some (later now len)⟩ := by
  unfold Playing.next
  simp only []
  rw [← hk, h]
  rfl

theorem stepOn_eq (h : steps[pl.step]? = some (on, len)) : stepOn steps pl = on := by
  unfold stepOn
  rw [h]
  rfl

end

/-! ## The tone -/

theorem Outputs.tone_of_playing {o : Outputs} {p : Playing Sound} (hs : o.sounder = some p) :
    o.tone = (o.chirp.isSome || (p.pattern == .test || stepOn p.pattern.steps p)) := by
  unfold Outputs.tone
  rw [hs] <;> rfl

/-! ## Reselection of the pattern that plays -/

/-- The pattern that plays is the one wanted: it goes on (R173). -/
theorem Node.selectSound_same {n : Node} {p : Playing Sound} (hs : n.out.sounder = some p)
    (hw : n.soundWanted = some p.pattern) : n.selectSound = some p := by
  cases hq : n.selectSound with
  | none =>
    have hpattern := n.selectSound_pattern
    rw [hq, hw] at hpattern
    cases hpattern
  | some q =>
    have hpattern := n.selectSound_pattern
    rw [hq, hw] at hpattern
    rw [n.selectSound_stays p q hs hq (Option.some.inj hpattern)]

/-- The node whose sounder is at another step. -/
def Node.playing (n : Node) (p : Playing Sound) : Node := { n with out := { n.out with sounder := some p } }

theorem Node.playing_soundWanted (n : Node) (p : Playing Sound) :
    (n.playing p).wake.soundWanted = n.soundWanted := by
  simp [Node.soundWanted, Node.faultCondition, Node.active, Node.playing]

/-- A playing pattern's next step is played (R173). -/
theorem Node.playing_settles {n : Node} {p : Playing Sound} (hw : n.soundWanted = some p.pattern) :
    (n.playing p).settleWoken.out.sounder = some p := by
  unfold Node.settleWoken
  rw [Node.settle_sounder]
  exact Node.selectSound_same (by rw [Node.wake_out]; rfl) (by rw [Node.playing_soundWanted]; exact hw)

theorem Node.playing_chirp {n : Node} {p : Playing Sound} (h : n.out.chirp = none) :
    (n.playing p).settleWoken.out.chirp = none := by
  unfold Node.settleWoken
  rw [Node.settle_chirp, Node.wake_out]
  split
  · exact h
  · rfl

theorem exec_sounderStep {s : State} {p : Playing Sound} (hs : s.node.out.sounder = some p)
    (hdue : due s.node.clock p.ends = true) : exec .sounderStep s =
      .next { s with node := (s.node.playing (p.next p.pattern.steps s.node.clock)).settleWoken } := by
  have hexec : exec .sounderStep s = execSounderStep s := rfl
  unfold execSounderStep at hexec
  simp only [hs, hdue, if_true, State.go] at hexec
  exact hexec

/-! ## The indicators and the overlay -/

/-- The node whose red indicator is at another step. -/
def Node.redAt (n : Node) (p : Playing RedPattern) : Node := { n with out := { n.out with red := p } }

/-- The node whose amber indicator is at another step. -/
def Node.amberAt (n : Node) (p : Playing AmberPattern) : Node := { n with out := { n.out with amber := p } }

theorem exec_indicatorStep_red {s : State} (hdue : due s.node.clock s.node.out.red.ends = true) :
    exec (.indicatorStep .red) s =
      s.go (s.node.redAt (s.node.out.red.next s.node.out.red.pattern.steps s.node.clock)).woken := by
  have hexec : exec (.indicatorStep .red) s = execIndicatorStep .red s := rfl
  unfold execIndicatorStep at hexec
  simp only [hdue, if_true] at hexec
  exact hexec

theorem exec_indicatorStep_amber {s : State} (hdue : due s.node.clock s.node.out.amber.ends = true) :
    exec (.indicatorStep .amber) s =
      s.go (s.node.amberAt (s.node.out.amber.next s.node.out.amber.pattern.steps s.node.clock)).woken := by
  have hexec : exec (.indicatorStep .amber) s = execIndicatorStep .amber s := rfl
  unfold execIndicatorStep at hexec
  simp only [hdue, if_true] at hexec
  exact hexec

/-- The node whose overlay has ended: the amber pattern from its beginning (R174). -/
def Node.overlayEnded (n : Node) : Node := { n with out := { n.out with
  overlay := none
  amber := startPattern n.out.amber.pattern.steps n.clock n.out.amber.pattern } }

theorem exec_overlayEnd {s : State} {v : Overlay} (hv : s.node.out.overlay = some v)
    (hr : reached s.node.clock v.ends = true) : exec .overlayEnd s = s.go s.node.overlayEnded.woken := by
  have hexec : exec .overlayEnd s = execOverlayEnd s := rfl
  unfold execOverlayEnd at hexec
  simp only [hv, hr, if_true] at hexec
  exact hexec

/-- The node whose self-check chirp has ended (R176). -/
def Node.chirpEnded (n : Node) : Node := { n with out := { n.out with chirp := none } }

theorem exec_selfCheckChirpEnd {s : State} (hdue : due s.node.clock s.node.out.chirp = true) :
    exec .selfCheckChirpEnd s = .next { s with node := s.node.chirpEnded.settle } := by
  have hexec : exec .selfCheckChirpEnd s = execSelfCheckChirpEnd s := rfl
  unfold execSelfCheckChirpEnd at hexec
  simp only [hdue, if_true, State.go] at hexec
  exact hexec

theorem Node.chirpEnded_follows (n : Node) : n.FollowsFrom n.chirpEnded := by
  constructor <;> rfl

end Sys2Proof.Machine

open Sys2Proof.Machine in
/-- Settles O47: the cadences are the model's steps, and each step command goes to the next of them. -/
theorem patternsStep : Obligations.PatternsStep := by
  unfold Obligations.PatternsStep
  intro sounds flashes ambers next
  have hsounds : ∀ p, sounds p = p.steps := fun p => by cases p <;> rfl
  have hflashes : ∀ p, flashes p = p.steps := fun p => by cases p <;> rfl
  have hambers : ∀ p, ambers p = p.steps := fun p => by cases p <;> rfl
  refine ⟨fun s p on len hs hdue hfollow hstep => ?_, fun o p hs hp => ?_, ?_, ?_, fun s v hv hr => ?_, fun s hdue => ?_⟩
  · rw [hsounds] at hstep ⊢
    obtain ⟨q, hq⟩ : ∃ q : Playing Sound, q = p.next p.pattern.steps s.node.clock := ⟨_, rfl⟩
    have hnext := Playing.next_eq (pl := p) (now := s.node.clock) rfl hstep
    have hpattern : q.pattern = p.pattern := by rw [hq]; rfl
    obtain ⟨hfollows, -⟩ := s.node.patternsFollow_iff.mp hfollow
    have hwanted : s.node.soundWanted = some q.pattern := by rw [← hfollows, hs, hpattern]; rfl
    have hplays := Node.playing_settles hwanted
    have hexec := exec_sounderStep hs hdue
    rw [← hq] at hexec
    have hqe := hq.trans hnext
    refine ⟨_, hexec, rfl, ?_, fun hchirp => ?_⟩
    · show (s.node.playing q).settleWoken.out.sounder = _
      rw [hplays, hqe]
    · have hsilent := Node.playing_chirp (p := q) hchirp
      have htest : q.pattern ≠ .test := by
        intro ht
        rw [← hpattern, ht] at hstep
        cases hstep
      have hon : stepOn q.pattern.steps q = on := stepOn_eq (len := len) (by rw [hqe]; exact hstep)
      show (s.node.playing q).settleWoken.out.tone = on
      rw [Outputs.tone_of_playing hplays, hsilent, hon]
      simp [htest]
  · rw [Outputs.tone_of_playing hs, hp]
    simp
  · intro s on len p k hdue hstep
    have hk : k = if p.step + 1 < p.pattern.steps.length then p.step + 1 else 0 := by rw [← hflashes]
    rw [hflashes] at hstep
    have hnext := Playing.next_eq (pl := p) (now := s.node.clock) hk hstep
    obtain ⟨claims, osc, hwoken⟩ := s.go_woken (s.node.redAt ⟨p.pattern, k, some (later s.node.clock len)⟩)
    refine ⟨claims, osc, ?_, fun hoverlay => ?_⟩
    · rw [exec_indicatorStep_red hdue, hnext]
      exact hwoken
    · unfold Outputs.redLit
      simp only [hoverlay]
      rw [stepOn_eq hstep]
      simp
  · intro s on len p k hdue hstep
    have hk : k = if p.step + 1 < p.pattern.steps.length then p.step + 1 else 0 := by rw [← hambers]
    rw [hambers] at hstep
    have hnext := Playing.next_eq (pl := p) (now := s.node.clock) hk hstep
    obtain ⟨claims, osc, hwoken⟩ := s.go_woken (s.node.amberAt ⟨p.pattern, k, some (later s.node.clock len)⟩)
    refine ⟨claims, osc, ?_, fun hoverlay => ?_⟩
    · rw [exec_indicatorStep_amber hdue, hnext]
      exact hwoken
    · unfold Outputs.amberLit
      simp only [hoverlay]
      rw [stepOn_eq hstep]
      rfl
  · obtain ⟨claims, osc, hwoken⟩ := s.go_woken s.node.overlayEnded
    refine ⟨claims, osc, ?_⟩
    rw [exec_overlayEnd hv hr, hambers]
    exact hwoken
  · refine ⟨_, exec_selfCheckChirpEnd hdue, ?_, s.node.chirpEnded_follows.trans (Node.settle_follows _)⟩
    show s.node.chirpEnded.settle.out.chirp = none
    rw [Node.settle_chirp]
    split <;> rfl
end

section
/-! The EVENT records of the node's own reports (section 11.7): which records each part of the work forms. -/

namespace Sys2Proof.Machine

/-! ## Records formed -/

/-- `t` comes of `n` with these records formed, one after another, and room for them all (R183). -/
structure Node.Forms (n t : Node) (rs : List EventRecord) : Prop where
  clock : t.clock = n.clock
  loader : t.loader = n.loader
  tx : t.serial.tx = n.serial.tx
  lost : t.serial.lost = n.serial.lost
  panel : t.serial.panel = n.serial.panel ++ rs

section
variable {n t u : Node} {rs qs : List EventRecord}

theorem Node.Forms.of_same (hclock : t.clock = n.clock) (hloader : t.loader = n.loader)
    (hserial : t.serial = n.serial) : n.Forms t [] :=
  ⟨hclock, hloader, by rw [hserial], by rw [hserial], by rw [hserial, List.append_nil]⟩

theorem Node.Forms.trans (h : n.Forms t rs) (k : t.Forms u qs) : n.Forms u (rs ++ qs) where
  clock := k.clock.trans h.clock
  loader := k.loader.trans h.loader
  tx := k.tx.trans h.tx
  lost := k.lost.trans h.lost
  panel := by rw [k.panel, h.panel, List.append_assoc]

theorem Node.Forms.cfg (h : n.Forms t rs) : t.cfg = n.cfg := by
  unfold Node.cfg
  rw [h.loader]

theorem Node.Forms.onPanel (h : n.Forms t rs) : t.onPanel = n.onPanel := by
  unfold Node.onPanel
  rw [h.loader]

theorem Node.Forms.length (h : n.Forms t rs) : t.serial.panel.length = n.serial.panel.length + rs.length := by
  rw [h.panel, List.length_append]

/-- The node's own records name its address, zone and clock only. -/
theorem Node.Forms.ownRecord (h : n.Forms t rs) : t.ownNoticeRecord = n.ownNoticeRecord := by
  unfold Node.ownNoticeRecord
  rw [h.cfg, h.clock]

/-- A busy line goes on with what it sends, and the records wait (R180). -/
theorem Node.Forms.settled (h : n.Forms t rs) (hbusy : n.serial.tx ≠ .idle) : n.Forms t.settle rs := by
  have hserial := Node.settle_serial_of_busy (n := t) (by rw [h.tx]; exact hbusy)
  exact ⟨(Node.settle_clock t).trans h.clock, (Node.settle_loader t).trans h.loader, by rw [hserial]; exact h.tx,
    by rw [hserial]; exact h.lost, by rw [hserial]; exact h.panel⟩

theorem Node.Forms.settledWoken (h : n.Forms t rs) (hbusy : n.serial.tx ≠ .idle) : n.Forms t.settleWoken rs := by
  have hwoken : n.Forms t.wake (rs ++ []) :=
    h.trans (.of_same (Node.wake_clock t) (Node.wake_loader t) (Node.wake_serial t))
  rw [List.append_nil] at hwoken
  exact hwoken.settled hbusy

/-- A record formed on the panel node while there is room (R183). -/
theorem Node.record_forms (hpanel : n.onPanel = true) (hroom : n.serial.panel.length < 32) (r : EventRecord) :
    n.Forms (n.record r) [r] := by
  rw [n.record_eq, if_pos hpanel, Serial.push_room hroom]
  exact ⟨rfl, rfl, rfl, rfl, rfl⟩

/-- The same beside a change of the alarm side. -/
theorem Node.record_beside_forms (hpanel : n.onPanel = true) (hroom : n.serial.panel.length < 32) (a : AlarmUnit)
    (r : EventRecord) : n.Forms (Node.record { n with alarm := a } r) [r] := by
  have hsame : n.Forms { n with alarm := a } [] := .of_same rfl rfl rfl
  exact hsame.trans (Node.record_forms (n := { n with alarm := a }) hpanel hroom r)

theorem Node.pushOwn_forms (n : Node) (test : Bool) (b : Body) : n.Forms (n.pushOwn test b) [] :=
  .of_same rfl rfl rfl

theorem Node.framed_forms (n : Node) (k : NoticeKind) (set : Bool) (s : Option Byte) :
    n.Forms (n.framed k set s) [] := by
  unfold Node.framed
  split
  · exact .of_same rfl rfl rfl
  · exact n.pushOwn_forms _ _

/-! ## Notice requests and events -/

/-- The record of an item that is taken out of the notice set, where it stands. -/
def Node.clearedRecord (n : Node) (k : NoticeKind) (s : Option Byte) : List EventRecord :=
  if NoticeItem.mk k s ∈ n.alarm.notices then [n.ownNoticeRecord .ownNotice k false s] else []

theorem Node.clearedRecord_length (n : Node) (k : NoticeKind) (s : Option Byte) : (n.clearedRecord k s).length ≤ 1 := by
  unfold Node.clearedRecord
  split <;> simp

/-- It speaks of the item, the address, the zone and the clock only. -/
theorem Node.Forms.clearedRecord (h : n.Forms t rs) {k : NoticeKind} {s : Option Byte}
    (hm : NoticeItem.mk k s ∈ t.alarm.notices ↔ NoticeItem.mk k s ∈ n.alarm.notices) :
    t.clearedRecord k s = n.clearedRecord k s := by
  unfold Node.clearedRecord
  rw [h.ownRecord]
  simp only [hm]

theorem Node.dropNotice_forms (hpanel : n.onPanel = true) (hroom : n.serial.panel.length < 32) (k : NoticeKind)
    (s : Option Byte) : n.Forms (n.dropNotice k s) (n.clearedRecord k s) := by
  unfold Node.clearedRecord
  split
  · next hm =>
    rw [n.dropNotice_eq k s hm]
    exact Node.record_beside_forms hpanel hroom _ _
  · next hm =>
    rw [n.dropNotice_of_absent k s hm]
    exact .of_same rfl rfl rfl

theorem Node.Lined.deliver_clear_forms (h : n.Lined) (hl : n.tx.queue.length < 8) (hpanel : n.onPanel = true)
    (hroom : n.serial.panel.length < 32) (k : NoticeKind) (s : Option Byte) :
    n.Forms (n.deliver [.clear k s]) (n.clearedRecord k s) := by
  by_cases hm : NoticeItem.mk k s ∈ n.alarm.notices
  · rw [h.deliver_clear hl k s hm]
    have hforms := (Node.dropNotice_forms hpanel hroom k s).trans (Node.framed_forms _ k false s)
    rwa [List.append_nil] at hforms
  · rw [Node.deliver_clear_absent hm, Node.clearedRecord, if_neg hm]
    exact .of_same rfl rfl rfl

theorem Node.Lined.deliver_raise_forms (h : n.Lined) (hl : n.tx.queue.length < 8) (hpanel : n.onPanel = true)
    (hroom : n.serial.panel.length < 32) {k : NoticeKind} {s : Option Byte} (hm : NoticeItem.mk k s ∉ n.alarm.notices) :
    n.Forms (n.deliver [.raise k s]) [n.ownNoticeRecord .ownNotice k true s] := by
  rw [h.deliver_raise hl k s hm]
  have hrecord : n.Forms (n.withNotice k s) [n.ownNoticeRecord .ownNotice k true s] :=
    Node.record_beside_forms hpanel hroom _ _
  simpa using hrecord.trans (Node.framed_forms _ k true s)

theorem Node.Lined.deliver_event_forms (h : n.Lined) (hl : n.tx.queue.length < 8) (hpanel : n.onPanel = true)
    (hroom : n.serial.panel.length < 32) (k : NoticeKind) (s : Option Byte) :
    n.Forms (n.deliver [.event k s]) [n.ownNoticeRecord .ownEvent k true s] := by
  rw [h.deliver_event hl k s]
  have hrecord : n.Forms (n.withEvent k s) [n.ownNoticeRecord .ownEvent k true s] :=
    Node.record_beside_forms hpanel hroom _ _
  simpa using hrecord.trans (Node.framed_forms _ k true s)

/-- Several notice requests form OWN NOTICE records only, at most one each. -/
theorem Node.deliver_requests_forms {ts : List Task} : ∀ {n : Node}, n.Lined → n.tx.queue.length + ts.length ≤ 8 →
    n.onPanel = true → n.serial.panel.length + ts.length ≤ 32 →
    (∀ u ∈ ts, ∃ k s, u = .raise k s ∨ u = .clear k s) →
    ∃ rs, n.Forms (n.deliver ts) rs ∧ rs.length ≤ ts.length ∧ ∀ y ∈ rs, y.kind = .ownNotice := by
  induction ts with
  | nil => exact fun _ _ _ _ _ => ⟨[], .of_same rfl rfl rfl, Nat.le_refl _, by simp⟩
  | cons u ts ih =>
    intro n h hl hpanel hroom hall
    simp only [List.length_cons] at hl hroom
    have hone : ∃ rs, n.Forms (n.deliver [u]) rs ∧ rs.length ≤ 1 ∧ ∀ y ∈ rs, y.kind = .ownNotice := by
      obtain ⟨k, s, rfl | rfl⟩ := hall u List.mem_cons_self
      · by_cases hm : NoticeItem.mk k s ∈ n.alarm.notices
        · rw [Node.deliver_raise_standing hm]
          exact ⟨[], .of_same rfl rfl rfl, by simp, by simp⟩
        · exact ⟨_, h.deliver_raise_forms (by omega) hpanel (by omega) hm, by simp, by simp [Node.ownNoticeRecord]⟩
      · refine ⟨_, h.deliver_clear_forms (by omega) hpanel (by omega) k s, n.clearedRecord_length k s, ?_⟩
        unfold Node.clearedRecord
        split <;> simp [Node.ownNoticeRecord]
    obtain ⟨rs, hforms, hlen, hkinds⟩ := hone
    have hnotices : u.notices = true := by
      obtain ⟨k, s, rfl | rfl⟩ := hall u List.mem_cons_self <;> rfl
    have hnotifies := h.deliver_one (by omega) hnotices
    have hqueue := hnotifies.length_le
    have hpanelLength := hforms.length
    obtain ⟨qs, hrest, hlen', hkinds'⟩ := ih hnotifies.lined (by omega) (hforms.onPanel.trans hpanel) (by omega)
      (fun v hv => hall v (List.mem_cons_of_mem _ hv))
    refine ⟨rs ++ qs, hforms.trans hrest, by simp; omega, fun y hy => ?_⟩
    exact (List.mem_append.mp hy).elim (hkinds y) (hkinds' y)

end

/-! ## Confirmations -/

section
variable {n : Node}

theorem Cause.code_causeNow (n : Node) : n.causeNow.code =
    (if n.evidence.hx / 2 ≤ n.evidence.q ∧ n.evidence.hx < n.cfg.heatCorr then 1
    else if n.evidence.q < 16 then 2 else 3 : Byte) := by
  rw [n.causeNow_eq]
  split
  · rfl
  · split <;> rfl

/-- The record of the node's own ALARM or test ALARM (R72, R82, R183). -/
def Node.ownAlarmRecord (n : Node) (test : Bool) (lv : Nat) : EventRecord :=
  n.alarmRecord test n.cfg.address n.cfg.zone n.causeNow (byte lv) (byte n.evidence.q) (byte n.evidence.hx)

/-- Entry to ALARM: the record of the PRE_ALARM that ends, then the ALARM's (R72). -/
theorem Node.enterAlarm_forms (h : n.Lined) (hl : n.tx.queue.length < 8) (hpanel : n.onPanel = true)
    (hroom : n.serial.panel.length < 31) (lv : Nat) :
    n.Forms (n.enterAlarm lv) (n.clearedRecord .preAlarm none ++ [n.ownAlarmRecord false lv]) := by
  obtain ⟨latched, hlatched⟩ : ∃ m : Node, m = { n with alarm := { n.alarm.addOwnOrigin
      ⟨n.cfg.address, n.cfg.zone, n.causeNow, n.clock⟩ with state := .alarm, limit := none, silenced := false } } :=
    ⟨_, rfl⟩
  have hsame : n.Forms latched [] := by rw [hlatched]; exact .of_same rfl rfl rfl
  have hitems : NoticeItem.mk .preAlarm none ∈ latched.alarm.notices ↔
      NoticeItem.mk .preAlarm none ∈ n.alarm.notices := by rw [hlatched]; rfl
  have hlined : latched.Lined := by rw [hlatched]; exact h.of_same rfl rfl rfl
  have hlength : latched.tx.queue.length < 8 := by rw [hlatched]; exact hl
  have hdropped := Node.dropNotice_forms (n := latched) (hsame.onPanel.trans hpanel)
    (by rw [hsame.length]; simp; omega) .preAlarm none
  rw [hsame.clearedRecord hitems] at hdropped
  have hsent : (latched.dropNotice .preAlarm none).Forms
      ((latched.dropNotice .preAlarm none).originate false (n.alarmBody lv)) [] := by
    rw [Node.Lined.originate (hlined.of_same (Node.dropNotice_active _ _ _) (by rw [Node.dropNotice_tx])
      (by rw [Node.dropNotice_relay])) (by simpa using hlength) _ _ rfl]
    exact Node.pushOwn_forms _ _ _
  have hforms := (hsame.trans hdropped).trans hsent
  have hcount := n.clearedRecord_length .preAlarm none
  have hrecord := Node.record_forms (hforms.onPanel.trans hpanel)
    (by rw [hforms.length]; simp; omega) (n.ownAlarmRecord false lv)
  have henter : n.enterAlarm lv = ((latched.dropNotice .preAlarm none).originate false (n.alarmBody lv)).record
      (n.ownAlarmRecord false lv) := by
    rw [hlatched]
    rfl
  rw [henter]
  simpa using hforms.trans hrecord

/-- A test confirmation: the record of the PRE_ALARM that ends, then the test ALARM's (R82). -/
theorem Node.testConfirm_forms (h : n.Lined) (hl : n.tx.queue.length < 7) (hpanel : n.onPanel = true)
    (hroom : n.serial.panel.length < 31) (lv : Nat) :
    n.Forms (n.testConfirm lv) (n.clearedRecord .preAlarm none ++ [n.ownAlarmRecord true lv]) := by
  obtain ⟨sent, hsent⟩ : ∃ m : Node, m = n.pushOwn true (n.alarmBody lv) := ⟨_, rfl⟩
  have hpush := h.originate (by omega) true (n.alarmBody lv) rfl
  rw [← hsent] at hpush
  obtain ⟨rested, hrested⟩ : ∃ m : Node, m = { sent with alarm := { sent.alarm with
      state := .quiet, confirmCount := 0, hysteresis := 0, limit := none
      testSound := some (later n.clock 10240) } } := ⟨_, rfl⟩
  have hconfirm : n.testConfirm lv = (rested.deliver [.clear .preAlarm none]).record (n.ownAlarmRecord true lv) := by
    unfold Node.testConfirm Node.ownAlarmRecord
    rw [hpush, hrested]
  have hsame : n.Forms rested [] := by rw [hrested, hsent]; exact .of_same rfl rfl rfl
  have hitems : NoticeItem.mk .preAlarm none ∈ rested.alarm.notices ↔
      NoticeItem.mk .preAlarm none ∈ n.alarm.notices := by rw [hrested, hsent]; rfl
  have hsentLined : sent.Lined := by rw [hsent]; exact h.pushOwn _ _ rfl
  have hlined : rested.Lined := by rw [hrested]; exact hsentLined.of_same rfl rfl rfl
  have hlength : rested.tx.queue.length < 8 := by
    have hq : rested.tx.queue = n.tx.queue ++ [n.ownEntry true (n.alarmBody lv)] := by
      rw [hrested, hsent]
      exact n.pushOwn_queue _ _ rfl
    rw [hq, List.length_append, List.length_singleton]
    omega
  have hcleared := hlined.deliver_clear_forms hlength (hsame.onPanel.trans hpanel)
    (by rw [hsame.length]; simp; omega) .preAlarm none
  rw [hsame.clearedRecord hitems] at hcleared
  have hforms := hsame.trans hcleared
  have hcount := n.clearedRecord_length .preAlarm none
  have hrecord := Node.record_forms (hforms.onPanel.trans hpanel)
    (by rw [hforms.length]; simp; omega) (n.ownAlarmRecord true lv)
  rw [hconfirm]
  simpa using hforms.trans hrecord

/-- An EVIDENCE frame offered while there is room forms no record (R74). -/
theorem Node.sendEvidence_forms (hact : n.active = true) (hl : n.tx.queue.length < 8) : n.Forms n.sendEvidence [] := by
  obtain ⟨u, answer, before, v, hoffer, -⟩ := n.tx.offer_oneHop_room n.clock
    (n.oneHopFrame (.evidence (byte n.evidence.lv) n.alarm.state)) true n.clock none rfl hl
  have hrun : Task.run n (.offer (n.oneHopFrame (.evidence (byte n.evidence.lv) n.alarm.state)) none) =
      ({ n with tx := u }, []) := by
    have h := Node.offer_eq hact hoffer
    rw [Node.afterOffer_none] at h
    show ((n.offer _ true _ none).1, (n.offer _ true _ none).2.2) = _
    rw [h]
    rfl
  have hsent : n.sendEvidence = { n with tx := u } := Node.deliver_single hrun
  rw [hsent]
  exact .of_same rfl rfl rfl

theorem Node.takeRecord_forms (n : Node) : n.Forms n.takeRecord [] := by
  unfold Node.takeRecord
  split <;> exact .of_same rfl rfl rfl

end

/-! ## The commands that form the node's own records -/

/-- A panel node that reports: in PATROL or RUN, its line busy, room in its record queue, nothing to send. -/
structure Node.Reporting (n : Node) : Prop where
  panel : n.onPanel = true
  active : n.active = true
  busy : n.serial.tx ≠ .idle
  room : n.serial.panel.length ≤ 24
  empty : n.tx.queue = []

theorem Node.Reporting.lined {n : Node} (h : n.Reporting) : n.Lined := Node.lined_of_empty h.active h.empty

theorem Node.Reporting.of_same {n t : Node} (h : n.Reporting) (hloader : t.loader = n.loader)
    (hpower : t.power.phase = n.power.phase) (hserial : t.serial = n.serial) (htx : t.tx = n.tx) : t.Reporting where
  panel := by unfold Node.onPanel; rw [hloader]; exact h.panel
  active := by unfold Node.active; rw [hpower]; exact h.active
  busy := by rw [hserial]; exact h.busy
  room := by rw [hserial]; exact h.room
  empty := by rw [htx]; exact h.empty

theorem Node.role_of_onPanel {n : Node} (h : n.onPanel = true) : n.cfg.role = .panelAttached := by
  unfold Node.onPanel at h
  unfold Node.cfg
  cases himage : n.loader.image with
  | none => rw [himage] at h; cases h
  | some img =>
    rw [himage] at h
    exact beq_iff_eq.mp h

/-- What a command forms is what the work in it forms. -/
theorem forms_of_settleWoken {c : Instr} {s : State} {m : Node} {rs : List EventRecord}
    (hexec : exec c s = .next { s with node := m.settleWoken }) (h : s.node.Forms m rs)
    (hbusy : s.node.serial.tx ≠ .idle) : ∃ t, exec c s = .next t ∧
      t.node.serial.panel = s.node.serial.panel ++ rs ∧ t.node.serial.lost = s.node.serial.lost :=
  ⟨_, hexec, (h.settledWoken hbusy).panel, (h.settledWoken hbusy).lost⟩

/-- What a delivery forms is what the frame's consumer forms. -/
theorem forms_of_useDelivery {s : State} {i : Nat} {x : Slot} {m : Node} {rs : List EventRecord}
    (hs : s.node.rx.service = some ⟨i, .useDelivery⟩) (hx : s.node.rx.slots[i]? = some (some x))
    (hm : (s.node.reportUse x.frame.cls).consume x.frame = m) (h : s.node.Forms m rs)
    (hbusy : s.node.serial.tx ≠ .idle) : ∃ t, exec .useDelivery s = .next t ∧
      t.node.serial.panel = s.node.serial.panel ++ rs ∧ t.node.serial.lost = s.node.serial.lost := by
  obtain ⟨t, hexec, -, -, -, -, hserial⟩ := exec_useDelivery_ends hs hx hm
  have hkept := hserial (by rw [h.tx]; exact hbusy)
  exact ⟨t, hexec, by rw [hkept]; exact h.panel, by rw [hkept]; exact h.lost⟩

section
variable {n : Node}

theorem Node.held_forms (n : Node) : n.Forms n.held [] := .of_same rfl rfl rfl

theorem Node.Reporting.held (h : n.Reporting) : n.held.Reporting := h.of_same rfl rfl rfl rfl

theorem AlarmUnit.noteOrigin_state (a : AlarmUnit) (o : OriginEntry) : (a.noteOrigin o).state = a.state := by
  unfold AlarmUnit.noteOrigin
  split <;> rfl

/-- The ALARM of another node that calls for no new decision forms its record (R76). -/
theorem Node.Reporting.remoteAlarm_forms (h : n.Reporting) {f : Header} {cause : Cause} {lv q hx : Byte}
    (ho : f.origin ≠ n.cfg.address) (ht : f.test = false) (hq : f.zone ≠ n.cfg.zone ∨ n.alarm.state ≠ .confirming) :
    n.Forms (n.remoteAlarm f cause lv q hx) [n.alarmRecord false f.origin f.zone cause lv q hx] := by
  rw [Node.remoteAlarm_noted ho ht rfl
    (.inr (hq.imp id fun hs => .inl (by rw [AlarmUnit.noteOrigin_state]; exact hs)))]
  exact Node.record_beside_forms h.panel (Nat.lt_of_le_of_lt h.room (by decide)) _ _

/-- An applied command forms its record, a RESET after that of the PRE_ALARM it ends (R79, R183). -/
theorem Node.Reporting.applyCommand_forms (h : n.Reporting) (c : Command) :
    n.Forms (n.applyCommand c) (if c = .reset then n.clearedRecord .preAlarm none else []) := by
  cases c with
  | silence => exact .of_same rfl rfl rfl
  | testOff => exact .of_same rfl rfl rfl
  | testOn =>
    show n.Forms (if n.alarm.state == .alarm then n else _) []
    split <;> exact .of_same rfl rfl rfl
  | reset =>
    have hrested : n.rested.Reporting := h.of_same rfl rfl rfl rfl
    have hforms := hrested.lined.deliver_clear_forms (by rw [hrested.empty]; decide) hrested.panel
      (Nat.lt_of_le_of_lt hrested.room (by decide)) .preAlarm none
    have hsame : n.Forms n.rested [] := .of_same rfl rfl rfl
    exact hsame.trans hforms

theorem Node.Reporting.control_forms (h : n.Reporting) {c : Command} {target : ZoneCode} {origin : Byte}
    {zone : ZoneCode} (ht : target = 0 ∨ target = n.cfg.zone) (hr : ¬(c = .testOn ∧ n.alarm.state = .alarm)) :
    n.Forms (n.control c target origin zone)
      ((if c = .reset then n.clearedRecord .preAlarm none else []) ++ [n.controlRecord c origin zone]) := by
  rw [Node.control_applied ht (fun hc hs => hr ⟨hc, hs⟩)]
  have hforms := h.applyCommand_forms c
  have hcount := n.clearedRecord_length .preAlarm none
  have hlen : (if c = .reset then n.clearedRecord .preAlarm none else []).length ≤ 1 := by
    split
    · exact hcount
    · simp
  have hroom := h.room
  have hrecord := Node.record_forms (hforms.onPanel.trans h.panel) (by rw [hforms.length]; omega)
    (n.controlRecord c origin zone)
  exact hforms.trans hrecord

theorem Node.control_forms_nothing {c : Command} {target : ZoneCode} {origin : Byte} {zone : ZoneCode}
    (h : ¬((target = 0 ∨ target = n.cfg.zone) ∧ ¬(c = .testOn ∧ n.alarm.state = .alarm))) :
    n.control c target origin zone = n := by
  by_cases ht : target = 0 ∨ target = n.cfg.zone
  · obtain ⟨rfl, hs⟩ : c = .testOn ∧ n.alarm.state = .alarm := by
      by_contra hr
      exact h ⟨ht, hr⟩
    exact Node.control_refused hs
  · exact Node.control_elsewhere ht

/-- A debounced tamper change that changes the notice set forms its record (R175). -/
theorem Node.Reporting.tamper_forms (h : n.Reporting)
    (hm : NoticeItem.mk .tamper none ∈ n.alarm.notices ↔ n.out.offBase = false) :
    n.Forms n.tamperChanged [n.ownNoticeRecord .ownNotice .tamper n.out.offBase none] := by
  have hroom : n.serial.panel.length < 32 := Nat.lt_of_le_of_lt h.room (by decide)
  have hl : n.tx.queue.length < 8 := by rw [h.empty]; decide
  rw [Node.tamperChanged_active h.active]
  cases hoff : n.out.offBase with
  | true =>
    exact h.lined.deliver_raise_forms hl h.panel hroom (fun hin => by rw [hm, hoff] at hin; cases hin)
  | false =>
    have hforms := h.lined.deliver_clear_forms hl h.panel hroom .tamper none
    rw [Node.clearedRecord, if_pos (hm.mpr hoff)] at hforms
    exact hforms

/-- An event, then the clear of PRE_ALARM: the event's record first (R71). -/
theorem Node.Reporting.unconfirmed_forms (h : n.Reporting) :
    n.Forms (n.deliver [.event .unconfirmed none, .clear .preAlarm none])
      (n.ownNoticeRecord .ownEvent .unconfirmed true none :: n.clearedRecord .preAlarm none) := by
  have hroom := h.room
  have hl : n.tx.queue.length < 8 := by rw [h.empty]; decide
  have hevent := h.lined.deliver_event_forms hl h.panel (by omega) .unconfirmed none
  have hnotifies := h.lined.deliver_one (t := .event .unconfirmed none) hl rfl
  have hqueue := hnotifies.length_le
  rw [h.empty] at hqueue
  have hclear := hnotifies.lined.deliver_clear_forms (by simp at hqueue; omega) (hevent.onPanel.trans h.panel)
    (by rw [hevent.length]; simp; omega) .preAlarm none
  have hitems : NoticeItem.mk .preAlarm none ∈ (n.deliver [.event .unconfirmed none]).alarm.notices ↔
      NoticeItem.mk .preAlarm none ∈ n.alarm.notices := Node.deliver_unasked (by decide) _ _ (by simp) (by simp)
  rw [hevent.clearedRecord hitems] at hclear
  exact hevent.trans hclear

/-- The end of a loss: the record of the PEER_LOST cleared, then that of PEER_RESTORED (R59). -/
theorem Node.Reporting.restored_forms (h : n.Reporting) {a : Byte} (hm : NoticeItem.mk .peerLost (some a) ∈ n.alarm.notices) :
    n.Forms (n.deliver [.clear .peerLost (some a), .event .peerRestored (some a)])
      [n.ownNoticeRecord .ownNotice .peerLost false (some a), n.ownNoticeRecord .ownEvent .peerRestored true (some a)] := by
  have hroom := h.room
  have hl : n.tx.queue.length < 8 := by rw [h.empty]; decide
  have hclear := h.lined.deliver_clear_forms hl h.panel (by omega) .peerLost (some a)
  rw [Node.clearedRecord, if_pos hm] at hclear
  have hnotifies := h.lined.deliver_one (t := .clear .peerLost (some a)) hl rfl
  have hqueue := hnotifies.length_le
  rw [h.empty] at hqueue
  have hevent := hnotifies.lined.deliver_event_forms (by simp at hqueue; omega) (hclear.onPanel.trans h.panel)
    (by rw [hclear.length]; simp; omega) .peerRestored (some a)
  rw [hclear.ownRecord] at hevent
  exact hclear.trans hevent

/-- The sensor notices are requests (R29, R39, R40). -/
theorem evidenceTasks_requests (before after : Evidence) (u : Task) (h : u ∈ evidenceTasks before after) :
    ∃ k s, u = .raise k s ∨ u = .clear k s := by
  have hflag : ∀ (k : NoticeKind) (c r : Bool), u ∈ flagTask k c r → ∃ k s, u = .raise k s ∨ u = .clear k s := by
    intro k c r hm
    cases c with
    | false => cases hm
    | true =>
      cases r with
      | true => exact ⟨k, none, .inl (List.mem_singleton.mp hm)⟩
      | false => exact ⟨k, none, .inr (List.mem_singleton.mp hm)⟩
  simp only [evidenceTasks, List.mem_append] at h
  rcases h with (h | h) | h
  · exact hflag _ _ _ h
  · exact hflag _ _ _ h
  · exact hflag _ _ _ h

/-- The sensor notices of a record form OWN NOTICE records only, at most three. -/
theorem Node.Reporting.published_forms (h : n.Reporting) (r : SampleRecord) : ∃ rs, n.Forms (n.published r) rs ∧
    rs.length ≤ 3 ∧ ∀ y ∈ rs, y.kind = .ownNotice := by
  obtain ⟨m, hm⟩ : ∃ m : Node, m = { n with evidence := { n.sampled r with inHand := none } } := ⟨_, rfl⟩
  have hreporting : m.Reporting := by rw [hm]; exact h.of_same rfl rfl rfl rfl
  have hsame : n.Forms m [] := by rw [hm]; exact .of_same rfl rfl rfl
  have hlen := evidenceTasks_length n.evidence (n.sampled r)
  have hroom := hreporting.room
  obtain ⟨rs, hforms, hcount, hkinds⟩ := Node.deliver_requests_forms (ts := evidenceTasks n.evidence (n.sampled r))
    hreporting.lined (by rw [hreporting.empty]; simp; omega) hreporting.panel (by omega) (evidenceTasks_requests _ _)
  have hpublished : n.published r = m.deliver (evidenceTasks n.evidence (n.sampled r)) := by rw [hm]; rfl
  rw [hpublished]
  exact ⟨rs, hsame.trans hforms, by omega, hkinds⟩

/-- The sample that confirms in mode NONE outside walk test: sensor notices, the PRE_ALARM that ends, and the ALARM
(R68, R72). -/
theorem Node.Reporting.confirmed_forms (h : n.Reporting) {r : SampleRecord} (hs : n.Sample r)
    (hstate : n.alarm.state = .confirming) (hwalk : n.alarm.walkTest = none)
    (hcount : n.cfg.confirm ≤ n.alarm.confirmCount + 1) (hmode : n.cfg.mode = .none)
    (hlv : n.cfg.alarm ≤ (n.sampled r).lv) :
    ∃ (k : Node) (before : List EventRecord), k.cfg = n.cfg ∧ k.clock = n.clock ∧
      k.evidence = { n.sampled r with inHand := none } ∧ (∀ y ∈ before, y.kind = .ownNotice) ∧
      n.Forms n.publish (before ++ n.clearedRecord .preAlarm none ++ [k.ownAlarmRecord false (n.sampled r).lv]) := by
  obtain ⟨before, hpublished, hlen, hkinds⟩ := h.published_forms r
  obtain ⟨k, hk⟩ : ∃ k : Node, k = (n.published r).counting := ⟨_, rfl⟩
  have hsame : (n.published r).Forms k [] := by rw [hk]; exact .of_same rfl rfl rfl
  have hforms := hpublished.trans hsame
  rw [List.append_nil] at hforms
  have hnotifies := n.published_notifies r h.active h.empty
  have hqueue := hnotifies.length_le
  rw [h.empty, List.length_nil, Nat.zero_add] at hqueue
  have hlined : k.Lined := by rw [hk]; exact hnotifies.lined.of_same rfl rfl rfl
  have hktx : k.tx = (n.published r).tx := by rw [hk]; rfl
  have hroom := h.room
  have hentered := Node.enterAlarm_forms hlined (by rw [hktx]; omega) (hforms.onPanel.trans h.panel)
    (by rw [hforms.length]; omega) (n.sampled r).lv
  have hitems : NoticeItem.mk .preAlarm none ∈ k.alarm.notices ↔ NoticeItem.mk .preAlarm none ∈ n.alarm.notices := by
    rw [hk]
    exact n.published_preAlarm r
  rw [hforms.clearedRecord hitems] at hentered
  have hjudged : (n.published r).judge (n.sampled r).lv = k.enterAlarm (n.sampled r).lv := by
    have hkmode : k.cfg.mode = .none := by rw [hforms.cfg]; exact hmode
    have hkwalk : k.alarm.walkTest = none := by rw [hk]; exact (n.published_alarmWalkTest r).trans hwalk
    have hpass : k.Passes (n.sampled r).lv := by
      right
      simp [Node.Corroborated, hkmode]
    rw [Node.judge_confirming ((n.published_alarmState r).trans hstate),
      Node.judgeConfirming_high (by rw [n.published_cfg r]; exact hlv),
      if_pos (by rw [n.published_cfg r, n.published_alarmConfirmCount r]; exact hcount)]
    rw [← hk, Node.decideConfirmation_passed hpass]
    unfold Node.confirm
    rw [if_neg (by simp [hkwalk])]
  have hjudgeLength := Node.judge_queue_length (n.sampled r).lv (n := n.published r) (by omega)
  have hjudgeActive : ((n.published r).judge (n.sampled r).lv).active = true := by
    have hacts := (n.published r).judge_acts (n.sampled r).lv
    simpa [Node.active, hacts.power] using h.active
  have hsent := Node.sendEvidence_forms hjudgeActive (by omega)
  rw [hjudged] at hsent
  have hall := ((hforms.trans hentered).trans hsent).trans (Node.takeRecord_forms _)
  rw [hs.publish_eq, hjudged]
  refine ⟨k, before, hforms.cfg, hforms.clock, ?_, hkinds, by simpa [List.append_assoc] using hall⟩
  rw [hk]
  exact n.published_sampled r

/-! ## A good frame from a lost subject -/

/-- A good frame counts for link health without a change of the link state, while RFC is at most 127 (R153). -/
theorem Node.passed_eq (hrfc : n.link.rfc ≤ 127) :
    n.passed = { n.endAssembly.linger with link := { n.link with rfc := n.link.rfc - 1 } } := by
  have hlink : n.endAssembly.linger.link = n.link := by rw [Node.linger_eq]; rfl
  have hafter : n.endAssembly.linger.link.afterFrame true = { n.link with rfc := n.link.rfc - 1 } := by
    rw [hlink]
    simp [Link.afterFrame, hrfc]
  refine Node.deliver_single ?_
  show n.endAssembly.linger.setLink (n.endAssembly.linger.link.afterFrame true) = _
  rw [hafter]
  refine Node.setLink_same ?_
  rw [hlink]
  have hbelow : ¬127 < n.link.rfc - 1 := by omega
  have hat : ¬127 < n.link.rfc := by omega
  simp [Link.state, hbelow, hat]

theorem Node.Reporting.passed (h : n.Reporting) (hrfc : n.link.rfc ≤ 127) : n.passed.Reporting := by
  rw [Node.passed_eq hrfc, Node.linger_eq]
  exact h.of_same rfl rfl rfl rfl

/-- The Link Observer forms the records of the loss that ends, where no decision is looked at again (R59, R70). -/
theorem Node.Reporting.observe_forms (h : n.Reporting) {level : Nat} {f : Frame} (h0 : f.hdr.sender ≠ 0)
    (h255 : f.hdr.sender ≠ 255) (hother : f.hdr.sender ≠ n.cfg.address) (hlost : f.hdr.sender ∈ n.peers.lostSubjects)
    (hm : NoticeItem.mk .peerLost (some f.hdr.sender) ∈ n.alarm.notices) (hstate : n.alarm.state ≠ .confirming) :
    n.Forms (n.observe level f) [n.ownNoticeRecord .ownNotice .peerLost false (some f.hdr.sender),
      n.ownNoticeRecord .ownEvent .peerRestored true (some f.hdr.sender)] := by
  obtain ⟨m, hm'⟩ : ∃ m : Node, m = { n with peers := { n.peers with
      lostSubjects := n.peers.lostSubjects.filter (· != f.hdr.sender) } } := ⟨_, rfl⟩
  have hreporting : m.Reporting := by rw [hm']; exact h.of_same rfl rfl rfl rfl
  have hsame : n.Forms m [] := by rw [hm']; exact .of_same rfl rfl rfl
  have hchecked : n.checkLostSubject f.hdr.sender =
      m.deliver [.clear .peerLost (some f.hdr.sender), .event .peerRestored (some f.hdr.sender)] := by
    unfold Node.checkLostSubject
    rw [if_pos (List.contains_iff_mem.mpr hlost), hm']
  have hforms := hreporting.restored_forms (a := f.hdr.sender) (by rw [hm']; exact hm)
  rw [← hchecked, hsame.ownRecord] at hforms
  have htaken : (n.checkLostSubject f.hdr.sender).Forms (n.taken level f) [] := .of_same rfl rfl rfl
  have hall := (hsame.trans hforms).trans htaken
  rw [List.append_nil, List.nil_append] at hall
  have hrest : (n.taken level f).reevaluate = n.taken level f := by
    have htakenState : (n.taken level f).alarm.state = n.alarm.state := by
      have halarm : (n.taken level f).alarm = (n.checkLostSubject f.hdr.sender).alarm := rfl
      rw [halarm, hchecked, (Node.deliver_reported _ _).alarmState, hm']
    simp [Node.reevaluate, htakenState, hstate]
  rcases Node.observe_other (level := level) h0 h255 hother with ho | ho
  · rw [ho]; exact hall
  · rw [ho, hrest]; exact hall

end

end Sys2Proof.Machine

open Sys2Proof.Machine in
/-- Settles O55: each command's work, and the records that work forms, one after another. -/
theorem ownReportsFormRecords : Obligations.OwnReportsFormRecords := by
  unfold Obligations.OwnReportsFormRecords
  intro s hpanel hact hbusy hroom hempty n cfg own forms cleared causeOf
  have h : s.node.Reporting := ⟨hpanel, hact, hbusy, hroom, hempty⟩
  have hroom' : s.node.serial.panel.length < 31 := by omega
  have hheld : s.node.Forms s.node.held [] := s.node.held_forms
  refine ⟨fun i x hs hx => ⟨fun cause lv q hx' hbody htest horigin hzone => ?_, fun cmd zone hbody => ?_⟩,
    fun hdue hne hm => ?_, fun hdue hstate => ?_, fun r hhand hsettled hvalid hstate hwalk hcount hmode => ?_,
    fun start b hhold hreached hwalk => ?_,
    fun bytes level f hstate hlevel hgood h0 h255 hother hlost hitem hquiet hrfc => ?_⟩
  · have hforms := h.held.remoteAlarm_forms (lv := lv) (q := q) (hx := hx') (cause := cause) horigin htest hzone
    exact forms_of_useDelivery hs hx (s.node.consume_alarm hbody) (hheld.trans hforms) hbusy
  · refine ⟨fun happlies => ?_, fun hnot => ?_⟩
    · have hforms := h.held.control_forms (origin := x.frame.hdr.origin) (zone := x.frame.hdr.zone) happlies.1 happlies.2
      exact forms_of_useDelivery hs hx (s.node.consume_control hbody) (hheld.trans hforms) hbusy
    · refine forms_of_useDelivery hs hx (s.node.consume_control hbody) ?_ hbusy
      rw [Node.control_forms_nothing (n := s.node.held) hnot]
      exact hheld
  · have hsame : s.node.Forms s.node.tamperHeld [] := .of_same rfl rfl rfl
    have hreporting : s.node.tamperHeld.Reporting := h.of_same rfl rfl rfl rfl
    exact forms_of_settleWoken (exec_tamperDebounceEnd hdue hne) (hsame.trans (hreporting.tamper_forms hm)) hbusy
  · obtain ⟨m, hm⟩ : ∃ m : Node, m = { s.node with alarm := s.node.alarm.toWatch } := ⟨_, rfl⟩
    have hsame : s.node.Forms m [] := by rw [hm]; exact .of_same rfl rfl rfl
    have hreporting : m.Reporting := by rw [hm]; exact h.of_same rfl rfl rfl rfl
    have hexec : exec .confirmingLimit s = .next { s with
        node := (m.deliver [.event .unconfirmed none, .clear .preAlarm none]).settleWoken } := by
      have hexec : exec .confirmingLimit s = execConfirmingLimit s := rfl
      unfold execConfirmingLimit at hexec
      have hdue' : due s.node.clock s.node.alarm.limit = true := hdue
      have hstate' : s.node.alarm.state = .confirming := hstate
      simp only [hdue', hstate', if_true, beq_self_eq_true, State.go] at hexec
      rw [hexec, hm]
    have hforms := hreporting.unconfirmed_forms
    rw [hsame.ownRecord, hsame.clearedRecord (by rw [hm]; rfl)] at hforms
    exact forms_of_settleWoken hexec (hsame.trans hforms) hbusy
  · have hstate' : s.node.alarm.state = .confirming := hstate
    have hsample : s.node.Sample r := ⟨hhand, hsettled, hvalid, by rw [hstate']; nofun⟩
    have hevidence := Node.published_evidence hhand
    refine ⟨_, exec_evidencePublication s, ?_⟩
    intro e hlv
    have he : e = { s.node.sampled r with inHand := s.node.sensing.input } := hevidence
    have hlv' : s.node.cfg.alarm ≤ (s.node.sampled r).lv := by rw [he] at hlv; exact hlv
    obtain ⟨k, before, hcfg, hclock, hkev, hkinds, hforms⟩ :=
      h.confirmed_forms hsample hstate hwalk hcount hmode hlv'
    have hpanel' := (hforms.settled hbusy).panel
    refine ⟨before, hkinds, hpanel'.trans ?_⟩
    have hrecord : k.ownAlarmRecord false (s.node.sampled r).lv = ⟨.alarm, cfg.address, cfg.zone, causeOf e.q e.hx, false,
        none, byte e.q, byte e.hx, byte e.lv, n.clock, false⟩ := by
      unfold Node.ownAlarmRecord Node.alarmRecord
      rw [Cause.code_causeNow, hkev, hcfg, hclock, he]
      rfl
    rw [hrecord, ← List.append_assoc, ← List.append_assoc]
    rfl
  · obtain ⟨m, hm⟩ : ∃ m : Node, m = s.node.pressedTwo start b := ⟨_, rfl⟩
    have hsame : s.node.Forms m [] := by rw [hm]; exact .of_same rfl rfl rfl
    have hreporting : m.Reporting := by rw [hm]; exact h.of_same rfl rfl rfl rfl
    have hrole : m.cfg.role ≠ .repeater := by
      rw [Node.role_of_onPanel hreporting.panel]
      nofun
    have hexec := exec_testHold2s hhold hreached
    rw [← hm, Node.heldTwo_forced hreporting.active (by rw [hm]; exact hwalk) hrole] at hexec
    have hforms := Node.testConfirm_forms hreporting.lined (by rw [hreporting.empty]; decide) hreporting.panel
      (by rw [hm]; exact hroom') 255
    rw [hsame.clearedRecord (by rw [hm]; rfl)] at hforms
    have hrecord : m.ownAlarmRecord true 255 = ⟨.testAlarm, cfg.address, cfg.zone,
        causeOf n.evidence.q n.evidence.hx, false, none, byte n.evidence.q, byte n.evidence.hx, 255, n.clock, false⟩ := by
      unfold Node.ownAlarmRecord Node.alarmRecord
      rw [Cause.code_causeNow, hm]
      rfl
    rw [hrecord] at hforms
    exact forms_of_settleWoken hexec (hsame.trans hforms) hbusy
  · obtain ⟨o, ho, hexec⟩ := exec_frameEnd_good hstate hlevel hgood
    have hreporting := h.passed hrfc
    have hsame : s.node.Forms s.node.passed [] := by
      rw [Node.passed_eq hrfc, Node.linger_eq]
      exact .of_same rfl rfl rfl
    have hforms := hreporting.observe_forms (level := level) h0 h255 (by rw [Node.passed_cfg]; exact hother)
      (by rw [Node.passed_peers]; exact hlost) ((s.node.passed_mem (by nofun)).mpr hitem)
      (by rw [Node.passed_alarmState]; exact hquiet)
    rw [← ho, hsame.ownRecord] at hforms
    have hrx : o.Forms { o with rx := o.filteredRx f } [] := .of_same rfl rfl rfl
    have hall := ((hsame.trans hforms).trans hrx).settled hbusy
    exact ⟨_, hexec, hall.panel, hall.lost⟩
end
